-- ==== Sys2Proof/Word.lean ====
section
/-! DEFINITION. The words of the module: registers are 32 bits wide (R8), memory is held in bytes, pairs are 64 bits wide. -/

namespace Sys2Proof

/-- A register's word (R8). -/
abbrev Word := BitVec 32

/-- The 64-bit quantity of a _LO and _HI pair (R8). -/
abbrev Pair := BitVec 64

/-- One byte of memory. -/
abbrev Byte := BitVec 8

end Sys2Proof
end

