-- ==== Sys2Proof/Syntax.lean ====
section
/-! DEFINITION. The commands of the module: one constructor for each row of the spec's opcode table, with the bits it carries. -/

namespace Sys2Proof

/-- The two transports of the Hallmark responder (R427): the DOE mailbox, and MCTP on the I3C port. -/
inductive Transport where
  | doe | i3c
  deriving DecidableEq, Repr

/-- How a non-posted request of the module completes (R382): with data, Unsupported Request, Completer Abort, a poisoned completion, or
the completion timeout. -/
inductive Cpl where
  | ok | ur | ca | poisoned | timeout
  deriving DecidableEq, Repr

/-- What a grant of the allocator is held for. -/
inductive OwnerKind where
  | agent | landing | cipher | slotBuf | outBuf | constant | inject | grad | cast | cameo | codec | charm | message | host | transit
  deriving DecidableEq, Repr

/-- The holder of an allocator grant: what it holds the stripes for, and its own number (a task's core and descriptor, a slot, a Bead, a
launch). -/
structure Owner where
  kind : OwnerKind
  key : Nat
  deriving DecidableEq, Repr

/-- An error that a check of a data path detects while a descriptor runs (R153, R158, R185): a corrected word, an
uncorrectable operand word, parity of the accumulator file, parity of a latch, a fault during the write-out; or a pre-emption, a drain or a
migration that stops the descriptor at the boundary after a pass or row (R150); none where nothing is met. The number is the pass, or the
word's address for the first two. -/
inductive Upset where
  | none
  | corrected (addr : Nat)
  | poison (addr : Nat)
  | accParity (pass : Nat)
  | latchParity (pass : Nat)
  | torn (pass : Nat)
  | boundary (pass : Nat)
  deriving DecidableEq, Repr

/-- How a stream transfer ends (R177, R181): its data arrives, a remote read is refused, or a poisoned word is read. -/
inductive TransferEnd where
  | done | refused | poisoned
  deriving DecidableEq, Repr

/-- A remote access, as it is checked at its target (R166, R167): read or write, core-store byte address, length, GEN carried, the
requesting logical core, the bytes of a write, and the placement epoch it was addressed under (R460). -/
structure Access where
  isRead : Bool
  addr : Nat
  len : Nat
  gen : Nat
  source : Nat
  data : List Byte
  epoch : Nat
  deriving DecidableEq, Repr

/-- What the cores have produced of one slot when its round ends (R69, R74): the slot, the output's format, GSCALE and elements per token, its
bytes, and the layer inputs that the backward pass needs, as FP32 words. -/
structure RoundOut where
  slot : Nat
  format : Nat
  gscale : Nat
  width : Nat
  data : List Byte
  inputs : List Word
  deriving DecidableEq, Repr

/-- A key and value block that a member sends round the arc (R77): the slot, the layer, the head group, keys or values, the round, the direction of travel, the
position it goes back to where it carries gradients, its format, where its scales lie, its bytes. -/
structure KvBlock where
  slot : Nat
  layer : Nat
  group : Nat
  values : Bool
  round : Nat
  west : Bool
  back : Option Nat
  format : Nat
  scaleOff : Nat
  scaleLen : Nat
  data : List Byte
  deriving DecidableEq, Repr

/-- What a DMA read of the front end was for (R381, R382): a ring entry, with what the read returned where it succeeded, a constant buffer of the LAUNCH in an entry, an image or patch of the command in an
entry with the byte offset that failed, the read-back of a completion record; each with its queue. -/
inductive DmaRead where
  | ringEntry (queue : Nat) (entry : BitVec 512)
  | constant (queue : Nat) (entry : BitVec 512)
  | image (queue : Nat) (entry : BitVec 512) (offset : Nat)
  | verify (queue : Nat)
  deriving DecidableEq, Repr

/-- What a finished self-test has found on a die (R451): the LBIST signature of each partition (of a core partition with bad columns, the one with
those isolated), the MBIST signature, the rows and the banks repaired, the partition of each bank beyond repair, the bad columns of each core partition that
has any, the core partitions with a sentinel that fails, and the duration. -/
structure BistOut where
  lbist : List (BitVec 64)
  mbist : BitVec 64
  rows : Nat
  banks : Nat
  badBanks : List Nat
  columns : List (Nat × List Nat)
  sentinels : List Nat
  ms : Nat
  deriving DecidableEq, Repr

/-- What a start-up state has found when it ends (R405); each state reads its own parts. LOCKET_BOOT: the loader copy that passes, if one does. STRAPS: the
three readings, position and stage, and whether the rack reference and the PCIe clock are in range. DIE_POWER: the hold-up bank in 0.1 V, and the dies that report
ready. LPDDR_TRAIN: the rate, 0 where a channel fails at the lowest. LPDDR_TEST: the channel of each row repaired, and whether an error lay beyond repair. And the
milliseconds it took. -/
structure StartOut where
  loader : Option Nat
  straps : List (Nat × Nat)
  refclk : Bool
  pcieClk : Bool
  holdup : Nat
  ready : List Nat
  rate : Nat
  repairs : List Nat
  spent : Bool
  ms : Nat
  deriving DecidableEq, Repr
/-- The commands of the module, one for each row of the opcode table, in its order. -/
inductive Instr where
  /-- REG_WRITE, R9: a write of one DWORD at a BAR0 offset; enables says that all its byte enables are set. -/
  | regWrite (addr : Nat) (value : Word) (enables : Bool)
  /-- PAIR_LO_READ, R8: a read of the _LO register at a BAR0 offset. -/
  | pairLoRead (addr : Nat)
  /-- PAIR_HI_WRITE, R8: a write of the _HI register at a BAR0 offset. -/
  | pairHiWrite (addr : Nat) (value : Word)
  /-- BOUNDARY_BEGIN, R23: the armed boundary Clasp stands at its target. -/
  | boundaryBegin
  /-- BOUNDARY_DRAINED, R23: queues and in-flight counters are zero. What the module has learnt of joins by item 10: the arc positions that become MEMBER at this boundary with their lowest and highest Bead versions, the positions in JOIN_WAIT with a content key, whether the replacement of this module's column becomes MEMBER with both its pipeline links up. -/
  | boundaryDrained (joined : List (Nat × Nat × Nat)) (joinable : List Nat) (column : Bool)
  /-- BOUNDARY_APPLIED, R23: items 8 to 10 are complete. -/
  | boundaryApplied
  /-- BOUNDARY_STALL_ABORT, R24: the drain has made no progress for the stall budget of STEP_END. -/
  | boundaryStallAbort
  /-- ABORTED_RELEASE_DONE, R23: items 4 to 7 complete on the ABORTED path. -/
  | abortedReleaseDone
  /-- ROUND_START, R43: the next round of the step's list. -/
  | roundStart
  /-- BEAD_INJECT, R43: the next home Bead of the round, or a key and value block that the stored graph schedules (R77); the error that the read of the home Bead
  meets. -/
  | beadInject (kv : Option KvBlock := none) (upset : Upset := .none)
  /-- BEAD_RX, R48: the Chain port and the Bead's bytes: header, payload, tag. -/
  | beadRx (port : Nat) (bead : List Byte)
  /-- TRANSIT_BEAD_RX, R53: the Chain port and the Bead's bytes. -/
  | transitBeadRx (port : Nat) (bead : List Byte)
  /-- BEAD_TAG_CHECK_DONE, R49: the landing copy, by its place among those held. -/
  | beadTagCheckDone (landing : Nat)
  /-- BEAD_LATE, R51: the Chain port, the weight Bead's ID and the round it is awaited in. -/
  | beadLate (port bead round : Nat)
  /-- RESEND_REQ, R49: the port and the message's bytes. -/
  | resendReq (port : Nat) (message : List Byte)
  /-- CAMEO_FETCH, R50: the port and the message's bytes. -/
  | cameoFetch (port : Nat) (message : List Byte)
  /-- LINK_DOWN, R369: the port: 0 west, 1 east, 2 up, 3 down. -/
  | linkDown (port : Nat)
  /-- FOLD_NOTICE, R54: the port and the message's bytes. -/
  | foldNotice (port : Nat) (message : List Byte)
  /-- JOIN_NEGOTIATE, R40: position, lowest and highest Bead-format version of each member that has advertised, and whether the arc runs already. -/
  | joinNegotiate (ranges : List (Nat × Nat × Nat)) (running : Bool)
  /-- STEP_ABORT, R79: the port and the message's bytes. -/
  | stepAbort (port : Nat) (message : List Byte)
  /-- PIPE_CHUNK_RX, R65: the pipeline port and the chunk's bytes, header first. -/
  | pipeChunkRx (port : Nat) (chunk : List Byte)
  /-- XFER_ACK, R66: the port and the message's bytes. -/
  | xferAck (port : Nat) (message : List Byte)
  /-- RETRANSFER_REQ, R66: the port and the message's bytes. -/
  | retransferReq (port : Nat) (message : List Byte)
  /-- ROUND_END, R69: the round, as the stored graph numbers it, and what the cores have produced of each slot of its set. -/
  | roundEnd (round : Nat) (results : List RoundOut)
  /-- SLOT_RESUME_DONE, R76: the slot whose copy completes. -/
  | slotResumeDone (slot : Nat)
  /-- ARRAY, R139: the logical core whose task issues the descriptor, the descriptor, the error met while it runs. -/
  | array (core : Nat) (desc : BitVec 256) (upset : Upset)
  /-- ARRAY_ELEMENT, R133: the same. -/
  | arrayElement (core : Nat) (desc : BitVec 256) (upset : Upset)
  /-- VEC_COPY, R145: the logical core whose task issues the descriptor, the descriptor, the error met while it runs. -/
  | vecCopy (core : Nat) (desc : BitVec 256) (upset : Upset)
  /-- VEC_ADD, R145: the logical core whose task issues the descriptor, the descriptor, the error met while it runs. -/
  | vecAdd (core : Nat) (desc : BitVec 256) (upset : Upset)
  /-- VEC_SUB, R145: the logical core whose task issues the descriptor, the descriptor, the error met while it runs. -/
  | vecSub (core : Nat) (desc : BitVec 256) (upset : Upset)
  /-- VEC_MUL, R145: the logical core whose task issues the descriptor, the descriptor, the error met while it runs. -/
  | vecMul (core : Nat) (desc : BitVec 256) (upset : Upset)
  /-- VEC_FMA, R145: the logical core whose task issues the descriptor, the descriptor, the error met while it runs. -/
  | vecFma (core : Nat) (desc : BitVec 256) (upset : Upset)
  /-- VEC_MAX, R145: the logical core whose task issues the descriptor, the descriptor, the error met while it runs. -/
  | vecMax (core : Nat) (desc : BitVec 256) (upset : Upset)
  /-- VEC_MIN, R145: the logical core whose task issues the descriptor, the descriptor, the error met while it runs. -/
  | vecMin (core : Nat) (desc : BitVec 256) (upset : Upset)
  /-- VEC_ABS, R145: the logical core whose task issues the descriptor, the descriptor, the error met while it runs. -/
  | vecAbs (core : Nat) (desc : BitVec 256) (upset : Upset)
  /-- VEC_NEG, R145: the logical core whose task issues the descriptor, the descriptor, the error met while it runs. -/
  | vecNeg (core : Nat) (desc : BitVec 256) (upset : Upset)
  /-- VEC_SELECT, R145: the logical core whose task issues the descriptor, the descriptor, the error met while it runs. -/
  | vecSelect (core : Nat) (desc : BitVec 256) (upset : Upset)
  /-- VEC_CMPGT, R145: the logical core whose task issues the descriptor, the descriptor, the error met while it runs. -/
  | vecCmpgt (core : Nat) (desc : BitVec 256) (upset : Upset)
  /-- VEC_RCP, R146: the logical core whose task issues the descriptor, the descriptor, the error met while it runs. -/
  | vecRcp (core : Nat) (desc : BitVec 256) (upset : Upset)
  /-- VEC_SQRT, R146: the logical core whose task issues the descriptor, the descriptor, the error met while it runs. -/
  | vecSqrt (core : Nat) (desc : BitVec 256) (upset : Upset)
  /-- VEC_RSQRT, R146: the logical core whose task issues the descriptor, the descriptor, the error met while it runs. -/
  | vecRsqrt (core : Nat) (desc : BitVec 256) (upset : Upset)
  /-- VEC_EXP2, R146: the logical core whose task issues the descriptor, the descriptor, the error met while it runs. -/
  | vecExp2 (core : Nat) (desc : BitVec 256) (upset : Upset)
  /-- VEC_LOG2, R146: the logical core whose task issues the descriptor, the descriptor, the error met while it runs. -/
  | vecLog2 (core : Nat) (desc : BitVec 256) (upset : Upset)
  /-- VEC_EXP, R146: the logical core whose task issues the descriptor, the descriptor, the error met while it runs. -/
  | vecExp (core : Nat) (desc : BitVec 256) (upset : Upset)
  /-- VEC_LN, R146: the logical core whose task issues the descriptor, the descriptor, the error met while it runs. -/
  | vecLn (core : Nat) (desc : BitVec 256) (upset : Upset)
  /-- VEC_TANH, R146: the logical core whose task issues the descriptor, the descriptor, the error met while it runs. -/
  | vecTanh (core : Nat) (desc : BitVec 256) (upset : Upset)
  /-- VEC_SIGMOID, R146: the logical core whose task issues the descriptor, the descriptor, the error met while it runs. -/
  | vecSigmoid (core : Nat) (desc : BitVec 256) (upset : Upset)
  /-- VEC_SILU, R146: the logical core whose task issues the descriptor, the descriptor, the error met while it runs. -/
  | vecSilu (core : Nat) (desc : BitVec 256) (upset : Upset)
  /-- VEC_GELU, R146: the logical core whose task issues the descriptor, the descriptor, the error met while it runs. -/
  | vecGelu (core : Nat) (desc : BitVec 256) (upset : Upset)
  /-- VEC_SIN, R146: the logical core whose task issues the descriptor, the descriptor, the error met while it runs. -/
  | vecSin (core : Nat) (desc : BitVec 256) (upset : Upset)
  /-- VEC_COS, R146: the logical core whose task issues the descriptor, the descriptor, the error met while it runs. -/
  | vecCos (core : Nat) (desc : BitVec 256) (upset : Upset)
  /-- VEC_EXPSUB, R146: the logical core whose task issues the descriptor, the descriptor, the error met while it runs. -/
  | vecExpsub (core : Nat) (desc : BitVec 256) (upset : Upset)
  /-- VEC_RSUM, R147: the logical core whose task issues the descriptor, the descriptor, the error met while it runs. -/
  | vecRsum (core : Nat) (desc : BitVec 256) (upset : Upset)
  /-- VEC_RSUMSQ, R147: the logical core whose task issues the descriptor, the descriptor, the error met while it runs. -/
  | vecRsumsq (core : Nat) (desc : BitVec 256) (upset : Upset)
  /-- VEC_RMAX, R147: the logical core whose task issues the descriptor, the descriptor, the error met while it runs. -/
  | vecRmax (core : Nat) (desc : BitVec 256) (upset : Upset)
  /-- VEC_RMIN, R147: the logical core whose task issues the descriptor, the descriptor, the error met while it runs. -/
  | vecRmin (core : Nat) (desc : BitVec 256) (upset : Upset)
  /-- DROPOUT, R148: the logical core whose task issues the descriptor, the descriptor, the error met while it runs. -/
  | dropout (core : Nat) (desc : BitVec 256) (upset : Upset)
  /-- UNIFORM, R148: the logical core whose task issues the descriptor, the descriptor, the error met while it runs. -/
  | uniform (core : Nat) (desc : BitVec 256) (upset : Upset)
  /-- TASK_PREEMPT, R288: the logical core. -/
  | taskPreempt (core : Nat)
  /-- RUN, R172: the logical core whose task issues the STREAM descriptor, and the descriptor; ahead says how many descriptors beyond the one the task stands at it lies (R179), 0 where it is left out; the error that its reads of program and indices meet. -/
  | run (core : Nat) (desc : BitVec 256) (ahead : Nat := 0) (upset : Upset := .none)
  /-- FILL, R159: the logical core whose task issues the STREAM descriptor, and the descriptor; ahead says how many descriptors beyond the one the task stands at it lies (R179), 0 where it is left out. -/
  | fill (core : Nat) (desc : BitVec 256) (ahead : Nat := 0)
  /-- COPY, R159: the same, with the error met. -/
  | copy (core : Nat) (desc : BitVec 256) (upset : Upset) (ahead : Nat := 0)
  /-- HSET, R161: the logical core whose task issues the STREAM descriptor, and the descriptor; ahead says how many descriptors beyond the one the task stands at it lies (R179), 0 where it is left out. -/
  | hset (core : Nat) (desc : BitVec 256) (ahead : Nat := 0)
  /-- HCLOSE, R165: the logical core whose task issues the STREAM descriptor, and the descriptor; ahead says how many descriptors beyond the one the task stands at it lies (R179), 0 where it is left out. -/
  | hclose (core : Nat) (desc : BitVec 256) (ahead : Nat := 0)
  /-- WAIT_ARR, R168: the logical core whose task issues the STREAM descriptor, and the descriptor; ahead says how many descriptors beyond the one the task stands at it lies (R179), 0 where it is left out. -/
  | waitArr (core : Nat) (desc : BitVec 256) (ahead : Nat := 0)
  /-- STREAM_TRANSFER_DONE, R177: the logical core, which of its outstanding transfers, oldest 0, completes, how, and the error met on the way. -/
  | streamTransferDone (core : Nat) (index : Nat) (how : TransferEnd) (upset : Upset)
  /-- REMOTE_WRITE, R166: the packet. -/
  | remoteWrite (packet : Access)
  /-- REMOTE_READ, R167: the request, and the error that the read meets. -/
  | remoteRead (packet : Access) (upset : Upset := .none)
  /-- BANK_GATE_PEND, R169: the physical core and the bank that has been idle for GATE_IDLE ticks. -/
  | bankGatePend (core : Nat) (bank : Nat)
  /-- BANK_POWER_OFF, R170: the physical core and the bank. -/
  | bankPowerOff (core : Nat) (bank : Nat)
  /-- BANK_WAKE_DONE, R170: the physical core and the bank. -/
  | bankWakeDone (core : Nat) (bank : Nat)
  /-- ALLOC_REQUEST, R190: an agent requests stripes of an allocation stream. -/
  | allocRequest (stream : Nat) (count : Nat) (owner : Owner)
  /-- ALLOC_WAIT_GRANT, R190: waiting requests are retried. -/
  | allocWaitGrant
  /-- CASKET_NOPROG, R193: the stream whose oldest request has waited NOPROG_LIMIT ticks. -/
  | casketNoprog (stream : Nat)
  /-- TRANSPOSE, R196: the logical core whose task issues the CAST descriptor, the descriptor, the error met. -/
  | transpose (core : Nat) (desc : BitVec 256) (upset : Upset)
  /-- Q_WRITE, R200: a producer's word, with END on the last word of its message, and whether it is poisoned. -/
  | qWrite (queue : Nat) (word : BitVec 64) (last : Bool) (poison : Bool := false)
  /-- Q_READ, R200: a consumer's read; the bits of the stored word that have flipped (64 data bits, END, PAR), and the error that the refill from a spill stripe meets. -/
  | qRead (queue : Nat) (flips : BitVec 66) (upset : Upset)
  /-- Q_FLUSH_REQ, R202: the write of QCTL.FLUSH; the word and END that a producer writes in the same tick, where one does. -/
  | qFlushReq (queue : Nat) (tied : Option (BitVec 64 × Bool))
  /-- GRAD_ADD, R212: the weight Bead's ID, the backward round, the piece. -/
  | gradAdd (bead round piece : Nat)
  /-- GRAD_LATE, R216: the landing copy of the piece, by its place among the landing copies held. -/
  | gradLate (landing : Nat)
  /-- GCONTRIB, R211: the logical core whose task issues the descriptor, the descriptor, the error met while it runs. -/
  | gcontrib (core : Nat) (desc : BitVec 256) (upset : Upset)
  /-- GCLOSE, R218: the descriptor of a logical core's task. -/
  | gclose (core : Nat) (desc : BitVec 256)
  /-- STATISTICS_CLOSE, R218: GRAD.PENDING is 0 under a GCLOSE that waits. -/
  | statisticsClose
  /-- SPAN_CLOSE_COMPLETE, R220: the records of every member of span 0 are in. -/
  | spanCloseComplete
  /-- UPDATE_RECORD_CAST, R224: the UPD Clasp has reached the next record of the step. -/
  | updateRecordCast
  /-- CONVERT, R226: the descriptor of a logical core's task, and what its reads meet. -/
  | convert (core : Nat) (desc : BitVec 256) (u : Upset)
  /-- LOSS, R233: the descriptor of a logical core's task. -/
  | loss (core : Nat) (desc : BitVec 256)
  /-- CAMEO_COMMIT, R241: the commit record that has landed is checked. -/
  | cameoCommit
  /-- CAMEO_REWRITE_CHECK, R242: the host has signalled the restore Clasp. -/
  | cameoRewriteCheck
  /-- VERDICT_HOLD_SET, R242: the word written to HEALTH.VERDICT. -/
  | verdictHoldSet (value : Word)
  /-- ROLLBACK_SET, R245: the word written to HEALTH.CTRL. -/
  | rollbackSet (value : Word)
  /-- SKIP_SET, R118: the word written to FMT.VERDICT. -/
  | skipSet (value : Word)
  /-- CHARM_ADDR, R255: the descriptor of a logical core's task. -/
  | charmAddr (core : Nat) (desc : BitVec 256)
  /-- CGACC, R256: the descriptor of a logical core's task, and what its reads meet. -/
  | cgacc (core : Nat) (desc : BitVec 256) (u : Upset)
  /-- CGACC_RELEASE, R257: the logical core whose CGACC is held. -/
  | cgaccRelease (core : Nat)
  /-- CODEC_COMMIT, R272: the table slot. -/
  | codecCommit (slot : Nat)
  /-- CODEC_TABLE_WRITE, R273: the table slot; word 0 to 33 of its table, or 34 for SLOT.GEN; the value written. -/
  | codecTableWrite (slot : Nat) (word : Nat) (value : Word)
  /-- CODEC_SWITCH_SET, R273: the W1S write of CODEC.CTRL.SWITCH. -/
  | codecSwitchSet
  /-- DOORBELL, R277: the write of FRONT.Q[q].TAIL. -/
  | doorbell (queue : Nat) (value : Word)
  /-- Q_RESTART, R278: the write of FRONT.Q[q].CTRL.RESTART. -/
  | qRestart (queue : Nat)
  /-- CMD_NOP, R280: the ring entry as its DMA read returned it, by queue. -/
  | cmdNop (queue : Nat) (entry : BitVec 512)
  /-- LAUNCH, R286: the ring entry, and the constant buffer's 256 bytes where it names one. -/
  | launch (queue : Nat) (entry : BitVec 512) (const : List Byte)
  /-- GRAPH_LOAD, R283: the ring entry and the image's bytes. -/
  | graphLoad (queue : Nat) (entry : BitVec 512) (image : List Byte)
  /-- GRAPH_PATCH, R284: the ring entry and the patch image's bytes. -/
  | graphPatch (queue : Nat) (entry : BitVec 512) (image : List Byte)
  /-- GRAPH_FREE, R285: the ring entry. -/
  | graphFree (queue : Nat) (entry : BitVec 512)
  /-- STEP_END, R281: the ring entry. -/
  | stepEnd (queue : Nat) (entry : BitVec 512)
  /-- CMD_SIGNAL, R280: the ring entry. -/
  | cmdSignal (queue : Nat) (entry : BitVec 512)
  /-- CMD_RESERVED, R280: the ring entry. -/
  | cmdReserved (queue : Nat) (entry : BitVec 512)
  /-- TASK_START, R286: the logical core. -/
  | taskStart (core : Nat)
  /-- PERSISTENT_POP, R289: the logical core; what has become of the stored word, as for Q_READ. -/
  | persistentPop (core : Nat) (flips : BitVec 66) (upset : Upset)
  /-- TASK_STALL, R294: the logical core. -/
  | taskStall (core : Nat)
  /-- TASK_KILL, R294: the logical core. -/
  | taskKill (core : Nat)
  /-- CTRL_NOP, R291: the logical core whose task issues the CONTROL descriptor, and the descriptor. -/
  | ctrlNop (core : Nat) (desc : BitVec 256)
  /-- ENQUEUE, R290: the logical core whose task issues the CONTROL descriptor, and the descriptor. -/
  | enqueue (core : Nat) (desc : BitVec 256)
  /-- QPUSH, R291: the logical core whose task issues the CONTROL descriptor, and the descriptor. -/
  | qpush (core : Nat) (desc : BitVec 256)
  /-- QOPEN, R203: the logical core whose task issues the CONTROL descriptor, and the descriptor. -/
  | qopen (core : Nat) (desc : BitVec 256)
  /-- QCLOSE, R203: the logical core whose task issues the CONTROL descriptor, and the descriptor. -/
  | qclose (core : Nat) (desc : BitVec 256)
  /-- QFLUSH, R202: the logical core whose task issues the CONTROL descriptor, the descriptor, and the word and END that a producer writes in the same tick, where one does. -/
  | qflush (core : Nat) (desc : BitVec 256) (tied : Option (BitVec 64 × Bool) := none)
  /-- SLOT_OPEN, R67: the logical core whose task issues the CONTROL descriptor, and the descriptor. -/
  | slotOpen (core : Nat) (desc : BitVec 256)
  /-- SLOT_PARK, R76: the logical core whose task issues the CONTROL descriptor, and the descriptor. -/
  | slotPark (core : Nat) (desc : BitVec 256)
  /-- SLOT_RESUME, R69: the logical core whose task issues the CONTROL descriptor, and the descriptor. -/
  | slotResume (core : Nat) (desc : BitVec 256)
  /-- SLOT_CLOSE, R69: the logical core whose task issues the CONTROL descriptor, and the descriptor. -/
  | slotClose (core : Nat) (desc : BitVec 256)
  /-- CONST_ADDR, R291: the logical core whose task issues the CONTROL descriptor, and the descriptor. -/
  | constAddr (core : Nat) (desc : BitVec 256)
  /-- COMPLETION_WRITE, R296: the oldest completed command's record is written. -/
  | completionWrite
  /-- RECORD_VERIFY_DONE, R299: how the read-back of the queue's record completes. -/
  | recordVerifyDone (queue : Nat) (result : Cpl)
  /-- CSTALL_CLEAR, R299: the W1C write of Q[q].STATUS.CSTALL. -/
  | cstallClear (queue : Nat)
  /-- CLASP_SIGNAL, R306: the logical core whose task issues the CLASP descriptor, and the descriptor. -/
  | claspSignal (core : Nat) (desc : BitVec 256)
  /-- CLASP_WAIT, R306: the logical core whose task issues the CLASP descriptor, and the descriptor. -/
  | claspWait (core : Nat) (desc : BitVec 256)
  /-- CLASP_ACQUIRE, R306: the logical core whose task issues the CLASP descriptor, and the descriptor. -/
  | claspAcquire (core : Nat) (desc : BitVec 256)
  /-- CLASP_ARRIVE, R312: the logical core whose task issues the CLASP descriptor, and the descriptor. -/
  | claspArrive (core : Nat) (desc : BitVec 256)
  /-- CLASP_SPAN_ARRIVE, R313: the logical core whose task issues the CLASP descriptor, and the descriptor. -/
  | claspSpanArrive (core : Nat) (desc : BitVec 256)
  /-- CLASP_APPLY, R307: which of the signals on their way, oldest 0, reaches its Clasp's home. -/
  | claspApply (index : Nat)
  /-- CHAIN_SIGNAL, R311: the port and the message's bytes. -/
  | chainSignal (port : Nat) (message : List Byte)
  /-- SPAN_ARRIVE_MSG, R313: the port and the message's bytes. -/
  | spanArriveMsg (port : Nat) (message : List Byte)
  /-- HOST_ADD, R314: the write of CLASP.HOST_ADD. -/
  | hostAdd (amount : Word)
  /-- WATCH_ARM, R314: the write that sets CLASP.WATCH[w].CFG.EN. -/
  | watchArm (watch : Nat)
  /-- CLASP_FORCE, R315: the write of CLASP.FORCE_VAL. -/
  | claspForce (value : Word)
  /-- CLASP_FLAG_CLEAR, R307: the W1C write of CLASP.FLAG[n]: OVF, UNF, MIS from bit 0. -/
  | claspFlagClear (clasp : Nat) (bits : BitVec 3)
  /-- CORE_LEND, R317: the logical core whose task has waited LEND_TICKS ticks on one Clasp. -/
  | coreLend (core : Nat)
  /-- LOUPE_MODE_WRITE, R329: the write of LOUPE.CTRL.MODE. -/
  | loupeModeWrite (mode : Nat)
  /-- LOUPE_RESTART, R334: the write of 1 to LOUPE.CTRL.RESTART. -/
  | loupeRestart
  /-- ALIGN_EDGE, R324: the edge named by ALIGN arrives; the dies whose report differs from it. -/
  | alignEdge (mismatched : List Nat)
  /-- PACE_REGULATE, R337: for each die that regulates, its handshakes counted in these 25 reference edges; a die at its supply ceiling that has missed P by more than 0.1% over 1,024 edges, if any. -/
  | paceRegulate (counts : List (Nat × Nat)) (short : Option Nat)
  /-- POWER_SAMPLE, R339: input voltage in 10 mV units and input current in 10 mA units. -/
  | powerSample (volts : Nat) (amps : Nat)
  /-- THROTTLE_TICK, R340: 100 microseconds have passed. -/
  | throttleTick
  /-- POWER_EMERGENCY, R342: input current has exceeded 72 A for 100 microseconds. -/
  | powerEmergency
  /-- EMERGENCY_CLEAR, R342: input current has been below 69 A for 10 ms. -/
  | emergencyClear
  /-- TEMP_SAMPLE, R345: a die as POWER.TEMP numbers them, and its hottest sensor in degrees Celsius. -/
  | tempSample (die : Nat) (temp : Nat)
  /-- THERMAL_TRIP, R346: a die has been at or above TRIP for 10 microseconds. -/
  | thermalTrip
  /-- COOLANT, R345: the coolant inlet in degrees Celsius and the flow in 0.1 L/min, for 1 s. -/
  | coolant (inlet : Nat) (flow : Nat)
  /-- DROOP, R347: the lowest input voltage seen in these 100 microseconds, in 10 mV units. -/
  | droop (lowest : Nat)
  /-- DROOP_CLEAR, R347: the lowest input voltage of the last 10 ms, in 10 mV units. -/
  | droopClear (volts : Nat)
  /-- POWER_FAIL, R348: input voltage has been below 28 V for 10 microseconds. -/
  | powerFail
  /-- CASKET_BANK_RETENTION, R344: the bank that has been idle for RET_IDLE ticks, and its in-flight write counter. -/
  | casketBankRetention (bank : Nat) (writes : Nat)
  /-- LPDDR_SELF_REFRESH, R344: the rank that has been idle for RET_IDLE ticks, and its in-flight write counter. -/
  | lpddrSelfRefresh (channel : Nat) (rank : Nat) (writes : Nat)
  /-- LINK_EN_WRITE, R368: the Chain port and the value written to CHAIN.CTRL.EN. -/
  | linkEnWrite (port : Nat) (on : Bool)
  /-- PIPE_EN_WRITE, R463: the values written to EN_UP and EN_DN. -/
  | pipeEnWrite (up : Bool) (down : Bool)
  /-- HOLDOFF_DONE, R368: the port. -/
  | holdoffDone (port : Nat)
  /-- LANES_TRAINED, R368: the port and the lanes that finished training. -/
  | lanesTrained (port : Nat) (lanes : BitVec 32)
  /-- TRAIN_TIMEOUT, R368: the port. -/
  | trainTimeout (port : Nat)
  /-- LINK_ALIGNED, R368: the port, the lanes good at both ends as it receives and as it sends, the receive lanes found inverted. -/
  | linkAligned (port : Nat) (rx : BitVec 32) (tx : BitVec 32) (polarity : BitVec 32)
  /-- EXCHANGE, R366: the port and the message's bytes. -/
  | exchange (port : Nat) (message : List Byte)
  /-- EXCHANGE_RESEND, R366: the port. -/
  | exchangeResend (port : Nat)
  /-- RETRAIN, R368: the port whose LINK.CTRL.RETRAIN is written. -/
  | retrain (port : Nat)
  /-- FLIT_DATA, R357: the port; bytes 0 to 7 of the flit, its payload, bytes 0x1008 to 0x100B; its CRC is good. -/
  | flitData (port : Nat) (head : BitVec 64) (payload : List Byte) (tail : BitVec 32)
  /-- FLIT_IDLE, R355: the port; bytes 0 to 7 and 0x1008 to 0x100B of the flit. -/
  | flitIdle (port : Nat) (head : BitVec 64) (tail : BitVec 32)
  /-- FLIT_NAK, R358: the port; bytes 0 to 7 and 0x1008 to 0x100B of the flit. -/
  | flitNak (port : Nat) (head : BitVec 64) (tail : BitVec 32)
  /-- FLIT_LOST, R358: the port, the lane, how many codewords were uncorrectable (0: the CRC failed), whether the lost flit is the next expected. -/
  | flitLost (port : Nat) (lane : Nat) (uncorrectable : Nat) (expected : Bool)
  /-- NAK_TIMEOUT, R358: the port. -/
  | nakTimeout (port : Nat)
  /-- FLIT_SLOT_SEND, R362: the port and the lane whose slot falls due. -/
  | flitSlotSend (port : Nat) (lane : Nat)
  /-- LINK_SILENT, R369: the port. -/
  | linkSilent (port : Nat)
  /-- LANE_FAIL, R370: the port and the receive lane. -/
  | laneFail (port : Nat) (lane : Nat)
  /-- WIDTH_REQ, R370: the port and the message's bytes. -/
  | widthReq (port : Nat) (message : List Byte)
  /-- WIDTH_ACK, R365: the port and the message's bytes. -/
  | widthAck (port : Nat) (message : List Byte)
  /-- STEP_GATE, R361: the port and the message's bytes. -/
  | stepGate (port : Nat) (message : List Byte)
  /-- BAR2_READ, R379: the BAR2 offset, the bytes wanted, and the error that the read meets. -/
  | bar2Read (offset : Nat) (len : Nat) (upset : Upset := .none)
  /-- BAR2_WRITE, R379: the BAR2 offset, the bytes, and the EP bit. -/
  | bar2Write (offset : Nat) (data : List Byte) (poisoned : Bool)
  /-- HOST_RESET, R385: a Conventional Reset, a Hot Reset, a link-down or a Function Level Reset: they act alike. -/
  | hostReset
  /-- DRV_VERSION_WRITE, R387: the word written. -/
  | drvVersionWrite (value : Word)
  /-- DMA_EN_WRITE, R384: the bit written. -/
  | dmaEnWrite (on : Bool)
  /-- D3HOT_ENTER, R390: the host's write of the power state. -/
  | d3hotEnter
  /-- D0_RETURN, R390: the host's write of the power state. -/
  | d0Return
  /-- DMA_READ_DONE, R382: what was read, its host bus address, how it completed; the data of a read that succeeds goes in with the command that uses it. -/
  | dmaReadDone (read : DmaRead) (address : BitVec 64) (result : Cpl)
  /-- MSIX_UNMASK, R388: the vector. -/
  | msixUnmask (vector : Nat)
  /-- DOE_DISCOVERY, R389: the index of the request. -/
  | doeDiscovery (index : Nat)
  /-- DOE_ABORT, R389: the host's write of DOE Abort. -/
  | doeAbort
  /-- GET_VERSION, R427: the transport and the request's bytes. -/
  | getVersion (transport : Transport) (msg : List Byte)
  /-- GET_CAPABILITIES, R427: the transport and the request's bytes. -/
  | getCapabilities (transport : Transport) (msg : List Byte)
  /-- NEGOTIATE_ALGORITHMS, R427: the transport and the request's bytes. -/
  | negotiateAlgorithms (transport : Transport) (msg : List Byte)
  /-- GET_DIGESTS, R427: the transport and the request's bytes. -/
  | getDigests (transport : Transport) (msg : List Byte)
  /-- GET_CERTIFICATE, R427: the transport and the request's bytes. -/
  | getCertificate (transport : Transport) (msg : List Byte)
  /-- CHALLENGE, R427: the transport and the request's bytes. -/
  | challenge (transport : Transport) (msg : List Byte)
  /-- GET_MEASUREMENTS, R428: the transport and the request's bytes. -/
  | getMeasurements (transport : Transport) (msg : List Byte)
  /-- SPDM_UNSUPPORTED, R427: the transport and the request's bytes. -/
  | spdmUnsupported (transport : Transport) (msg : List Byte)
  /-- I3C_ENTDAA, R476: the dynamic address that the controller assigns. -/
  | i3cEntdaa (addr : Nat)
  /-- COLD_START, R405: the lowest input voltage of these 100 ms, in 10 mV units; the slot has shown present throughout. -/
  | coldStart (volts : Nat)
  /-- STARTUP_STATE_DONE, R405: what the state that ends has found. -/
  | startupStateDone (r : StartOut)
  /-- WARM, R407: the KEY of the write. -/
  | warm (key : BitVec 16)
  /-- ERASE, R403: the write of SETUP.CTRL.ERASE. -/
  | erase
  /-- PROGRAM, R403: the write of SETUP.CTRL.PROGRAM; the piece lies in SETUP.IMG_WIN. -/
  | program
  /-- COMMIT, R403: the write of SETUP.CTRL.COMMIT. -/
  | commit
  /-- FLASH_OP_DONE, R403: whether the operation in progress succeeded. -/
  | flashOpDone (ok : Bool)
  /-- AMEND_SUBMIT, R412: the write of SETUP.CTRL.AMEND_SUBMIT; the amendment lies in SETUP.AMEND_BUF. -/
  | amendSubmit
  /-- FW_ERASE, R421: the write of LOCKET.CTRL.FW_ERASE. -/
  | fwErase
  /-- FW_PROGRAM, R421: the write of LOCKET.CTRL.FW_PROGRAM; the piece lies in SETUP.IMG_WIN. -/
  | fwProgram
  /-- FW_COMMIT, R421: the write of LOCKET.CTRL.FW_COMMIT. -/
  | fwCommit
  /-- FW_SWITCH, R423: the KEY of the write. -/
  | fwSwitch (key : BitVec 16)
  /-- SVN_COMMIT, R422: the KEY of the write. -/
  | svnCommit (key : BitVec 16)
  /-- OWNER_SUBMIT, R425: the write of LOCKET.CTRL.OWNER_SUBMIT; the record lies in SETUP.AMEND_BUF. -/
  | ownerSubmit
  /-- KEY_INSTALL, R429: the SLOT of the write; the blob lies in LOCKET.KEY_BUF. -/
  | keyInstall (slot : BitVec 1)
  /-- KEY_CLEAR, R431: the SLOT of the write. -/
  | keyClear (slot : BitVec 1)
  /-- ENC_SLOT_WRITE, R430: the value written. -/
  | encSlotWrite (slot : BitVec 1)
  /-- FLUSH, R438: the write of EVENT.CTRL.FLUSH. -/
  | flush
  /-- CLEAR_SUBMIT, R446: the write of EVENT.CTRL.CLEAR_SUBMIT; the token lies in SETUP.AMEND_BUF. -/
  | clearSubmit
  /-- RD_GO, R445: the write of EVENT.CTRL.RD_GO. -/
  | rdGo
  /-- TOKEN_REFILL, R440: the event code whose bucket gains its token. -/
  | tokenRefill (code : Nat)
  /-- EVENT_SUPPRESSED, R440: a whole lifetime second. -/
  | eventSuppressed
  /-- LIFE_SECOND, R448: a second of operating time; the supply of each die in that second, in mV, which no register holds. -/
  | lifeSecond (supplies : List Nat)
  /-- LIFE_SNAPSHOT, R449: fifteen operating minutes have passed. -/
  | lifeSnapshot
  /-- WRITE_NOW, R448: the write of LIFE.CTRL.WRITE_NOW. -/
  | writeNow
  /-- TEST_CMD, R453: the write of TEST.CMD. -/
  | testCmd (die : Nat) (kind : Nat)
  /-- BIST_DONE, R453: the die whose self-test finishes, and what it found. -/
  | bistDone (die : Nat) (result : BistOut)
  /-- MIGRATE, R459: SPARE.CTRL written with MIGRATE: its LOGICAL and FUSE. -/
  | migrate (logical : Nat) (fuse : Bool)
  /-- CORE_RETIRE, R459: the physical core. -/
  | coreRetire (core : Nat)
  /-- MIGRATION_PASS_BOUNDARY, R460: the migration in progress; its task stands at a boundary of R150. -/
  | migrationPassBoundary
  /-- FORWARDED_ACCESS, R461: the slot that forwards: the oldest access it holds reaches the spare. -/
  | forwardedAccess (old : Nat)
  /-- SLOT_REMOVED, R475: PRSNT_SLOT_N has read high for 100 microseconds. -/
  | slotRemoved
  /-- RACKCLK_LOST, R477: RACKCLK has shown no edge for 10 microseconds. -/
  | rackclkLost
  /-- HOLDUP_LOW, R472: the bank's voltage in 0.1 V units. -/
  | holdupLow (volts : Nat)
  /-- CHAIN_CNT_CLR, R60: port 0 west, 1 east. -/
  | chainCntClr (port : Nat)
  /-- PIPE_CNT_CLR, R81: zeroes the pipeline counters. -/
  | pipeCntClr
  /-- CSTORE_CNT_CLR, R183: the physical core of the slot window. -/
  | cstoreCntClr (core : Nat)
  /-- CASKET_CNT_CLR, R205: zeroes the Casket counters. -/
  | casketCntClr
  /-- GRAD_CNT_CLR, R227: zeroes GRAD.CNT. -/
  | gradCntClr
  /-- CHARM_CNT_CLR, R262: zeroes CHARM.CNT. -/
  | charmCntClr
  /-- CODEC_CNT_CLR, R275: zeroes CODEC.CNT. -/
  | codecCntClr
  /-- FRONT_CNT_CLR, R300: zeroes FRONT.CNT and OVF_LOST. -/
  | frontCntClr
  /-- CLASP_CNT_CLR, R318: zeroes CLASP.CNT. -/
  | claspCntClr
  /-- LOUPE_CNT_CLR, R334: zeroes LOST and VAR.SRC. -/
  | loupeCntClr
  /-- POWER_CNT_CLR, R349: zeroes POWER.CNT. -/
  | powerCntClr
  /-- LINK_CNT_CLR, R372: port 0 west, 1 east, 2 up, 3 down. -/
  | linkCntClr (port : Nat)
  /-- HOSTIF_CNT_CLR, R391: zeroes HOSTIF.CNT. -/
  | hostifCntClr
  /-- SPARE_CNT_CLR, R467: zeroes SPARE.CNT. -/
  | spareCntClr
  /-- BUS_MASTER_ENABLE_WRITE, R384: the bit written. -/
  | busMasterEnableWrite (on : Bool)
  /-- COOLANT_BACK_IN_RANGE, R345: the coolant inlet in degrees Celsius and the flow in 0.1 L/min, for 1 s. -/
  | coolantBackInRange (inlet : Nat) (flow : Nat)
  /-- EVENT_FLUSH_DONE, R444: the flush's programming completes; pageFails names the pages of the flush whose first program failed, eraseFails that the erase ahead failed. -/
  | eventFlushDone (pageFails : List Nat) (eraseFails : Bool)
  /-- LIFE_SNAPSHOT_DONE, R449: the snapshot's flash write completes, or fails. -/
  | lifeSnapshotDone (ok : Bool)
  deriving DecidableEq, Repr

end Sys2Proof
end

