-- ==== Sys2Proof/Machine/Bits.lean ====
section
/-! DEFINITION. Bit fields, little-endian bytes (R7) and the CRC-32C every check of the spec uses. -/

namespace Sys2Proof.Machine

/-- The w bits of x from bit lo up. -/
def bits (x lo w : Nat) : Nat := x / 2 ^ lo % 2 ^ w

/-- Bit i of x. -/
def bit (x i : Nat) : Bool := x / 2 ^ i % 2 == 1

/-- x with its w bits from bit lo up replaced by v (taken modulo 2^w). -/
def insertBits (x lo w v : Nat) : Nat :=
  x / 2 ^ (lo + w) * 2 ^ (lo + w) + v % 2 ^ w * 2 ^ lo + x % 2 ^ lo

/-- 1 for true, 0 for false. -/
def b2n (b : Bool) : Nat := if b then 1 else 0

/-- The k little-endian bytes of n (R7). -/
def natLe (n : Nat) : Nat → List Byte
  | 0 => []
  | k + 1 => BitVec.ofNat 8 n :: natLe (n / 256) k

/-- The number that little-endian bytes spell (R7). -/
def leNat : List Byte → Nat
  | [] => 0
  | b :: r => b.toNat + 256 * leNat r

/-- The number that big-endian bytes spell (fields a published standard defines, R7). -/
def beNat (l : List Byte) : Nat := l.foldl (fun a b => a * 256 + b.toNat) 0

/-- The k big-endian bytes of n. -/
def natBe (n k : Nat) : List Byte := (natLe n k).reverse

/-- k bytes of a byte list from offset o, as a little-endian number; bytes past the end read 0. -/
def leAt (l : List Byte) (o k : Nat) : Nat := leNat ((l.drop o).take k)

/-- The k-byte little-endian field at byte offset o of a block held as one number. -/
def fieldAt (x o k : Nat) : Nat := x / 2 ^ (8 * o) % 2 ^ (8 * k)

/-- The bytes of a block held as one number, k of them. -/
def blockBytes (x k : Nat) : List Byte := natLe x k

/-- x rounded up to a multiple of m. -/
def roundUp (x m : Nat) : Nat := (x + m - 1) / m * m

/-- The quotient rounded up. -/
def ceilDiv (x m : Nat) : Nat := (x + m - 1) / m

/-- Eight steps of the reflected CRC-32C register, polynomial 0x82F63B78. -/
def crcShift : Nat → Nat → Nat
  | 0, c => c
  | k + 1, c => crcShift k (if c % 2 = 1 then (c / 2) ^^^ 0x82F63B78 else c / 2)

/-- One byte into the CRC-32C register. -/
def crcByte (c : Nat) (b : Byte) : Nat := crcShift 8 (c ^^^ b.toNat)

/-- CRC-32C (Castagnoli) of a byte list: register all ones at the start, inverted at the end. -/
def crc32c (l : List Byte) : Nat := (l.foldl crcByte 0xFFFFFFFF) ^^^ 0xFFFFFFFF

/-- Add with saturation at the highest w-bit value. -/
def satAdd (w a b : Nat) : Nat := min (a + b) (2 ^ w - 1)

/-- The element of a list at an index, or a default. -/
def nth {α : Type} (l : List α) (i : Nat) (d : α) : α := (l[i]?).getD d

/-- A list with the element at an index replaced. -/
def setNth {α : Type} : List α → Nat → α → List α
  | [], _, _ => []
  | _ :: r, 0, v => v :: r
  | a :: r, k + 1, v => a :: setNth r k v

/-- The number of the set bits among the low w bits of x. -/
def popCount (x : Nat) : Nat → Nat
  | 0 => 0
  | w + 1 => (if bit x w then 1 else 0) + popCount x w

/-- The lowest set bit among the w low bits of x. -/
def lowestBit (x w : Nat) : Option Nat := (List.range w).find? (fun i => bit x i)

/-- The base-2 logarithm rounded down, of a positive number; 0 for 0. -/
def log2Floor (n : Nat) : Nat := Nat.log2 n

end Sys2Proof.Machine
end

