-- ==== Sys2Proof/Config.lean ====
section
/-! DEFINITION. What one part fixes and the spec does not number, and the free values: constants without a body, so that no proof
can see a value of one. -/

namespace Sys2Proof.Config

/-- Free value: the w bits the machine shows where the spec states no value. The argument is the state's own counter. -/
opaque freeBits (w n : Nat) : BitVec w

/-- Free value: byte k of a run of bytes the machine shows where the spec states none. The first argument is the state's own counter. -/
opaque freeByte (n k : Nat) : BitVec 8

/-- Free value: the number below m (0 when m is 0) the machine chooses where the spec states none. -/
opaque freeBelow (m n : Nat) : Nat

/-- Free value: the rack-reference edges since the last whole lifetime second, of which the model has no clock (R434). -/
opaque subSecondEdges (n : Nat) : Nat

/-- The serial number in the Locket's fuses (R432). -/
opaque serial : BitVec 64

/-- The silicon stepping of the hub die, which configuration space shows as Revision ID (R376). -/
opaque stepping : BitVec 8

/-- BOARD.ID's two bytes (R484). -/
opaque boardRev : BitVec 8
opaque boardAssy : BitVec 8

/-- The bytes the Setting gives the graph store (R282), which the presented dies then hold; no register of the spec holds the number. -/
opaque graphStoreBytes : Nat

/-- The transiting arc that the Setting declares for a Chain port of a module outside it (R52); no register of the spec holds it. -/
opaque transitArc (port : Nat) : Nat

/-- The stripes of the largest Bead of the arc that a Chain port carries transit for (R53, R186): the Setting declares that arc, and no register of the spec holds
what its Beads are. -/
opaque transitBead (port : Nat) : Nat

/-- The virtual stage of a layer (R71): the spec leaves the layers of a chunk to the compiler and names no register for them. -/
opaque layerVstage (layer : Nat) : Nat

/-- The GiB of LPDDR5X at which the home shard that the Setting declares begins (R42); no register of the spec holds it. -/
opaque homeShardGib : Nat

/-- The landing Clasp of a Bead, by BEAD_ID, ROUND and pass (R38): the spec does not say how it is named. -/
opaque landingClasp (bead round : Nat) : Nat

/-- Free values: the cause that a task's abort record carries for a Bead-integrity fault (R49) and for a transfer-integrity fault (R66): R153 lists no code for
either. -/
opaque beadIntegrityCause : Nat
opaque transferIntegrityCause : Nat

/-- The contents of the flash boot area, which Dunavo writes at manufacture (R417). -/
opaque bootByte (addr : Nat) : BitVec 8

/-- The modulus of the Dunavo firmware-signing certificate that a KEY_ID names, where one that chains to the root does (R420, R424). -/
opaque dunavoKey (keyId : Nat) : Option Nat

/-- The module's identity key: its modulus, and the private exponent that never leaves the Locket (R426). -/
opaque identityModulus : Nat
opaque identityPrivate : Nat

/-- The certificates of slot 0's chain, and the hash of its root certificate, byte by byte (R417, R427). -/
opaque certificates : List (BitVec 8)
opaque rootHash (i : Nat) : BitVec 8

/-- The state-handoff format that firmware of a VERSION writes (R423). -/
opaque handoffOf (version : Nat) : Nat

/-- Free value: how a measurement other than an image's or the map's spells what it measures (R428). -/
opaque measuredForm (index : Nat) (fields : List Nat) : List (BitVec 8)

/-- Free value: the CTExponent of the SPDM responder, which the spec does not state (R427). -/
opaque ctExponent : BitVec 8

/-- The rank of an LPDDR5X channel that holds an address (R344): the spec numbers channels (R480) and no ranks. -/
opaque lpddrRank (addr : Nat) : Nat

end Sys2Proof.Config
end

