-- ==== Sys2Proof/Machine/Fields.lean ====
section
/-! DEFINITION. The places of the register fields the spec gives, one name each: its BAR0 offset, its lowest bit, its width
(R485, R486 and the register tables of each chapter; the rule is named beside each field). -/

namespace Sys2Proof.Machine

/-- A field of a register: the BAR0 offset of its register, its lowest bit and its width. -/
structure Fld where
  off : Nat
  lo : Nat
  width : Nat
  deriving DecidableEq, Repr

/-- The slot window of physical core n (R486): n = die x 24 + cluster x 6 + slot. -/
def slotBase (n : Nat) : Nat :=
  0x02000000 + (n / 24) * 0x00100000 + (n % 24 / 6) * 0x00040000 + (n % 6) * 0x8000

/-- The LINK window of port l: 0 west, 1 east, 2 up, 3 down (R485). -/
def linkBase (l : Nat) : Nat :=
  if l < 2 then 0x00801000 + 0x00080000 * l else 0x00A20000 + 0x1000 * (l - 2)

namespace F

/-- R432. -/
def LOCKET_FW_STATUS_SLOT : Fld := ⟨0, 0, 1⟩
/-- R432. -/
def LOCKET_FW_STATUS_LOADER : Fld := ⟨0, 1, 1⟩
/-- R432. -/
def LOCKET_FW_STATUS_RECOVERY : Fld := ⟨0, 2, 1⟩
/-- R432. -/
def LOCKET_FW_STATUS_SWITCHING : Fld := ⟨0, 3, 1⟩
/-- R432. -/
def LOCKET_FW_VERSION_VERSION : Fld := ⟨4, 0, 32⟩
/-- R432. -/
def LOCKET_SVN_COUNT : Fld := ⟨8, 0, 7⟩
/-- R432. -/
def LOCKET_SVN_RUNNING : Fld := ⟨8, 8, 7⟩
/-- R432. -/
def LOCKET_CTRL_FW_ERASE : Fld := ⟨0xC, 0, 1⟩
/-- R432. -/
def LOCKET_CTRL_FW_PROGRAM : Fld := ⟨0xC, 1, 1⟩
/-- R432. -/
def LOCKET_CTRL_FW_COMMIT : Fld := ⟨0xC, 2, 1⟩
/-- R432. -/
def LOCKET_CTRL_FW_SWITCH : Fld := ⟨0xC, 3, 1⟩
/-- R432. -/
def LOCKET_CTRL_SVN_COMMIT : Fld := ⟨0xC, 4, 1⟩
/-- R432. -/
def LOCKET_CTRL_OWNER_SUBMIT : Fld := ⟨0xC, 5, 1⟩
/-- R432. -/
def LOCKET_CTRL_KEY_INSTALL : Fld := ⟨0xC, 6, 1⟩
/-- R432. -/
def LOCKET_CTRL_KEY_CLEAR : Fld := ⟨0xC, 7, 1⟩
/-- R432. -/
def LOCKET_CTRL_SLOT : Fld := ⟨0xC, 8, 1⟩
/-- R432. -/
def LOCKET_CTRL_KEY : Fld := ⟨0xC, 16, 16⟩
/-- R432. -/
def LOCKET_ERR_FW : Fld := ⟨0x10, 0, 1⟩
/-- R432. -/
def LOCKET_ERR_SWITCH : Fld := ⟨0x10, 1, 1⟩
/-- R432. -/
def LOCKET_ERR_OWNER : Fld := ⟨0x10, 2, 1⟩
/-- R432. -/
def LOCKET_ERR_KEY : Fld := ⟨0x10, 3, 1⟩
/-- R432. -/
def LOCKET_ERR_SIGNATURE : Fld := ⟨0x10, 4, 1⟩
/-- R432. -/
def LOCKET_ERR_MASK_MASK : Fld := ⟨0x14, 0, 5⟩
/-- R432. -/
def LOCKET_SERIAL_LO_SERIAL : Fld := ⟨0x18, 0, 32⟩
/-- R432. -/
def LOCKET_SERIAL_HI_SERIAL : Fld := ⟨0x1C, 0, 32⟩
/-- R432. -/
def LOCKET_FW_SLOT_VALID (i : Nat) : Fld := ⟨0x20 + 4 * i, 0, 1⟩
/-- R432. -/
def LOCKET_FW_SLOT_PREFERRED (i : Nat) : Fld := ⟨0x20 + 4 * i, 1, 1⟩
/-- R432. -/
def LOCKET_FW_SLOT_BUSY (i : Nat) : Fld := ⟨0x20 + 4 * i, 2, 1⟩
/-- R432. -/
def LOCKET_FW_SLOT_SVN (i : Nat) : Fld := ⟨0x20 + 4 * i, 8, 7⟩
/-- R432. -/
def LOCKET_KEY_CFG_ENC_SLOT : Fld := ⟨0x28, 0, 1⟩
/-- R432. -/
def LOCKET_KEY_GEN_GEN (i : Nat) : Fld := ⟨0x30 + 4 * i, 0, 32⟩
/-- R432. -/
def LOCKET_KEY_USE_COUNT (i : Nat) : Fld := ⟨0x38 + 4 * i, 0, 32⟩
/-- R432. -/
def LOCKET_OWNER_VALID (i : Nat) : Fld := ⟨0x40 + 4 * i, 0, 1⟩
/-- R432. -/
def LOCKET_KEY_BUF_BYTES (i : Nat) : Fld := ⟨0x1000 + 4 * i, 0, 32⟩
/-- R415. -/
def SETUP_STATE_STATE : Fld := ⟨0x40000, 0, 4⟩
/-- R415. -/
def SETUP_STATE_CAUSE : Fld := ⟨0x40000, 8, 8⟩
/-- R415. -/
def SETUP_STATE_WARM : Fld := ⟨0x40000, 16, 1⟩
/-- R415. -/
def SETUP_IDENT_POS : Fld := ⟨0x40004, 0, 5⟩
/-- R415. -/
def SETUP_IDENT_STAGE : Fld := ⟨0x40004, 5, 6⟩
/-- R415. -/
def SETUP_IDENT_MODULE_ID : Fld := ⟨0x40004, 11, 11⟩
/-- R415. -/
def SETUP_SLOT_VALID (i : Nat) : Fld := ⟨0x40008 + 4 * i, 0, 1⟩
/-- R415. -/
def SETUP_SLOT_ACTIVE (i : Nat) : Fld := ⟨0x40008 + 4 * i, 1, 1⟩
/-- R415. -/
def SETUP_SLOT_BUSY (i : Nat) : Fld := ⟨0x40008 + 4 * i, 2, 1⟩
/-- R415. -/
def SETUP_SLOT_FAIL (i : Nat) : Fld := ⟨0x40008 + 4 * i, 8, 4⟩
/-- R415. -/
def SETUP_SEQ_SEQ (i : Nat) : Fld := ⟨0x40010 + 4 * i, 0, 32⟩
/-- R415. -/
def SETUP_ASEQ_ASEQ : Fld := ⟨0x40018, 0, 32⟩
/-- R415. -/
def SETUP_CTRL_ERASE : Fld := ⟨0x4001C, 0, 1⟩
/-- R415. -/
def SETUP_CTRL_PROGRAM : Fld := ⟨0x4001C, 1, 1⟩
/-- R415. -/
def SETUP_CTRL_COMMIT : Fld := ⟨0x4001C, 2, 1⟩
/-- R415. -/
def SETUP_CTRL_AMEND_SUBMIT : Fld := ⟨0x4001C, 3, 1⟩
/-- R415. -/
def SETUP_CTRL_WARM : Fld := ⟨0x4001C, 4, 1⟩
/-- R415. -/
def SETUP_CTRL_KEY : Fld := ⟨0x4001C, 16, 16⟩
/-- R415. -/
def SETUP_ERR_SETTING : Fld := ⟨0x40020, 0, 1⟩
/-- R415. -/
def SETUP_ERR_FALLBACK : Fld := ⟨0x40020, 1, 1⟩
/-- R415. -/
def SETUP_ERR_PROG : Fld := ⟨0x40020, 2, 1⟩
/-- R415. -/
def SETUP_ERR_AMEND : Fld := ⟨0x40020, 3, 1⟩
/-- R415. -/
def SETUP_ERR_LPDDR : Fld := ⟨0x40020, 4, 1⟩
/-- R415. -/
def SETUP_ERR_MASK_MASK : Fld := ⟨0x40024, 0, 5⟩
/-- R415. -/
def SETUP_LPDDR_RATE : Fld := ⟨0x40028, 0, 2⟩
/-- R415. -/
def SETUP_LPDDR_REPAIRED : Fld := ⟨0x40028, 16, 16⟩
/-- R415. -/
def SETUP_TIME_MS_MS : Fld := ⟨0x4002C, 0, 32⟩
/-- R415. -/
def SETUP_PROG_OFF_PIECE : Fld := ⟨0x40030, 16, 10⟩
/-- R415. -/
def SETUP_AMEND_STATUS : Fld := ⟨0x40034, 0, 2⟩
/-- R415. -/
def SETUP_AMEND_REASON : Fld := ⟨0x40034, 8, 4⟩
/-- R415. -/
def SETUP_FAIL_OFF_OFFSET : Fld := ⟨0x40038, 0, 32⟩
/-- R415. -/
def SETUP_HASH_HASH (i : Nat) : Fld := ⟨0x40040 + 4 * i, 0, 32⟩
/-- R415. -/
def SETUP_IMG_WIN_BYTES (i : Nat) : Fld := ⟨0x50000 + 4 * i, 0, 32⟩
/-- R415. -/
def SETUP_AMEND_BUF_BYTES (i : Nat) : Fld := ⟨0x60000 + 4 * i, 0, 32⟩
/-- R467. -/
def SPARE_CAP_FUSE_MAX : Fld := ⟨0x70000, 0, 8⟩
/-- R467. -/
def SPARE_CFG_UE_LIMIT : Fld := ⟨0x70004, 0, 8⟩
/-- R467. -/
def SPARE_CTRL_MIGRATE : Fld := ⟨0x70008, 0, 1⟩
/-- R467. -/
def SPARE_CTRL_LOGICAL : Fld := ⟨0x70008, 1, 9⟩
/-- R467. -/
def SPARE_CTRL_FUSE : Fld := ⟨0x70008, 10, 1⟩
/-- R467. -/
def SPARE_CTRL_CNT_CLR : Fld := ⟨0x70008, 11, 1⟩
/-- R467. -/
def SPARE_STATUS_MIGRATING : Fld := ⟨0x7000C, 0, 1⟩
/-- R467. -/
def SPARE_STATUS_LOGICAL : Fld := ⟨0x7000C, 1, 9⟩
/-- R467. -/
def SPARE_ERR_NO_SPARE : Fld := ⟨0x70010, 0, 1⟩
/-- R467. -/
def SPARE_ERR_FUSE_FULL : Fld := ⟨0x70010, 1, 1⟩
/-- R467. -/
def SPARE_ERR_FWD_DROP : Fld := ⟨0x70010, 2, 1⟩
/-- R467. -/
def SPARE_ERR_MASK_MASK : Fld := ⟨0x70014, 0, 3⟩
/-- R467. -/
def SPARE_FUSES_USED : Fld := ⟨0x70018, 0, 8⟩
/-- R467. -/
def SPARE_CNT_COUNT (i : Nat) : Fld := ⟨0x70040 + 4 * i, 0, 32⟩
/-- R467. -/
def SPARE_CLUSTER_DISABLED (i : Nat) : Fld := ⟨0x70100 + 4 * i, 0, 6⟩
/-- R467. -/
def SPARE_CLUSTER_PRESENTED (i : Nat) : Fld := ⟨0x70100 + 4 * i, 6, 6⟩
/-- R467. -/
def SPARE_CLUSTER_MOVED (i : Nat) : Fld := ⟨0x70100 + 4 * i, 12, 1⟩
/-- R467. -/
def SPARE_EPOCH_EPOCH (i : Nat) : Fld := ⟨0x70400 + 4 * i, 0, 16⟩
/-- R484. -/
def BOARD_ID_BOARD_REV : Fld := ⟨0x80000, 0, 8⟩
/-- R484. -/
def BOARD_ID_ASSY : Fld := ⟨0x80000, 8, 8⟩
/-- R484. -/
def BOARD_STATUS_PRESENT : Fld := ⟨0x80004, 0, 1⟩
/-- R484. -/
def BOARD_STATUS_HOLDUP_OK : Fld := ⟨0x80004, 1, 1⟩
/-- R484. -/
def BOARD_STATUS_REF_SRC : Fld := ⟨0x80004, 2, 1⟩
/-- R484. -/
def BOARD_STATUS_PCIE_CLK_OK : Fld := ⟨0x80004, 3, 1⟩
/-- R484. -/
def BOARD_STATUS_HOLDUP_V : Fld := ⟨0x80004, 4, 9⟩
/-- R484. -/
def BOARD_ERR_REF_LOST : Fld := ⟨0x80008, 0, 1⟩
/-- R484. -/
def BOARD_ERR_HOLDUP_LOW : Fld := ⟨0x80008, 1, 1⟩
/-- R484. -/
def BOARD_ERR_MASK_MASK : Fld := ⟨0x8000C, 0, 2⟩
/-- R391. -/
def HOSTIF_VERSION_MIN : Fld := ⟨0x100000, 0, 16⟩
/-- R391. -/
def HOSTIF_VERSION_MAX : Fld := ⟨0x100000, 16, 16⟩
/-- R391. -/
def HOSTIF_DRV_VERSION_VERSION : Fld := ⟨0x100004, 0, 16⟩
/-- R391. -/
def HOSTIF_CTRL_DMA_EN : Fld := ⟨0x100008, 0, 1⟩
/-- R391. -/
def HOSTIF_CTRL_CNT_CLR : Fld := ⟨0x100008, 1, 1⟩
/-- R391. -/
def HOSTIF_STATUS_SPEED : Fld := ⟨0x10000C, 0, 4⟩
/-- R391. -/
def HOSTIF_STATUS_WIDTH : Fld := ⟨0x10000C, 4, 4⟩
/-- R391. -/
def HOSTIF_STATUS_FLIT : Fld := ⟨0x10000C, 8, 1⟩
/-- R391. -/
def HOSTIF_STATUS_NEGOTIATED : Fld := ⟨0x10000C, 9, 1⟩
/-- R391. -/
def HOSTIF_STATUS_DMA_GATED : Fld := ⟨0x10000C, 10, 1⟩
/-- R391. -/
def HOSTIF_STATUS_MODULE_READY : Fld := ⟨0x10000C, 11, 1⟩
/-- R391. -/
def HOSTIF_STATUS_RECOVERY : Fld := ⟨0x10000C, 12, 1⟩
/-- R391. -/
def HOSTIF_ERR_EARLY : Fld := ⟨0x100010, 0, 1⟩
/-- R391. -/
def HOSTIF_ERR_UNMAPPED : Fld := ⟨0x100010, 1, 1⟩
/-- R391. -/
def HOSTIF_ERR_POISON_OUT : Fld := ⟨0x100010, 2, 1⟩
/-- R391. -/
def HOSTIF_ERR_POISON_IN : Fld := ⟨0x100010, 3, 1⟩
/-- R391. -/
def HOSTIF_ERR_DMA_RD : Fld := ⟨0x100010, 4, 1⟩
/-- R391. -/
def HOSTIF_ERR_VERSION : Fld := ⟨0x100010, 5, 1⟩
/-- R391. -/
def HOSTIF_ERR_MASK_MASK : Fld := ⟨0x100014, 0, 6⟩
/-- R391. -/
def HOSTIF_WIN_BASE_LO_BASE : Fld := ⟨0x100018, 30, 2⟩
/-- R391. -/
def HOSTIF_WIN_BASE_HI_BASE : Fld := ⟨0x10001C, 0, 16⟩
/-- R391. -/
def HOSTIF_EVENT_VEC_VEC : Fld := ⟨0x100020, 0, 6⟩
/-- R391. -/
def HOSTIF_LAST_ERR_KIND : Fld := ⟨0x100024, 0, 4⟩
/-- R391. -/
def HOSTIF_LAST_ERR_AGENT : Fld := ⟨0x100024, 4, 4⟩
/-- R391. -/
def HOSTIF_LAST_ERR_ADDR_LO_ADDR : Fld := ⟨0x100028, 0, 32⟩
/-- R391. -/
def HOSTIF_LAST_ERR_ADDR_HI_ADDR : Fld := ⟨0x10002C, 0, 32⟩
/-- R391. -/
def HOSTIF_CNT_COUNT (i : Nat) : Fld := ⟨0x100040 + 4 * i, 0, 32⟩
/-- R388. -/
def HOSTIF_MSIX_ADDR_LO_ADDR (i : Nat) : Fld := ⟨0x101000 + 0x10 * i, 2, 30⟩
/-- R388. -/
def HOSTIF_MSIX_ADDR_HI_ADDR (i : Nat) : Fld := ⟨0x101004 + 0x10 * i, 0, 32⟩
/-- R388. -/
def HOSTIF_MSIX_DATA_DATA (i : Nat) : Fld := ⟨0x101008 + 0x10 * i, 0, 32⟩
/-- R388. -/
def HOSTIF_MSIX_CTRL_MASK (i : Nat) : Fld := ⟨0x10100C + 0x10 * i, 0, 1⟩
/-- R388. -/
def HOSTIF_MSIX_PBA_PENDING (i : Nat) : Fld := ⟨0x102000 + 4 * i, 0, 32⟩
/-- R300. -/
def FRONT_CAP_ESHEL_MAX : Fld := ⟨0x200000, 0, 16⟩
/-- R300. -/
def FRONT_CAP_ESHEL_MIN : Fld := ⟨0x200000, 16, 16⟩
/-- R300. -/
def FRONT_STATUS_STEP : Fld := ⟨0x200004, 0, 3⟩
/-- R300. -/
def FRONT_STATUS_ARMED : Fld := ⟨0x200004, 3, 1⟩
/-- R300. -/
def FRONT_ERR_DOORBELL : Fld := ⟨0x200008, 0, 1⟩
/-- R300. -/
def FRONT_ERR_FETCH : Fld := ⟨0x200008, 1, 1⟩
/-- R300. -/
def FRONT_ERR_BAD_CMD : Fld := ⟨0x200008, 2, 1⟩
/-- R300. -/
def FRONT_ERR_GRAPH_REFUSED : Fld := ⟨0x200008, 3, 1⟩
/-- R300. -/
def FRONT_ERR_STALL : Fld := ⟨0x200008, 4, 1⟩
/-- R300. -/
def FRONT_ERR_CSTALL : Fld := ⟨0x200008, 5, 1⟩
/-- R300. -/
def FRONT_ERR_OVF_LOST : Fld := ⟨0x200008, 6, 1⟩
/-- R300. -/
def FRONT_ERR_ENQ_DROPPED : Fld := ⟨0x200008, 7, 1⟩
/-- R300. -/
def FRONT_ERR_MASK_MASK : Fld := ⟨0x20000C, 0, 8⟩
/-- R300. -/
def FRONT_DRAIN_LIMIT_TICKS : Fld := ⟨0x200010, 0, 32⟩
/-- R300. -/
def FRONT_CTRL_CNT_CLR : Fld := ⟨0x200014, 0, 1⟩
/-- R300. -/
def FRONT_BOUNDARY_CLASP : Fld := ⟨0x200018, 0, 12⟩
/-- R300. -/
def FRONT_BOUNDARY_TARGET_TARGET : Fld := ⟨0x20001C, 0, 32⟩
/-- R300. -/
def FRONT_OVF_WR_PTR : Fld := ⟨0x200020, 0, 13⟩
/-- R300. -/
def FRONT_OVF_RD_PTR : Fld := ⟨0x200024, 0, 13⟩
/-- R300. -/
def FRONT_OVF_LOST_COUNT : Fld := ⟨0x200028, 0, 32⟩
/-- R300. -/
def FRONT_CNT_COUNT (i : Nat) : Fld := ⟨0x200040 + 4 * i, 0, 32⟩
/-- R300. -/
def FRONT_Q_BASE_LO_ADDR (i : Nat) : Fld := ⟨0x200100 + 0x40 * i, 0, 32⟩
/-- R300. -/
def FRONT_Q_BASE_HI_ADDR (i : Nat) : Fld := ⟨0x200104 + 0x40 * i, 0, 32⟩
/-- R300. -/
def FRONT_Q_CBASE_LO_ADDR (i : Nat) : Fld := ⟨0x200108 + 0x40 * i, 0, 32⟩
/-- R300. -/
def FRONT_Q_CBASE_HI_ADDR (i : Nat) : Fld := ⟨0x20010C + 0x40 * i, 0, 32⟩
/-- R300. -/
def FRONT_Q_CFG_LOG2_SIZE (i : Nat) : Fld := ⟨0x200110 + 0x40 * i, 0, 5⟩
/-- R300. -/
def FRONT_Q_CFG_EN (i : Nat) : Fld := ⟨0x200110 + 0x40 * i, 5, 1⟩
/-- R300. -/
def FRONT_Q_CFG_VERIFY (i : Nat) : Fld := ⟨0x200110 + 0x40 * i, 6, 1⟩
/-- R300. -/
def FRONT_Q_CFG_PREEMPT (i : Nat) : Fld := ⟨0x200110 + 0x40 * i, 7, 1⟩
/-- R300. -/
def FRONT_Q_CFG_VEC (i : Nat) : Fld := ⟨0x200110 + 0x40 * i, 8, 6⟩
/-- R300. -/
def FRONT_Q_TAIL_INDEX (i : Nat) : Fld := ⟨0x200114 + 0x40 * i, 0, 16⟩
/-- R300. -/
def FRONT_Q_HEAD_INDEX (i : Nat) : Fld := ⟨0x200118 + 0x40 * i, 0, 16⟩
/-- R300. -/
def FRONT_Q_CTAIL_INDEX (i : Nat) : Fld := ⟨0x20011C + 0x40 * i, 0, 16⟩
/-- R300. -/
def FRONT_Q_STATUS_FETCH_ERR (i : Nat) : Fld := ⟨0x200120 + 0x40 * i, 0, 1⟩
/-- R300. -/
def FRONT_Q_STATUS_CSTALL (i : Nat) : Fld := ⟨0x200120 + 0x40 * i, 1, 1⟩
/-- R300. -/
def FRONT_Q_STATUS_ACTIVE (i : Nat) : Fld := ⟨0x200120 + 0x40 * i, 16, 16⟩
/-- R300. -/
def FRONT_Q_STALL_UNITS (i : Nat) : Fld := ⟨0x200124 + 0x40 * i, 0, 32⟩
/-- R300. -/
def FRONT_Q_CTRL_RESTART (i : Nat) : Fld := ⟨0x200128 + 0x40 * i, 0, 1⟩
/-- R300. -/
def FRONT_GRAPH_STATE_VALID (i : Nat) : Fld := ⟨0x201000 + 0x10 * i, 0, 1⟩
/-- R300. -/
def FRONT_GRAPH_STATE_HELD_M1 (i : Nat) : Fld := ⟨0x201000 + 0x10 * i, 1, 3⟩
/-- R300. -/
def FRONT_GRAPH_STATE_CURRENT (i : Nat) : Fld := ⟨0x201000 + 0x10 * i, 16, 16⟩
/-- R300. -/
def FRONT_GRAPH_REFS_COUNT (i : Nat) : Fld := ⟨0x201004 + 0x10 * i, 0, 32⟩
/-- R299. -/
def FRONT_OVF_WORD (i : Nat) : Fld := ⟨0x220000 + 4 * i, 0, 32⟩
/-- R205. -/
def CASKET_CAP_BANKS : Fld := ⟨0x400000, 0, 11⟩
/-- R205. -/
def CASKET_CAP_STREAMS : Fld := ⟨0x400000, 11, 6⟩
/-- R205. -/
def CASKET_CAP_QUEUES : Fld := ⟨0x400000, 17, 12⟩
/-- R205. -/
def CASKET_CTRL_CNT_CLR : Fld := ⟨0x400004, 0, 1⟩
/-- R205. -/
def CASKET_ERR_CE : Fld := ⟨0x400008, 0, 1⟩
/-- R205. -/
def CASKET_ERR_UE : Fld := ⟨0x400008, 1, 1⟩
/-- R205. -/
def CASKET_ERR_NOPROG : Fld := ⟨0x400008, 2, 1⟩
/-- R205. -/
def CASKET_ERR_ALLOC_REFUSED : Fld := ⟨0x400008, 3, 1⟩
/-- R205. -/
def CASKET_ERR_Q_OVERRUN : Fld := ⟨0x400008, 4, 1⟩
/-- R205. -/
def CASKET_ERR_Q_PARITY : Fld := ⟨0x400008, 5, 1⟩
/-- R205. -/
def CASKET_ERR_Q_FLUSH_TIE : Fld := ⟨0x400008, 6, 1⟩
/-- R205. -/
def CASKET_ERR_MASK_MASK : Fld := ⟨0x40000C, 0, 7⟩
/-- R205. -/
def CASKET_POOL_BASE_STRIPE : Fld := ⟨0x400010, 0, 23⟩
/-- R205. -/
def CASKET_POOL_SIZE_STRIPES : Fld := ⟨0x400014, 0, 24⟩
/-- R205. -/
def CASKET_SHARED_FREE_STRIPES : Fld := ⟨0x400018, 0, 24⟩
/-- R205. -/
def CASKET_SHARED_MIN_STRIPES : Fld := ⟨0x40001C, 0, 24⟩
/-- R205. -/
def CASKET_NOPROG_LIMIT_TICKS : Fld := ⟨0x400020, 0, 32⟩
/-- R205. -/
def CASKET_LAST_NOPROG_STREAM : Fld := ⟨0x400024, 0, 5⟩
/-- R205. -/
def CASKET_LAST_NOPROG_N : Fld := ⟨0x400024, 5, 24⟩
/-- R205. -/
def CASKET_CE_COUNT : Fld := ⟨0x400028, 0, 32⟩
/-- R205. -/
def CASKET_UE_COUNT : Fld := ⟨0x40002C, 0, 32⟩
/-- R205. -/
def CASKET_Q_OVR_COUNT : Fld := ⟨0x400030, 0, 32⟩
/-- R205. -/
def CASKET_Q_PAR_COUNT : Fld := ⟨0x400034, 0, 32⟩
/-- R205. -/
def CASKET_TRANSIT_BASE (i : Nat) : Fld := ⟨0x400040 + 4 * i, 0, 13⟩
/-- R205. -/
def CASKET_TRANSIT_SIZE (i : Nat) : Fld := ⟨0x400040 + 4 * i, 16, 13⟩
/-- R205. -/
def CASKET_SPILL_BASE : Fld := ⟨0x400048, 0, 13⟩
/-- R205. -/
def CASKET_SPILL_SIZE : Fld := ⟨0x400048, 16, 13⟩
/-- R205. -/
def CASKET_FLOOR_STRIPES (i : Nat) : Fld := ⟨0x400100 + 0x10 * i, 0, 23⟩
/-- R205. -/
def CASKET_SLOT_STRIPES (i : Nat) : Fld := ⟨0x400104 + 0x10 * i, 0, 23⟩
/-- R205. -/
def CASKET_LIMIT_STRIPES (i : Nat) : Fld := ⟨0x400108 + 0x10 * i, 0, 24⟩
/-- R205. -/
def CASKET_STAT_NOPROG (i : Nat) : Fld := ⟨0x40010C + 0x10 * i, 0, 30⟩
/-- R205. -/
def CASKET_STAT_WAITING (i : Nat) : Fld := ⟨0x40010C + 0x10 * i, 30, 1⟩
/-- R205. -/
def CASKET_USE_STRIPES (i : Nat) : Fld := ⟨0x400300 + 4 * i, 0, 24⟩
/-- R205. -/
def CASKET_QCFG_MID (i : Nat) : Fld := ⟨0x410000 + 0x10 * i, 0, 16⟩
/-- R205. -/
def CASKET_QCFG_VALID (i : Nat) : Fld := ⟨0x410000 + 0x10 * i, 16, 1⟩
/-- R205. -/
def CASKET_QCFG_CROSSING (i : Nat) : Fld := ⟨0x410000 + 0x10 * i, 17, 1⟩
/-- R205. -/
def CASKET_QBASE_STRIPE (i : Nat) : Fld := ⟨0x410004 + 0x10 * i, 0, 24⟩
/-- R205. -/
def CASKET_QSTAT_COUNT (i : Nat) : Fld := ⟨0x410008 + 0x10 * i, 0, 22⟩
/-- R205. -/
def CASKET_QSTAT_EMPTY (i : Nat) : Fld := ⟨0x410008 + 0x10 * i, 22, 1⟩
/-- R205. -/
def CASKET_QSTAT_FULL (i : Nat) : Fld := ⟨0x410008 + 0x10 * i, 23, 1⟩
/-- R205. -/
def CASKET_QSTAT_OVR (i : Nat) : Fld := ⟨0x410008 + 0x10 * i, 24, 1⟩
/-- R205. -/
def CASKET_QSTAT_PAR (i : Nat) : Fld := ⟨0x410008 + 0x10 * i, 25, 1⟩
/-- R205. -/
def CASKET_QSTAT_FLUSHING (i : Nat) : Fld := ⟨0x410008 + 0x10 * i, 26, 1⟩
/-- R205. -/
def CASKET_QSTAT_AT_END (i : Nat) : Fld := ⟨0x410008 + 0x10 * i, 27, 1⟩
/-- R205. -/
def CASKET_QCTL_FLUSH (i : Nat) : Fld := ⟨0x41000C + 0x10 * i, 0, 1⟩
/-- R275. -/
def CODEC_CAP_EDGE_UNITS : Fld := ⟨0x600000, 0, 8⟩
/-- R275. -/
def CODEC_CAP_HUB_UNITS : Fld := ⟨0x600000, 8, 8⟩
/-- R275. -/
def CODEC_CAP_VERSION : Fld := ⟨0x600000, 16, 16⟩
/-- R275. -/
def CODEC_CFG_GRAD : Fld := ⟨0x600004, 0, 1⟩
/-- R275. -/
def CODEC_CFG_KV : Fld := ⟨0x600004, 1, 1⟩
/-- R275. -/
def CODEC_CFG_CAMEO : Fld := ⟨0x600004, 2, 1⟩
/-- R275. -/
def CODEC_CFG_ACT : Fld := ⟨0x600004, 3, 1⟩
/-- R275. -/
def CODEC_CFG_ACT_GRAD : Fld := ⟨0x600004, 4, 1⟩
/-- R275. -/
def CODEC_CFG_PARK : Fld := ⟨0x600004, 5, 1⟩
/-- R275. -/
def CODEC_CTRL_SWITCH : Fld := ⟨0x600008, 0, 1⟩
/-- R275. -/
def CODEC_CTRL_CNT_CLR : Fld := ⟨0x600008, 1, 1⟩
/-- R275. -/
def CODEC_ERR_DECODE : Fld := ⟨0x60000C, 0, 1⟩
/-- R275. -/
def CODEC_ERR_GEN_UNKNOWN : Fld := ⟨0x60000C, 1, 1⟩
/-- R275. -/
def CODEC_ERR_TABLE_BAD : Fld := ⟨0x60000C, 2, 1⟩
/-- R275. -/
def CODEC_ERR_LOAD_REFUSED : Fld := ⟨0x60000C, 3, 1⟩
/-- R275. -/
def CODEC_ERR_SWITCH_NONE : Fld := ⟨0x60000C, 4, 1⟩
/-- R275. -/
def CODEC_ERR_MASK_MASK : Fld := ⟨0x600010, 0, 5⟩
/-- R275. -/
def CODEC_SLOT_GEN (i : Nat) : Fld := ⟨0x600014 + 4 * i, 0, 16⟩
/-- R275. -/
def CODEC_SLOT_STATE (i : Nat) : Fld := ⟨0x600014 + 4 * i, 16, 2⟩
/-- R275. -/
def CODEC_SLOT_COMMIT (i : Nat) : Fld := ⟨0x600014 + 4 * i, 18, 1⟩
/-- R275. -/
def CODEC_REFS_COUNT (i : Nat) : Fld := ⟨0x60001C + 4 * i, 0, 32⟩
/-- R275. -/
def CODEC_CNT_COUNT (i : Nat) : Fld := ⟨0x600040 + 4 * i, 0, 32⟩
/-- R275. -/
def CODEC_TABLE_LEN (i j : Nat) : Fld := ⟨0x600100 + 4 * i + 0x100 * j, 0, 32⟩
/-- R60. -/
def CHAIN_CAP_MINOR_MAX (p : Nat) : Fld := ⟨0x800000 + 0x80000 * p, 0, 8⟩
/-- R60. -/
def CHAIN_CAP_MAJOR (p : Nat) : Fld := ⟨0x800000 + 0x80000 * p, 8, 8⟩
/-- R60. -/
def CHAIN_CAP_MINOR_MIN (p : Nat) : Fld := ⟨0x800000 + 0x80000 * p, 16, 8⟩
/-- R60. -/
def CHAIN_CTRL_EN (p : Nat) : Fld := ⟨0x800004 + 0x80000 * p, 0, 1⟩
/-- R60. -/
def CHAIN_CTRL_CNT_CLR (p : Nat) : Fld := ⟨0x800004 + 0x80000 * p, 1, 1⟩
/-- R60. -/
def CHAIN_CTRL_FOLD_FORCE (p : Nat) : Fld := ⟨0x800004 + 0x80000 * p, 2, 1⟩
/-- R60. -/
def CHAIN_STATUS_LINK (p : Nat) : Fld := ⟨0x800008 + 0x80000 * p, 0, 2⟩
/-- R60. -/
def CHAIN_STATUS_END (p : Nat) : Fld := ⟨0x800008 + 0x80000 * p, 2, 1⟩
/-- R60. -/
def CHAIN_STATUS_TRANSIT (p : Nat) : Fld := ⟨0x800008 + 0x80000 * p, 3, 1⟩
/-- R60. -/
def CHAIN_STATUS_NBR_POS (p : Nat) : Fld := ⟨0x800008 + 0x80000 * p, 4, 5⟩
/-- R60. -/
def CHAIN_STATUS_NBR_STAGE (p : Nat) : Fld := ⟨0x800008 + 0x80000 * p, 9, 6⟩
/-- R60. -/
def CHAIN_STATUS_NBR_VALID (p : Nat) : Fld := ⟨0x800008 + 0x80000 * p, 15, 1⟩
/-- R60. -/
def CHAIN_ERR_BAD_TAG (p : Nat) : Fld := ⟨0x80000C + 0x80000 * p, 0, 1⟩
/-- R60. -/
def CHAIN_ERR_BAD_TAG_FATAL (p : Nat) : Fld := ⟨0x80000C + 0x80000 * p, 1, 1⟩
/-- R60. -/
def CHAIN_ERR_DUP (p : Nat) : Fld := ⟨0x80000C + 0x80000 * p, 2, 1⟩
/-- R60. -/
def CHAIN_ERR_OOO (p : Nat) : Fld := ⟨0x80000C + 0x80000 * p, 3, 1⟩
/-- R60. -/
def CHAIN_ERR_STALE (p : Nat) : Fld := ⟨0x80000C + 0x80000 * p, 4, 1⟩
/-- R60. -/
def CHAIN_ERR_FUTURE (p : Nat) : Fld := ⟨0x80000C + 0x80000 * p, 5, 1⟩
/-- R60. -/
def CHAIN_ERR_MALFORMED (p : Nat) : Fld := ⟨0x80000C + 0x80000 * p, 6, 1⟩
/-- R60. -/
def CHAIN_ERR_WRONG_ARC (p : Nat) : Fld := ⟨0x80000C + 0x80000 * p, 7, 1⟩
/-- R60. -/
def CHAIN_ERR_HOP_EXCEEDED (p : Nat) : Fld := ⟨0x80000C + 0x80000 * p, 8, 1⟩
/-- R60. -/
def CHAIN_ERR_TRANSIT_REFUSED (p : Nat) : Fld := ⟨0x80000C + 0x80000 * p, 9, 1⟩
/-- R60. -/
def CHAIN_ERR_NBR_LOST (p : Nat) : Fld := ⟨0x80000C + 0x80000 * p, 10, 1⟩
/-- R60. -/
def CHAIN_ERR_VER_MISMATCH (p : Nat) : Fld := ⟨0x80000C + 0x80000 * p, 11, 1⟩
/-- R60. -/
def CHAIN_ERR_MISWIRE (p : Nat) : Fld := ⟨0x80000C + 0x80000 * p, 12, 1⟩
/-- R60. -/
def CHAIN_ERR_MASK_MASK (p : Nat) : Fld := ⟨0x800010 + 0x80000 * p, 0, 13⟩
/-- R60. -/
def CHAIN_LATE_TICKS_TICKS (p : Nat) : Fld := ⟨0x800014 + 0x80000 * p, 0, 32⟩
/-- R60. -/
def CHAIN_TRANSIT_SHARE (p : Nat) : Fld := ⟨0x800018 + 0x80000 * p, 0, 7⟩
/-- R60. -/
def CHAIN_TRANSIT_ACTIVE (p : Nat) : Fld := ⟨0x800018 + 0x80000 * p, 7, 1⟩
/-- R60. -/
def CHAIN_CNT_COUNT (p i : Nat) : Fld := ⟨0x800040 + 0x80000 * p + 4 * i, 0, 32⟩
/-- R60. -/
def CHAIN_ARC_FIRST : Fld := ⟨0x800100, 0, 5⟩
/-- R60. -/
def CHAIN_ARC_LEN : Fld := ⟨0x800100, 5, 6⟩
/-- R60. -/
def CHAIN_ARC_CLOSED : Fld := ⟨0x800100, 11, 1⟩
/-- R60. -/
def CHAIN_ARC_ARC_ID : Fld := ⟨0x800100, 12, 5⟩
/-- R60. -/
def CHAIN_ARC_BOTH_DIR : Fld := ⟨0x800100, 17, 1⟩
/-- R60. -/
def CHAIN_BEAD_VER_ACTIVE : Fld := ⟨0x800104, 0, 16⟩
/-- R60. -/
def CHAIN_BEAD_VER_PIN : Fld := ⟨0x800104, 16, 16⟩
/-- R60. -/
def CHAIN_STEP_STEP : Fld := ⟨0x800108, 0, 32⟩
/-- R60. -/
def CHAIN_MEMBER_STATE : Fld := ⟨0x80010C, 0, 3⟩
/-- R60. -/
def CHAIN_MEMBER_POS : Fld := ⟨0x80010C, 3, 5⟩
/-- R60. -/
def CHAIN_MEMBER_STAGE : Fld := ⟨0x80010C, 8, 6⟩
/-- R60. -/
def CHAIN_PROXY_ACTIVE : Fld := ⟨0x800110, 0, 1⟩
/-- R60. -/
def CHAIN_PROXY_FOR_POS : Fld := ⟨0x800110, 1, 5⟩
/-- R60. -/
def CHAIN_PROXY_CAMEO_CURRENT : Fld := ⟨0x800110, 6, 1⟩
/-- R60. -/
def CHAIN_PROXY_STEP_CAMEO_STEP : Fld := ⟨0x800114, 0, 32⟩
/-- R60. -/
def CHAIN_KEY_SLOT0_VALID : Fld := ⟨0x800118, 0, 1⟩
/-- R60. -/
def CHAIN_KEY_SLOT1_VALID : Fld := ⟨0x800118, 1, 1⟩
/-- R81. -/
def PIPE_CAP_VMAX : Fld := ⟨0xA00000, 0, 4⟩
/-- R81. -/
def PIPE_CAP_SETMAX : Fld := ⟨0xA00000, 4, 5⟩
/-- R81. -/
def PIPE_CAP_SLOTS : Fld := ⟨0xA00000, 9, 11⟩
/-- R81. -/
def PIPE_CTRL_EN_UP : Fld := ⟨0xA00004, 0, 1⟩
/-- R81. -/
def PIPE_CTRL_EN_DN : Fld := ⟨0xA00004, 1, 1⟩
/-- R81. -/
def PIPE_CTRL_CNT_CLR : Fld := ⟨0xA00004, 2, 1⟩
/-- R81. -/
def PIPE_SCHED_FORM : Fld := ⟨0xA00008, 0, 2⟩
/-- R81. -/
def PIPE_SCHED_V_M1 : Fld := ⟨0xA00008, 2, 3⟩
/-- R81. -/
def PIPE_SCHED_N_M1 : Fld := ⟨0xA00008, 5, 6⟩
/-- R81. -/
def PIPE_SCHED_M_M1 : Fld := ⟨0xA00008, 16, 10⟩
/-- R81. -/
def PIPE_ERR_MALFORMED : Fld := ⟨0xA0000C, 0, 1⟩
/-- R81. -/
def PIPE_ERR_WRONG_DST : Fld := ⟨0xA0000C, 1, 1⟩
/-- R81. -/
def PIPE_ERR_STALE : Fld := ⟨0xA0000C, 2, 1⟩
/-- R81. -/
def PIPE_ERR_FUTURE : Fld := ⟨0xA0000C, 3, 1⟩
/-- R81. -/
def PIPE_ERR_DUP : Fld := ⟨0xA0000C, 4, 1⟩
/-- R81. -/
def PIPE_ERR_GAP : Fld := ⟨0xA0000C, 5, 1⟩
/-- R81. -/
def PIPE_ERR_DATA_CRC : Fld := ⟨0xA0000C, 6, 1⟩
/-- R81. -/
def PIPE_ERR_DATA_CRC_FATAL : Fld := ⟨0xA0000C, 7, 1⟩
/-- R81. -/
def PIPE_ERR_NBR_LOST : Fld := ⟨0xA0000C, 8, 1⟩
/-- R81. -/
def PIPE_ERR_MISWIRE : Fld := ⟨0xA0000C, 9, 1⟩
/-- R81. -/
def PIPE_ERR_VER_MISMATCH : Fld := ⟨0xA0000C, 10, 1⟩
/-- R81. -/
def PIPE_ERR_SLOT_BUSY : Fld := ⟨0xA0000C, 11, 1⟩
/-- R81. -/
def PIPE_ERR_SLOT_OPEN_AT_BOUNDARY : Fld := ⟨0xA0000C, 12, 1⟩
/-- R81. -/
def PIPE_ERR_RANGE : Fld := ⟨0xA0000C, 13, 1⟩
/-- R81. -/
def PIPE_ERR_MASK_MASK : Fld := ⟨0xA00010, 0, 14⟩
/-- R81. -/
def PIPE_STASH_BASE_GIB : Fld := ⟨0xA00014, 0, 12⟩
/-- R81. -/
def PIPE_STASH_SIZE_GIB : Fld := ⟨0xA00014, 16, 12⟩
/-- R81. -/
def PIPE_PARK_BASE_GIB : Fld := ⟨0xA00018, 0, 12⟩
/-- R81. -/
def PIPE_PARK_SIZE_GIB : Fld := ⟨0xA00018, 16, 12⟩
/-- R81. -/
def PIPE_SLOT_USE_OPEN : Fld := ⟨0xA0001C, 0, 11⟩
/-- R81. -/
def PIPE_SLOT_USE_PEAK : Fld := ⟨0xA0001C, 16, 11⟩
/-- R81. -/
def PIPE_STATUS_LINK (i : Nat) : Fld := ⟨0xA00020 + 4 * i, 0, 2⟩
/-- R81. -/
def PIPE_STATUS_NBR_POS (i : Nat) : Fld := ⟨0xA00020 + 4 * i, 2, 5⟩
/-- R81. -/
def PIPE_STATUS_NBR_STAGE (i : Nat) : Fld := ⟨0xA00020 + 4 * i, 7, 6⟩
/-- R81. -/
def PIPE_STATUS_NBR_VALID (i : Nat) : Fld := ⟨0xA00020 + 4 * i, 13, 1⟩
/-- R81. -/
def PIPE_STATUS_VER (i : Nat) : Fld := ⟨0xA00020 + 4 * i, 14, 16⟩
/-- R81. -/
def PIPE_STATUS_COLUMN_OUT (i : Nat) : Fld := ⟨0xA00020 + 4 * i, 30, 1⟩
/-- R81. -/
def PIPE_CNT_UP_COUNT (i : Nat) : Fld := ⟨0xA00040 + 4 * i, 0, 32⟩
/-- R81. -/
def PIPE_CNT_DN_COUNT (i : Nat) : Fld := ⟨0xA00060 + 4 * i, 0, 32⟩
/-- R81. -/
def PIPE_PARKS_COUNT : Fld := ⟨0xA00080, 0, 32⟩
/-- R81. -/
def PIPE_RESUMES_COUNT : Fld := ⟨0xA00084, 0, 32⟩
/-- R68. -/
def PIPE_SLOT_WORD (i : Nat) : Fld := ⟨0xA10000 + 4 * i, 0, 32⟩
/-- R492. -/
def MEMC_CAP_CHANNELS : Fld := ⟨0xC00000, 0, 8⟩
/-- R492. -/
def MEMC_CHAN_TRAINED (i : Nat) : Fld := ⟨0xC00100 + 4 * i, 0, 1⟩
/-- R492. -/
def MEMC_CHAN_SELF_REFRESH (i : Nat) : Fld := ⟨0xC00100 + 4 * i, 1, 1⟩
/-- R492. -/
def MEMC_CHAN_POISONED (i : Nat) : Fld := ⟨0xC00100 + 4 * i, 2, 1⟩
/-- R492. -/
def MEMC_CHAN_REPAIRED (i : Nat) : Fld := ⟨0xC00100 + 4 * i, 8, 8⟩
/-- R492. -/
def MEMC_CE_COUNT (i : Nat) : Fld := ⟨0xC00400 + 4 * i, 0, 32⟩
/-- R349. -/
def POWER_CAP_PACE_MIN : Fld := ⟨0xE00000, 0, 16⟩
/-- R349. -/
def POWER_CAP_PACE_MAX : Fld := ⟨0xE00000, 16, 16⟩
/-- R349. -/
def POWER_CFG_RAISE_MARGIN : Fld := ⟨0xE00004, 0, 12⟩
/-- R349. -/
def POWER_CFG_FLOOR : Fld := ⟨0xE00004, 16, 16⟩
/-- R349. -/
def POWER_PACE_TARGET : Fld := ⟨0xE00008, 0, 16⟩
/-- R349. -/
def POWER_PACE_NOW_P : Fld := ⟨0xE0000C, 0, 16⟩
/-- R349. -/
def POWER_BUDGET_WATTS : Fld := ⟨0xE00010, 0, 12⟩
/-- R349. -/
def POWER_STATUS_THROTTLED : Fld := ⟨0xE00014, 0, 1⟩
/-- R349. -/
def POWER_STATUS_AT_FLOOR : Fld := ⟨0xE00014, 1, 1⟩
/-- R349. -/
def POWER_STATUS_EMERGENCY : Fld := ⟨0xE00014, 2, 1⟩
/-- R349. -/
def POWER_STATUS_THERM_WARN : Fld := ⟨0xE00014, 3, 1⟩
/-- R349. -/
def POWER_STATUS_THERM_LIMIT : Fld := ⟨0xE00014, 4, 1⟩
/-- R349. -/
def POWER_STATUS_DROOP : Fld := ⟨0xE00014, 5, 1⟩
/-- R349. -/
def POWER_STATUS_PACE_MOVED : Fld := ⟨0xE00014, 6, 1⟩
/-- R349. -/
def POWER_ERR_PACE_SHORT : Fld := ⟨0xE00018, 0, 1⟩
/-- R349. -/
def POWER_ERR_OVER_BUDGET : Fld := ⟨0xE00018, 1, 1⟩
/-- R349. -/
def POWER_ERR_EMERGENCY : Fld := ⟨0xE00018, 2, 1⟩
/-- R349. -/
def POWER_ERR_THERM_LIMIT : Fld := ⟨0xE00018, 3, 1⟩
/-- R349. -/
def POWER_ERR_THERM_TRIP : Fld := ⟨0xE00018, 4, 1⟩
/-- R349. -/
def POWER_ERR_DROOP : Fld := ⟨0xE00018, 5, 1⟩
/-- R349. -/
def POWER_ERR_COOLANT : Fld := ⟨0xE00018, 6, 1⟩
/-- R349. -/
def POWER_ERR_MASK_MASK : Fld := ⟨0xE0001C, 0, 7⟩
/-- R349. -/
def POWER_VIN_VOLTS : Fld := ⟨0xE00020, 0, 16⟩
/-- R349. -/
def POWER_PIN_WATTS : Fld := ⟨0xE00024, 0, 16⟩
/-- R349. -/
def POWER_TLIM_WARN : Fld := ⟨0xE00028, 0, 8⟩
/-- R349. -/
def POWER_TLIM_LIMIT : Fld := ⟨0xE00028, 8, 8⟩
/-- R349. -/
def POWER_TLIM_TRIP : Fld := ⟨0xE00028, 16, 8⟩
/-- R349. -/
def POWER_LEND_CORES : Fld := ⟨0xE0002C, 0, 9⟩
/-- R349. -/
def POWER_CTRL_CNT_CLR : Fld := ⟨0xE00030, 0, 1⟩
/-- R349. -/
def POWER_RET_IDLE_TICKS : Fld := ⟨0xE00034, 0, 32⟩
/-- R349. -/
def POWER_COOL_INLET : Fld := ⟨0xE00038, 0, 8⟩
/-- R349. -/
def POWER_COOL_FLOW : Fld := ⟨0xE00038, 8, 8⟩
/-- R349. -/
def POWER_COOL_WARN : Fld := ⟨0xE00038, 16, 1⟩
/-- R349. -/
def POWER_TEMP_NOW (i : Nat) : Fld := ⟨0xE00040 + 4 * i, 0, 8⟩
/-- R349. -/
def POWER_TEMP_MAX (i : Nat) : Fld := ⟨0xE00040 + 4 * i, 8, 8⟩
/-- R349. -/
def POWER_CNT_COUNT (i : Nat) : Fld := ⟨0xE00100 + 4 * i, 0, 32⟩
/-- R318. -/
def CLASP_CAP_CLASPS : Fld := ⟨0x1000000, 0, 17⟩
/-- R318. -/
def CLASP_CAP_WATCHES : Fld := ⟨0x1000000, 17, 6⟩
/-- R318. -/
def CLASP_CTRL_DEBUG_EN : Fld := ⟨0x1000004, 0, 1⟩
/-- R318. -/
def CLASP_CTRL_CNT_CLR : Fld := ⟨0x1000004, 1, 1⟩
/-- R318. -/
def CLASP_ERR_OVF : Fld := ⟨0x1000008, 0, 1⟩
/-- R318. -/
def CLASP_ERR_UNF : Fld := ⟨0x1000008, 1, 1⟩
/-- R318. -/
def CLASP_ERR_MIS : Fld := ⟨0x1000008, 2, 1⟩
/-- R318. -/
def CLASP_ERR_HOLD_DROP : Fld := ⟨0x1000008, 3, 1⟩
/-- R318. -/
def CLASP_ERR_CHAIN_STALE : Fld := ⟨0x1000008, 4, 1⟩
/-- R318. -/
def CLASP_ERR_FORCE_OFF : Fld := ⟨0x1000008, 5, 1⟩
/-- R318. -/
def CLASP_ERR_MASK_MASK : Fld := ⟨0x100000C, 0, 6⟩
/-- R318. -/
def CLASP_HOST_NUM_NUM : Fld := ⟨0x1000010, 0, 16⟩
/-- R318. -/
def CLASP_HOST_ADD_ADD : Fld := ⟨0x1000014, 0, 32⟩
/-- R318. -/
def CLASP_FORCE_NUM_NUM : Fld := ⟨0x1000018, 0, 16⟩
/-- R318. -/
def CLASP_FORCE_VAL_VALUE : Fld := ⟨0x100001C, 0, 32⟩
/-- R318. -/
def CLASP_LEND_TICKS_TICKS : Fld := ⟨0x1000020, 0, 32⟩
/-- R318. -/
def CLASP_CNT_COUNT (i : Nat) : Fld := ⟨0x1000040 + 4 * i, 0, 32⟩
/-- R318. -/
def CLASP_WATCH_NUM_NUM (i : Nat) : Fld := ⟨0x1000100 + 0x10 * i, 0, 16⟩
/-- R318. -/
def CLASP_WATCH_TARGET_TARGET (i : Nat) : Fld := ⟨0x1000104 + 0x10 * i, 0, 32⟩
/-- R318. -/
def CLASP_WATCH_CFG_EN (i : Nat) : Fld := ⟨0x1000108 + 0x10 * i, 0, 1⟩
/-- R318. -/
def CLASP_WATCH_CFG_FIRED (i : Nat) : Fld := ⟨0x1000108 + 0x10 * i, 1, 1⟩
/-- R318. -/
def CLASP_WATCH_CFG_VEC (i : Nat) : Fld := ⟨0x1000108 + 0x10 * i, 2, 6⟩
/-- R318. -/
def CLASP_GROUP_HOST (i j : Nat) : Fld := ⟨0x1000400 + 4 * i + 0x40 * j, 0, 9⟩
/-- R318. -/
def CLASP_VALUE_VALUE (i : Nat) : Fld := ⟨0x1040000 + 4 * i, 0, 32⟩
/-- R318. -/
def CLASP_FLAG_OVF (i : Nat) : Fld := ⟨0x1080000 + 4 * i, 0, 1⟩
/-- R318. -/
def CLASP_FLAG_UNF (i : Nat) : Fld := ⟨0x1080000 + 4 * i, 1, 1⟩
/-- R318. -/
def CLASP_FLAG_MIS (i : Nat) : Fld := ⟨0x1080000 + 4 * i, 2, 1⟩
/-- R318. -/
def CLASP_FLAG_RESIDENT (i : Nat) : Fld := ⟨0x1080000 + 4 * i, 3, 1⟩
/-- R318. -/
def CLASP_FLAG_CHAIN_OK (i : Nat) : Fld := ⟨0x1080000 + 4 * i, 4, 1⟩
/-- R454. -/
def EVENT_CAP_WINDOW : Fld := ⟨0x1400000, 0, 16⟩
/-- R454. -/
def EVENT_CTRL_FLUSH : Fld := ⟨0x1400004, 0, 1⟩
/-- R454. -/
def EVENT_CTRL_CLEAR_SUBMIT : Fld := ⟨0x1400004, 1, 1⟩
/-- R454. -/
def EVENT_CTRL_RD_GO : Fld := ⟨0x1400004, 2, 1⟩
/-- R454. -/
def EVENT_STATUS_UNFLUSHED : Fld := ⟨0x1400008, 0, 11⟩
/-- R454. -/
def EVENT_STATUS_FLUSHING : Fld := ⟨0x1400008, 11, 1⟩
/-- R454. -/
def EVENT_STATUS_RD_BUSY : Fld := ⟨0x1400008, 12, 1⟩
/-- R454. -/
def EVENT_STATUS_BAD_SECTORS : Fld := ⟨0x1400008, 13, 5⟩
/-- R454. -/
def EVENT_ERR_LOST : Fld := ⟨0x140000C, 0, 1⟩
/-- R454. -/
def EVENT_ERR_FLASH : Fld := ⟨0x140000C, 1, 1⟩
/-- R454. -/
def EVENT_ERR_CLEAR : Fld := ⟨0x140000C, 2, 1⟩
/-- R454. -/
def EVENT_ERR_MASK_MASK : Fld := ⟨0x1400010, 0, 3⟩
/-- R454. -/
def EVENT_SEQ_SEQ : Fld := ⟨0x1400014, 0, 32⟩
/-- R454. -/
def EVENT_LOST_COUNT : Fld := ⟨0x1400018, 0, 32⟩
/-- R454. -/
def EVENT_SUPPRESSED_COUNT : Fld := ⟨0x140001C, 0, 32⟩
/-- R454. -/
def EVENT_CLEARED_UPTO_VALUE : Fld := ⟨0x1400020, 0, 32⟩
/-- R454. -/
def EVENT_CSEQ_VALUE : Fld := ⟨0x1400024, 0, 32⟩
/-- R454. -/
def EVENT_RD_AREA_AREA : Fld := ⟨0x1400028, 0, 2⟩
/-- R454. -/
def EVENT_RD_INDEX_INDEX : Fld := ⟨0x140002C, 0, 16⟩
/-- R454. -/
def EVENT_RD_COUNT_COUNT : Fld := ⟨0x1400030, 0, 8⟩
/-- R454. -/
def EVENT_WIN_WORD (i : Nat) : Fld := ⟨0x1401000 + 4 * i, 0, 32⟩
/-- R454. -/
def LIFE_STATUS_WRITING : Fld := ⟨0x1480000, 0, 1⟩
/-- R454. -/
def LIFE_STATUS_SLOT : Fld := ⟨0x1480000, 8, 8⟩
/-- R454. -/
def LIFE_LSEQ_LSEQ : Fld := ⟨0x1480004, 0, 32⟩
/-- R454. -/
def LIFE_HOURS_HOURS : Fld := ⟨0x1480008, 0, 32⟩
/-- R454. -/
def LIFE_CTRL_WRITE_NOW : Fld := ⟨0x148000C, 0, 1⟩
/-- R454. -/
def LIFE_ERR_WRITE : Fld := ⟨0x1480010, 0, 1⟩
/-- R454. -/
def LIFE_ERR_RESTORE : Fld := ⟨0x1480010, 1, 1⟩
/-- R454. -/
def LIFE_ERR_TRUNCATED : Fld := ⟨0x1480010, 2, 1⟩
/-- R454. -/
def LIFE_ERR_MASK_MASK : Fld := ⟨0x1480014, 0, 3⟩
/-- R448. -/
def LIFE_IMAGE_WORD (i : Nat) : Fld := ⟨0x1490000 + 4 * i, 0, 32⟩
/-- R454. -/
def TEST_CAP_STEPPING : Fld := ⟨0x1600000, 0, 16⟩
/-- R454. -/
def TEST_CMD_DIE : Fld := ⟨0x1600004, 0, 5⟩
/-- R454. -/
def TEST_CMD_KIND : Fld := ⟨0x1600004, 5, 2⟩
/-- R454. -/
def TEST_ERR_FAIL : Fld := ⟨0x1600008, 0, 1⟩
/-- R454. -/
def TEST_ERR_REFUSED : Fld := ⟨0x1600008, 1, 1⟩
/-- R454. -/
def TEST_ERR_MASK_MASK : Fld := ⟨0x160000C, 0, 2⟩
/-- R454. -/
def TEST_RESULT_STATUS_STATE (i : Nat) : Fld := ⟨0x1600040 + 0x20 * i, 0, 2⟩
/-- R454. -/
def TEST_RESULT_STATUS_KIND (i : Nat) : Fld := ⟨0x1600040 + 0x20 * i, 2, 2⟩
/-- R454. -/
def TEST_RESULT_STATUS_MS (i : Nat) : Fld := ⟨0x1600040 + 0x20 * i, 16, 16⟩
/-- R454. -/
def TEST_RESULT_FAILMAP_MAP (i : Nat) : Fld := ⟨0x1600044 + 0x20 * i, 0, 32⟩
/-- R454. -/
def TEST_RESULT_MB_SIG_LO_SIG (i : Nat) : Fld := ⟨0x1600048 + 0x20 * i, 0, 32⟩
/-- R454. -/
def TEST_RESULT_MB_SIG_HI_SIG (i : Nat) : Fld := ⟨0x160004C + 0x20 * i, 0, 32⟩
/-- R454. -/
def TEST_RESULT_REPAIRED_ROWS (i : Nat) : Fld := ⟨0x1600050 + 0x20 * i, 0, 32⟩
/-- R454. -/
def TEST_RESULT_BANKFAIL_COUNT (i : Nat) : Fld := ⟨0x1600054 + 0x20 * i, 0, 32⟩
/-- R454. -/
def TEST_PSIG_LO_SIG (i : Nat) : Fld := ⟨0x1601000 + 8 * i, 0, 32⟩
/-- R454. -/
def TEST_PSIG_HI_SIG (i : Nat) : Fld := ⟨0x1601004 + 8 * i, 0, 32⟩
/-- R334. -/
def LOUPE_CTRL_MODE : Fld := ⟨0x1700000, 0, 2⟩
/-- R334. -/
def LOUPE_CTRL_RESTART : Fld := ⟨0x1700000, 2, 1⟩
/-- R334. -/
def LOUPE_CTRL_CNT_CLR : Fld := ⟨0x1700000, 3, 1⟩
/-- R334. -/
def LOUPE_MASK_TYPES : Fld := ⟨0x1700004, 1, 8⟩
/-- R334. -/
def LOUPE_REGION_BASE_GIB : Fld := ⟨0x1700008, 0, 12⟩
/-- R334. -/
def LOUPE_REGION_SIZE_GIB : Fld := ⟨0x1700008, 16, 12⟩
/-- R334. -/
def LOUPE_STATUS_ACTIVE : Fld := ⟨0x170000C, 0, 2⟩
/-- R334. -/
def LOUPE_STATUS_FULL : Fld := ⟨0x170000C, 2, 1⟩
/-- R334. -/
def LOUPE_STATUS_WRAPPED : Fld := ⟨0x170000C, 3, 1⟩
/-- R334. -/
def LOUPE_WR_LO_INDEX : Fld := ⟨0x1700010, 0, 32⟩
/-- R334. -/
def LOUPE_WR_HI_INDEX : Fld := ⟨0x1700014, 0, 32⟩
/-- R334. -/
def LOUPE_LOST_COUNT : Fld := ⟨0x1700018, 0, 32⟩
/-- R334. -/
def LOUPE_VAR_STEP_COUNT : Fld := ⟨0x1700040, 0, 32⟩
/-- R334. -/
def LOUPE_VAR_LAST_COUNT : Fld := ⟨0x1700044, 0, 32⟩
/-- R334. -/
def LOUPE_VAR_LAST_STEP_STEP : Fld := ⟨0x1700048, 0, 32⟩
/-- R334. -/
def LOUPE_VAR_SRC_COUNT (i : Nat) : Fld := ⟨0x1700060 + 4 * i, 0, 32⟩
/-- R121. -/
def FMT_CAP_ENTRIES : Fld := ⟨0x1800000, 0, 16⟩
/-- R121. -/
def FMT_CAP_THR_SETS : Fld := ⟨0x1800000, 16, 5⟩
/-- R121. -/
def FMT_POLICY_HIST : Fld := ⟨0x1800004, 0, 1⟩
/-- R121. -/
def FMT_POLICY_MARGIN : Fld := ⟨0x1800004, 1, 2⟩
/-- R121. -/
def FMT_POLICY_CLEAN_INTERVAL : Fld := ⟨0x1800004, 16, 16⟩
/-- R121. -/
def FMT_VERDICT_NF_SPAN : Fld := ⟨0x1800008, 0, 1⟩
/-- R121. -/
def FMT_VERDICT_SKIP : Fld := ⟨0x1800008, 1, 1⟩
/-- R121. -/
def FMT_VERDICT_CLOSED : Fld := ⟨0x1800008, 2, 1⟩
/-- R121. -/
def FMT_ERR_CEIL : Fld := ⟨0x180000C, 0, 1⟩
/-- R121. -/
def FMT_ERR_K_CLAMP : Fld := ⟨0x180000C, 1, 1⟩
/-- R121. -/
def FMT_ERR_MISMATCH : Fld := ⟨0x180000C, 2, 1⟩
/-- R121. -/
def FMT_ERR_INVALID : Fld := ⟨0x180000C, 3, 1⟩
/-- R121. -/
def FMT_ERR_SCALE_NAN : Fld := ⟨0x180000C, 4, 1⟩
/-- R121. -/
def FMT_ERR_BAD_ENTRY : Fld := ⟨0x180000C, 5, 1⟩
/-- R121. -/
def FMT_ERR_MASK_MASK : Fld := ⟨0x1800010, 0, 6⟩
/-- R121. -/
def FMT_LAST_PROMOTED : Fld := ⟨0x1800014, 0, 16⟩
/-- R121. -/
def FMT_LAST_DEMOTED : Fld := ⟨0x1800014, 16, 16⟩
/-- R121. -/
def FMT_SKIPS_SKIPS : Fld := ⟨0x1800018, 0, 32⟩
/-- R121. -/
def FMT_CLEAN_RUN_RUN : Fld := ⟨0x180001C, 0, 32⟩
/-- R121. -/
def FMT_THR_A_BIN (i : Nat) : Fld := ⟨0x1800040 + 0x10 * i, 0, 6⟩
/-- R121. -/
def FMT_THR_A_HYST (i : Nat) : Fld := ⟨0x1800040 + 0x10 * i, 6, 3⟩
/-- R121. -/
def FMT_THR_A_TAIL (i : Nat) : Fld := ⟨0x1800040 + 0x10 * i, 10, 10⟩
/-- R121. -/
def FMT_THR_B_MIN_SAMPLES (i : Nat) : Fld := ⟨0x1800044 + 0x10 * i, 0, 16⟩
/-- R121. -/
def FMT_THR_B_DEMOTE_STEPS (i : Nat) : Fld := ⟨0x1800044 + 0x10 * i, 16, 12⟩
/-- R121. -/
def FMT_THR_C_OVF_LIMIT (i : Nat) : Fld := ⟨0x1800048 + 0x10 * i, 0, 16⟩
/-- R121. -/
def FMT_ENT_CFG_BASE (i : Nat) : Fld := ⟨0x1880000 + 0x80 * i, 0, 8⟩
/-- R121. -/
def FMT_ENT_CFG_CEIL (i : Nat) : Fld := ⟨0x1880000 + 0x80 * i, 8, 8⟩
/-- R121. -/
def FMT_ENT_CFG_THR (i : Nat) : Fld := ⟨0x1880000 + 0x80 * i, 16, 4⟩
/-- R121. -/
def FMT_ENT_CFG_CLASS (i : Nat) : Fld := ⟨0x1880000 + 0x80 * i, 20, 1⟩
/-- R121. -/
def FMT_ENT_CFG_SCOPE (i : Nat) : Fld := ⟨0x1880000 + 0x80 * i, 21, 1⟩
/-- R121. -/
def FMT_ENT_CFG_CAST_SR (i : Nat) : Fld := ⟨0x1880000 + 0x80 * i, 22, 1⟩
/-- R121. -/
def FMT_ENT_CFG_VALID (i : Nat) : Fld := ⟨0x1880000 + 0x80 * i, 23, 1⟩
/-- R121. -/
def FMT_ENT_STATE_USE (i : Nat) : Fld := ⟨0x1880004 + 0x80 * i, 0, 8⟩
/-- R121. -/
def FMT_ENT_STATE_CAST (i : Nat) : Fld := ⟨0x1880004 + 0x80 * i, 8, 8⟩
/-- R121. -/
def FMT_ENT_STATE_USE_K (i : Nat) : Fld := ⟨0x1880004 + 0x80 * i, 16, 8⟩
/-- R121. -/
def FMT_ENT_STATE_CAST_K (i : Nat) : Fld := ⟨0x1880004 + 0x80 * i, 24, 8⟩
/-- R121. -/
def FMT_ENT_CLEAN_CLEAN (i : Nat) : Fld := ⟨0x1880008 + 0x80 * i, 0, 16⟩
/-- R121. -/
def FMT_ENT_CLEAN_SINCE_DEMOTE (i : Nat) : Fld := ⟨0x1880008 + 0x80 * i, 16, 12⟩
/-- R121. -/
def FMT_ENT_CLEAN_FLAPS (i : Nat) : Fld := ⟨0x1880008 + 0x80 * i, 28, 4⟩
/-- R121. -/
def FMT_ENT_MISC_SETTLE (i : Nat) : Fld := ⟨0x188000C + 0x80 * i, 0, 2⟩
/-- R121. -/
def FMT_ENT_CNT_COUNT (i j : Nat) : Fld := ⟨0x1880010 + 4 * i + 0x80 * j, 0, 32⟩
/-- R121. -/
def FMT_ENT_MOVES_PROMOTIONS (i : Nat) : Fld := ⟨0x1880030 + 0x80 * i, 0, 16⟩
/-- R121. -/
def FMT_ENT_MOVES_DEMOTIONS (i : Nat) : Fld := ⟨0x1880030 + 0x80 * i, 16, 16⟩
/-- R121. -/
def FMT_ENT_HISTORY_AMAX (i j : Nat) : Fld := ⟨0x1880040 + 4 * i + 0x80 * j, 0, 32⟩
/-- R112. -/
def FMT_HIST_COUNT (i : Nat) : Fld := ⟨0x1900000 + 4 * i, 0, 32⟩
/-- R227. -/
def GRAD_CAP_HO_VERSION : Fld := ⟨0x1A00000, 0, 16⟩
/-- R227. -/
def GRAD_CAP_MAX_PARTS : Fld := ⟨0x1A00000, 16, 8⟩
/-- R227. -/
def GRAD_CFG_MODE : Fld := ⟨0x1A00004, 0, 1⟩
/-- R227. -/
def GRAD_CFG_WIRE_FMT : Fld := ⟨0x1A00004, 1, 1⟩
/-- R227. -/
def GRAD_CFG_HO_FMT : Fld := ⟨0x1A00004, 2, 1⟩
/-- R227. -/
def GRAD_CFG_SPAN : Fld := ⟨0x1A00004, 3, 1⟩
/-- R227. -/
def GRAD_CFG_LATE_POLICY : Fld := ⟨0x1A00004, 4, 1⟩
/-- R227. -/
def GRAD_LATE_WINDOW_TICKS : Fld := ⟨0x1A00008, 0, 32⟩
/-- R227. -/
def GRAD_CLIP_MAX_MAXNORM : Fld := ⟨0x1A0000C, 0, 32⟩
/-- R227. -/
def GRAD_CARRY_ENTRIES_ENTRIES : Fld := ⟨0x1A00010, 0, 24⟩
/-- R227. -/
def GRAD_CLASP_A_HO : Fld := ⟨0x1A00014, 0, 12⟩
/-- R227. -/
def GRAD_CLASP_A_UPD : Fld := ⟨0x1A00014, 16, 12⟩
/-- R227. -/
def GRAD_CLASP_B_DONE : Fld := ⟨0x1A00018, 0, 12⟩
/-- R227. -/
def GRAD_STATUS_PHASE : Fld := ⟨0x1A0001C, 0, 3⟩
/-- R227. -/
def GRAD_PENDING_PIECES : Fld := ⟨0x1A00020, 0, 32⟩
/-- R227. -/
def GRAD_ERR_BAD_TAG : Fld := ⟨0x1A00024, 0, 1⟩
/-- R227. -/
def GRAD_ERR_LATE : Fld := ⟨0x1A00024, 1, 1⟩
/-- R227. -/
def GRAD_ERR_CARRY_FULL : Fld := ⟨0x1A00024, 2, 1⟩
/-- R227. -/
def GRAD_ERR_UPD_BAD : Fld := ⟨0x1A00024, 3, 1⟩
/-- R227. -/
def GRAD_ERR_HO_SPACE : Fld := ⟨0x1A00024, 4, 1⟩
/-- R227. -/
def GRAD_ERR_COVER : Fld := ⟨0x1A00024, 5, 1⟩
/-- R227. -/
def GRAD_ERR_CLOSE_ORDER : Fld := ⟨0x1A00024, 6, 1⟩
/-- R227. -/
def GRAD_ERR_MASK_MASK : Fld := ⟨0x1A00028, 0, 7⟩
/-- R227. -/
def GRAD_CTRL_CNT_CLR : Fld := ⟨0x1A0002C, 0, 1⟩
/-- R227. -/
def GRAD_NORM_LO_G : Fld := ⟨0x1A00030, 0, 32⟩
/-- R227. -/
def GRAD_NORM_HI_G : Fld := ⟨0x1A00034, 0, 32⟩
/-- R227. -/
def GRAD_LOCAL_LO_SUMSQ : Fld := ⟨0x1A00038, 0, 32⟩
/-- R227. -/
def GRAD_LOCAL_HI_SUMSQ : Fld := ⟨0x1A0003C, 0, 32⟩
/-- R227. -/
def GRAD_CLIP_CLIP : Fld := ⟨0x1A00040, 0, 32⟩
/-- R227. -/
def GRAD_NF_COUNT : Fld := ⟨0x1A00044, 0, 32⟩
/-- R227. -/
def GRAD_HO_RECORDS_COUNT : Fld := ⟨0x1A00048, 0, 32⟩
/-- R227. -/
def GRAD_UPD_DONE_COUNT : Fld := ⟨0x1A0004C, 0, 32⟩
/-- R227. -/
def GRAD_HO_ADDR_LO_ADDR (i : Nat) : Fld := ⟨0x1A00080 + 0x10 * i, 0, 32⟩
/-- R227. -/
def GRAD_HO_ADDR_HI_ADDR (i : Nat) : Fld := ⟨0x1A00084 + 0x10 * i, 0, 32⟩
/-- R227. -/
def GRAD_HO_SIZE_SIZE (i : Nat) : Fld := ⟨0x1A00088 + 0x10 * i, 0, 32⟩
/-- R227. -/
def GRAD_REGION_BASE_GIB (i : Nat) : Fld := ⟨0x1A000C0 + 4 * i, 0, 12⟩
/-- R227. -/
def GRAD_REGION_SIZE_GIB (i : Nat) : Fld := ⟨0x1A000C0 + 4 * i, 16, 12⟩
/-- R227. -/
def GRAD_CNT_COUNT (i : Nat) : Fld := ⟨0x1A00100 + 4 * i, 0, 32⟩
/-- R247. -/
def HEALTH_CAP_LROWS : Fld := ⟨0x1B00000, 0, 9⟩
/-- R247. -/
def HEALTH_CAP_ASLOTS : Fld := ⟨0x1B00000, 9, 7⟩
/-- R247. -/
def HEALTH_CAP_CAMEO_VER : Fld := ⟨0x1B00000, 16, 16⟩
/-- R247. -/
def HEALTH_CFG_SHIFT : Fld := ⟨0x1B00004, 0, 4⟩
/-- R247. -/
def HEALTH_CFG_WARMUP : Fld := ⟨0x1B00004, 4, 12⟩
/-- R247. -/
def HEALTH_CFG_EWMA_ON_SPIKE : Fld := ⟨0x1B00004, 16, 1⟩
/-- R247. -/
def HEALTH_CFG_HOLD_ON_SPIKE : Fld := ⟨0x1B00004, 17, 1⟩
/-- R247. -/
def HEALTH_CFG_HOLD_ON_NF : Fld := ⟨0x1B00004, 18, 1⟩
/-- R247. -/
def HEALTH_RATIO_RATIO : Fld := ⟨0x1B00008, 0, 32⟩
/-- R247. -/
def HEALTH_VERDICT_SPIKE : Fld := ⟨0x1B0000C, 0, 1⟩
/-- R247. -/
def HEALTH_VERDICT_NF_LOCAL : Fld := ⟨0x1B0000C, 1, 1⟩
/-- R247. -/
def HEALTH_VERDICT_HOLD : Fld := ⟨0x1B0000C, 2, 1⟩
/-- R247. -/
def HEALTH_VERDICT_LOSS_VALID : Fld := ⟨0x1B0000C, 3, 1⟩
/-- R247. -/
def HEALTH_ERR_SPIKE : Fld := ⟨0x1B00010, 0, 1⟩
/-- R247. -/
def HEALTH_ERR_NF_LOCAL : Fld := ⟨0x1B00010, 1, 1⟩
/-- R247. -/
def HEALTH_ERR_CAMEO_INCOMPLETE : Fld := ⟨0x1B00010, 2, 1⟩
/-- R247. -/
def HEALTH_ERR_CAMEO_HELD : Fld := ⟨0x1B00010, 3, 1⟩
/-- R247. -/
def HEALTH_ERR_RESTORE_FAIL : Fld := ⟨0x1B00010, 4, 1⟩
/-- R247. -/
def HEALTH_ERR_MASK_MASK : Fld := ⟨0x1B00014, 0, 5⟩
/-- R247. -/
def HEALTH_CTRL_ROLLBACK : Fld := ⟨0x1B00018, 0, 1⟩
/-- R247. -/
def HEALTH_SNAP_STEP_STEP : Fld := ⟨0x1B0001C, 0, 32⟩
/-- R247. -/
def HEALTH_LOSS_VALUE : Fld := ⟨0x1B00020, 0, 32⟩
/-- R247. -/
def HEALTH_EWMA_VALUE : Fld := ⟨0x1B00024, 0, 32⟩
/-- R247. -/
def HEALTH_EWMA_N_N : Fld := ⟨0x1B00028, 0, 32⟩
/-- R247. -/
def HEALTH_EVAL_LOSS_VALUE : Fld := ⟨0x1B0002C, 0, 32⟩
/-- R247. -/
def HEALTH_SNAP_FLAGS_EVAL : Fld := ⟨0x1B00030, 0, 1⟩
/-- R247. -/
def HEALTH_SNAP_FLAGS_SKIPPED : Fld := ⟨0x1B00030, 1, 1⟩
/-- R247. -/
def HEALTH_SNAP_FLAGS_CAST : Fld := ⟨0x1B00030, 2, 1⟩
/-- R247. -/
def HEALTH_CAMEO_CFG_INTERVAL : Fld := ⟨0x1B00040, 0, 16⟩
/-- R247. -/
def HEALTH_CAMEO_CFG_RESTORE_CLASP : Fld := ⟨0x1B00040, 16, 12⟩
/-- R247. -/
def HEALTH_CAMEO_REGION_BASE_GIB : Fld := ⟨0x1B00044, 0, 12⟩
/-- R247. -/
def HEALTH_CAMEO_REGION_SIZE_GIB : Fld := ⟨0x1B00044, 16, 12⟩
/-- R247. -/
def HEALTH_SENT_STEP_STEP : Fld := ⟨0x1B00048, 0, 32⟩
/-- R247. -/
def HEALTH_HELD_STEP_STEP : Fld := ⟨0x1B0004C, 0, 32⟩
/-- R247. -/
def HEALTH_CAMEO_STATUS_HELD_VALID : Fld := ⟨0x1B00050, 0, 1⟩
/-- R247. -/
def HEALTH_CAMEO_STATUS_IMAGE_SLOT : Fld := ⟨0x1B00050, 1, 1⟩
/-- R247. -/
def HEALTH_CAMEO_STATUS_STATE_SLOT : Fld := ⟨0x1B00050, 2, 1⟩
/-- R247. -/
def HEALTH_CAMEO_STATUS_RECEIVING : Fld := ⟨0x1B00050, 3, 1⟩
/-- R247. -/
def HEALTH_CAMEO_STATUS_RESTORING : Fld := ⟨0x1B00050, 4, 1⟩
/-- R247. -/
def HEALTH_CAMEO_PART_OFFSET_MIB (i : Nat) : Fld := ⟨0x1B00060 + 4 * i, 0, 16⟩
/-- R247. -/
def HEALTH_CAMEO_PART_SIZE_MIB (i : Nat) : Fld := ⟨0x1B00060 + 4 * i, 16, 16⟩
/-- R247. -/
def HEALTH_NF_COUNT (i : Nat) : Fld := ⟨0x1B00080 + 4 * i, 0, 32⟩
/-- R247. -/
def HEALTH_ASLOT_CFG_CLASS (i : Nat) : Fld := ⟨0x1B00100 + 0x10 * i, 0, 3⟩
/-- R247. -/
def HEALTH_ASLOT_CFG_VALID (i : Nat) : Fld := ⟨0x1B00100 + 0x10 * i, 3, 1⟩
/-- R247. -/
def HEALTH_ASLOT_SUM_LO_SUM (i : Nat) : Fld := ⟨0x1B00104 + 0x10 * i, 0, 32⟩
/-- R247. -/
def HEALTH_ASLOT_SUM_HI_SUM (i : Nat) : Fld := ⟨0x1B00108 + 0x10 * i, 0, 32⟩
/-- R247. -/
def HEALTH_ASLOT_NF_COUNT (i : Nat) : Fld := ⟨0x1B0010C + 0x10 * i, 0, 32⟩
/-- R247. -/
def HEALTH_LNORM_LAYER_LAYER (i : Nat) : Fld := ⟨0x1B01000 + 0x20 * i, 0, 16⟩
/-- R247. -/
def HEALTH_LNORM_LAYER_VALID (i : Nat) : Fld := ⟨0x1B01000 + 0x20 * i, 16, 1⟩
/-- R247. -/
def HEALTH_LNORM_SUM_SUM (i j : Nat) : Fld := ⟨0x1B01004 + 4 * i + 0x20 * j, 0, 32⟩
/-- R262. -/
def CHARM_CAP_CONTEXTS : Fld := ⟨0x1B80000, 0, 19⟩
/-- R262. -/
def CHARM_CAP_RANK_MAX : Fld := ⟨0x1B80000, 19, 7⟩
/-- R262. -/
def CHARM_CFG_HO_FMT : Fld := ⟨0x1B80004, 0, 1⟩
/-- R262. -/
def CHARM_REGION_BASE_GIB : Fld := ⟨0x1B80008, 0, 12⟩
/-- R262. -/
def CHARM_REGION_SIZE_GIB : Fld := ⟨0x1B80008, 12, 12⟩
/-- R262. -/
def CHARM_REGION_USED_GIB : Fld := ⟨0x1B80008, 24, 8⟩
/-- R262. -/
def CHARM_ACC_REGION_BASE_GIB : Fld := ⟨0x1B8000C, 0, 12⟩
/-- R262. -/
def CHARM_ACC_REGION_SIZE_GIB : Fld := ⟨0x1B8000C, 12, 12⟩
/-- R262. -/
def CHARM_CLASP_HO : Fld := ⟨0x1B80010, 0, 12⟩
/-- R262. -/
def CHARM_CLASP_UPD : Fld := ⟨0x1B80010, 16, 12⟩
/-- R262. -/
def CHARM_ERR_BAD_ENTRY : Fld := ⟨0x1B80014, 0, 1⟩
/-- R262. -/
def CHARM_ERR_NOT_HOME : Fld := ⟨0x1B80014, 1, 1⟩
/-- R262. -/
def CHARM_ERR_RANGE : Fld := ⟨0x1B80014, 2, 1⟩
/-- R262. -/
def CHARM_ERR_ACC_OVERLAP : Fld := ⟨0x1B80014, 3, 1⟩
/-- R262. -/
def CHARM_ERR_COVER : Fld := ⟨0x1B80014, 4, 1⟩
/-- R262. -/
def CHARM_ERR_HO_SPACE : Fld := ⟨0x1B80014, 5, 1⟩
/-- R262. -/
def CHARM_ERR_BUSY_WR : Fld := ⟨0x1B80014, 6, 1⟩
/-- R262. -/
def CHARM_ERR_MASK_MASK : Fld := ⟨0x1B80018, 0, 7⟩
/-- R262. -/
def CHARM_CTRL_CNT_CLR : Fld := ⟨0x1B8001C, 0, 1⟩
/-- R262. -/
def CHARM_ATTEMPT_COUNT : Fld := ⟨0x1B80020, 0, 32⟩
/-- R262. -/
def CHARM_HO_RECORDS_COUNT : Fld := ⟨0x1B80024, 0, 32⟩
/-- R262. -/
def CHARM_HO_ADDR_LO_ADDR : Fld := ⟨0x1B80030, 0, 32⟩
/-- R262. -/
def CHARM_HO_ADDR_HI_ADDR : Fld := ⟨0x1B80034, 0, 32⟩
/-- R262. -/
def CHARM_HO_SIZE_SIZE : Fld := ⟨0x1B80038, 0, 32⟩
/-- R262. -/
def CHARM_TSET_COUNT (i : Nat) : Fld := ⟨0x1B80040 + 4 * i, 0, 8⟩
/-- R262. -/
def CHARM_CNT_COUNT (i : Nat) : Fld := ⟨0x1B80100 + 4 * i, 0, 32⟩
/-- R262. -/
def CHARM_TENT_LT_LAYER (i : Nat) : Fld := ⟨0x1B88000 + 0x10 * i, 0, 16⟩
/-- R262. -/
def CHARM_TENT_LT_TENSOR (i : Nat) : Fld := ⟨0x1B88000 + 0x10 * i, 16, 16⟩
/-- R262. -/
def CHARM_TENT_DIN_DIM (i : Nat) : Fld := ⟨0x1B88004 + 0x10 * i, 0, 24⟩
/-- R262. -/
def CHARM_TENT_DOUT_DIM (i : Nat) : Fld := ⟨0x1B88008 + 0x10 * i, 0, 24⟩
/-- R372. -/
def LINK_CAP_MINOR_MAX (l : Nat) : Fld := ⟨linkBase l + 0, 0, 8⟩
/-- R372. -/
def LINK_CAP_MAJOR (l : Nat) : Fld := ⟨linkBase l + 0, 8, 8⟩
/-- R372. -/
def LINK_CAP_MINOR_MIN (l : Nat) : Fld := ⟨linkBase l + 0, 16, 8⟩
/-- R372. -/
def LINK_CAP_LANES (l : Nat) : Fld := ⟨linkBase l + 0, 24, 6⟩
/-- R372. -/
def LINK_CFG_MIN_LANES (l : Nat) : Fld := ⟨linkBase l + 4, 0, 6⟩
/-- R372. -/
def LINK_CFG_PIN (l : Nat) : Fld := ⟨linkBase l + 4, 16, 16⟩
/-- R372. -/
def LINK_CTRL_RETRAIN (l : Nat) : Fld := ⟨linkBase l + 8, 0, 1⟩
/-- R372. -/
def LINK_CTRL_CNT_CLR (l : Nat) : Fld := ⟨linkBase l + 8, 1, 1⟩
/-- R372. -/
def LINK_STATUS_STATE (l : Nat) : Fld := ⟨linkBase l + 0xC, 0, 3⟩
/-- R372. -/
def LINK_STATUS_TX_WIDTH (l : Nat) : Fld := ⟨linkBase l + 0xC, 4, 6⟩
/-- R372. -/
def LINK_STATUS_RX_WIDTH (l : Nat) : Fld := ⟨linkBase l + 0xC, 10, 6⟩
/-- R372. -/
def LINK_STATUS_VERSION (l : Nat) : Fld := ⟨linkBase l + 0xC, 16, 16⟩
/-- R372. -/
def LINK_ERR_CRC (l : Nat) : Fld := ⟨linkBase l + 0x10, 0, 1⟩
/-- R372. -/
def LINK_ERR_UNCORR (l : Nat) : Fld := ⟨linkBase l + 0x10, 1, 1⟩
/-- R372. -/
def LINK_ERR_RETRY_EXHAUSTED (l : Nat) : Fld := ⟨linkBase l + 0x10, 2, 1⟩
/-- R372. -/
def LINK_ERR_LANE_DROP (l : Nat) : Fld := ⟨linkBase l + 0x10, 3, 1⟩
/-- R372. -/
def LINK_ERR_LINK_DOWN (l : Nat) : Fld := ⟨linkBase l + 0x10, 4, 1⟩
/-- R372. -/
def LINK_ERR_VER_MISMATCH (l : Nat) : Fld := ⟨linkBase l + 0x10, 5, 1⟩
/-- R372. -/
def LINK_ERR_PROTOCOL (l : Nat) : Fld := ⟨linkBase l + 0x10, 6, 1⟩
/-- R372. -/
def LINK_ERR_TRAIN_FAIL (l : Nat) : Fld := ⟨linkBase l + 0x10, 7, 1⟩
/-- R372. -/
def LINK_ERR_MASK_MASK (l : Nat) : Fld := ⟨linkBase l + 0x14, 0, 8⟩
/-- R372. -/
def LINK_LANES_RX_MASK (l : Nat) : Fld := ⟨linkBase l + 0x18, 0, 32⟩
/-- R372. -/
def LINK_LANES_TX_MASK (l : Nat) : Fld := ⟨linkBase l + 0x1C, 0, 32⟩
/-- R372. -/
def LINK_POLARITY_INV (l : Nat) : Fld := ⟨linkBase l + 0x20, 0, 32⟩
/-- R372. -/
def LINK_NBR_MODULE_ID (l : Nat) : Fld := ⟨linkBase l + 0x24, 0, 11⟩
/-- R372. -/
def LINK_NBR_VALID (l : Nat) : Fld := ⟨linkBase l + 0x24, 11, 1⟩
/-- R372. -/
def LINK_NBR_PORT (l : Nat) : Fld := ⟨linkBase l + 0x24, 12, 2⟩
/-- R372. -/
def LINK_NBR_STATE (l : Nat) : Fld := ⟨linkBase l + 0x24, 16, 3⟩
/-- R372. -/
def LINK_NBR_SERIAL_LO_SERIAL (l : Nat) : Fld := ⟨linkBase l + 0x28, 0, 32⟩
/-- R372. -/
def LINK_NBR_SERIAL_HI_SERIAL (l : Nat) : Fld := ⟨linkBase l + 0x2C, 0, 32⟩
/-- R372. -/
def LINK_GATE_TX_STEP (l : Nat) : Fld := ⟨linkBase l + 0x30, 0, 32⟩
/-- R372. -/
def LINK_GATE_RX_STEP (l : Nat) : Fld := ⟨linkBase l + 0x34, 0, 32⟩
/-- R372. -/
def LINK_LAST_EVENT_CODE (l : Nat) : Fld := ⟨linkBase l + 0x38, 0, 16⟩
/-- R372. -/
def LINK_LAST_EVENT_LANE (l : Nat) : Fld := ⟨linkBase l + 0x38, 16, 5⟩
/-- R372. -/
def LINK_CNT_COUNT (l i : Nat) : Fld := ⟨linkBase l + 0x40 + 4 * i, 0, 32⟩
/-- R372. -/
def LINK_CRED_CREDITS (l i : Nat) : Fld := ⟨linkBase l + 0x80 + 4 * i, 0, 24⟩
/-- R372. -/
def LINK_LANE_UC_COUNT (l i : Nat) : Fld := ⟨linkBase l + 0x100 + 4 * i, 0, 32⟩
/-- R372. -/
def LINK_LANE_NAK_COUNT (l i : Nat) : Fld := ⟨linkBase l + 0x180 + 4 * i, 0, 32⟩
/-- R154. -/
def CORE_ID_PHYS (n : Nat) : Fld := ⟨slotBase n + 0, 0, 9⟩
/-- R154. -/
def CORE_ID_LOGICAL (n : Nat) : Fld := ⟨slotBase n + 0, 9, 9⟩
/-- R154. -/
def CORE_ID_ENABLED (n : Nat) : Fld := ⟨slotBase n + 0, 18, 1⟩
/-- R154. -/
def CORE_STATE_TASK (n : Nat) : Fld := ⟨slotBase n + 4, 0, 3⟩
/-- R154. -/
def CORE_STATE_MODE (n : Nat) : Fld := ⟨slotBase n + 4, 3, 2⟩
/-- R154. -/
def CORE_STATE_CHAIN_HELD (n : Nat) : Fld := ⟨slotBase n + 4, 5, 1⟩
/-- R154. -/
def CORE_STATE_WRITEOUT (n : Nat) : Fld := ⟨slotBase n + 4, 6, 1⟩
/-- R154. -/
def CORE_COLMAP_BAD0 (n : Nat) : Fld := ⟨slotBase n + 8, 0, 7⟩
/-- R154. -/
def CORE_COLMAP_BAD1 (n : Nat) : Fld := ⟨slotBase n + 8, 8, 7⟩
/-- R154. -/
def CORE_COLMAP_WIDTH (n : Nat) : Fld := ⟨slotBase n + 8, 16, 7⟩
/-- R154. -/
def CORE_COLMAP_SENT_OK (n : Nat) : Fld := ⟨slotBase n + 8, 23, 1⟩
/-- R154. -/
def CORE_ERR_DECODE (n : Nat) : Fld := ⟨slotBase n + 0xC, 0, 1⟩
/-- R154. -/
def CORE_ERR_POISON (n : Nat) : Fld := ⟨slotBase n + 0xC, 1, 1⟩
/-- R154. -/
def CORE_ERR_ACC_PARITY (n : Nat) : Fld := ⟨slotBase n + 0xC, 2, 1⟩
/-- R154. -/
def CORE_ERR_LATCH_PARITY (n : Nat) : Fld := ⟨slotBase n + 0xC, 3, 1⟩
/-- R154. -/
def CORE_ERR_CHAIN (n : Nat) : Fld := ⟨slotBase n + 0xC, 4, 1⟩
/-- R154. -/
def CORE_ERR_TORN (n : Nat) : Fld := ⟨slotBase n + 0xC, 5, 1⟩
/-- R154. -/
def CORE_ERR_OPERAND (n : Nat) : Fld := ⟨slotBase n + 0xC, 6, 1⟩
/-- R154. -/
def CORE_ERR_MASK_MASK (n : Nat) : Fld := ⟨slotBase n + 0x10, 0, 7⟩
/-- R154. -/
def CORE_ABORT_CAUSE (n : Nat) : Fld := ⟨slotBase n + 0x14, 0, 8⟩
/-- R154. -/
def CORE_ABORT_DESC (n : Nat) : Fld := ⟨slotBase n + 0x14, 8, 24⟩
/-- R154. -/
def CORE_ABORT_PASS_P (n : Nat) : Fld := ⟨slotBase n + 0x18, 0, 32⟩
/-- R154. -/
def CORE_PASSES_LO_PASSES (n : Nat) : Fld := ⟨slotBase n + 0x20, 0, 32⟩
/-- R154. -/
def CORE_PASSES_HI_PASSES (n : Nat) : Fld := ⟨slotBase n + 0x24, 0, 32⟩
/-- R154. -/
def CORE_BUSY_LO_BUSY (n : Nat) : Fld := ⟨slotBase n + 0x28, 0, 32⟩
/-- R154. -/
def CORE_BUSY_HI_BUSY (n : Nat) : Fld := ⟨slotBase n + 0x2C, 0, 32⟩
/-- R154. -/
def CORE_BADCOL_COLS (n i : Nat) : Fld := ⟨slotBase n + 0x30 + 4 * i, 0, 32⟩
/-- R183. -/
def CSTORE_CAP_BANKS (n : Nat) : Fld := ⟨slotBase n + 0x100, 0, 7⟩
/-- R183. -/
def CSTORE_CAP_HANDLES (n : Nat) : Fld := ⟨slotBase n + 0x100, 7, 7⟩
/-- R183. -/
def CSTORE_CAP_OUTSTANDING (n : Nat) : Fld := ⟨slotBase n + 0x100, 14, 4⟩
/-- R183. -/
def CSTORE_CAP_PROG_MAX (n : Nat) : Fld := ⟨slotBase n + 0x100, 18, 6⟩
/-- R183. -/
def CSTORE_CAP_LOOPS (n : Nat) : Fld := ⟨slotBase n + 0x100, 24, 3⟩
/-- R183. -/
def CSTORE_CTRL_GATE_EN (n : Nat) : Fld := ⟨slotBase n + 0x104, 0, 1⟩
/-- R183. -/
def CSTORE_CTRL_CNT_CLR (n : Nat) : Fld := ⟨slotBase n + 0x104, 1, 1⟩
/-- R183. -/
def CSTORE_ERR_STALE_WR (n : Nat) : Fld := ⟨slotBase n + 0x108, 0, 1⟩
/-- R183. -/
def CSTORE_ERR_BAD_WR (n : Nat) : Fld := ⟨slotBase n + 0x108, 1, 1⟩
/-- R183. -/
def CSTORE_ERR_BAD_RD (n : Nat) : Fld := ⟨slotBase n + 0x108, 2, 1⟩
/-- R183. -/
def CSTORE_ERR_CE (n : Nat) : Fld := ⟨slotBase n + 0x108, 3, 1⟩
/-- R183. -/
def CSTORE_ERR_UE (n : Nat) : Fld := ⟨slotBase n + 0x108, 4, 1⟩
/-- R183. -/
def CSTORE_ERR_ARR_SAT (n : Nat) : Fld := ⟨slotBase n + 0x108, 5, 1⟩
/-- R183. -/
def CSTORE_ERR_STREAM (n : Nat) : Fld := ⟨slotBase n + 0x108, 6, 1⟩
/-- R183. -/
def CSTORE_ERR_MASK_MASK (n : Nat) : Fld := ⟨slotBase n + 0x10C, 0, 7⟩
/-- R183. -/
def CSTORE_STALE_WR_COUNT (n : Nat) : Fld := ⟨slotBase n + 0x110, 0, 32⟩
/-- R183. -/
def CSTORE_BAD_WR_COUNT (n : Nat) : Fld := ⟨slotBase n + 0x114, 0, 32⟩
/-- R183. -/
def CSTORE_BAD_RD_COUNT (n : Nat) : Fld := ⟨slotBase n + 0x118, 0, 32⟩
/-- R183. -/
def CSTORE_CE_COUNT (n : Nat) : Fld := ⟨slotBase n + 0x11C, 0, 32⟩
/-- R183. -/
def CSTORE_GATED_LO_BANK (n : Nat) : Fld := ⟨slotBase n + 0x120, 0, 32⟩
/-- R183. -/
def CSTORE_GATED_HI_BANK (n : Nat) : Fld := ⟨slotBase n + 0x124, 0, 32⟩
/-- R183. -/
def CSTORE_GATE_IDLE_TICKS (n : Nat) : Fld := ⟨slotBase n + 0x128, 0, 32⟩
/-- R183. -/
def CSTORE_LAST_STALE_HANDLE (n : Nat) : Fld := ⟨slotBase n + 0x12C, 0, 6⟩
/-- R183. -/
def CSTORE_LAST_STALE_SRC (n : Nat) : Fld := ⟨slotBase n + 0x12C, 6, 9⟩
/-- R183. -/
def CSTORE_LAST_STALE_GEN (n : Nat) : Fld := ⟨slotBase n + 0x12C, 16, 16⟩
/-- R183. -/
def CSTORE_CONFLICT_LO_TICKS (n : Nat) : Fld := ⟨slotBase n + 0x130, 0, 32⟩
/-- R183. -/
def CSTORE_CONFLICT_HI_TICKS (n : Nat) : Fld := ⟨slotBase n + 0x134, 0, 32⟩
/-- R183. -/
def HANDLE_A_BASE (n i : Nat) : Fld := ⟨slotBase n + 0x200 + 0x20 * i, 0, 21⟩
/-- R183. -/
def HANDLE_A_VALID (n i : Nat) : Fld := ⟨slotBase n + 0x200 + 0x20 * i, 21, 1⟩
/-- R183. -/
def HANDLE_A_WINDOW (n i : Nat) : Fld := ⟨slotBase n + 0x200 + 0x20 * i, 22, 1⟩
/-- R183. -/
def HANDLE_A_RREAD (n i : Nat) : Fld := ⟨slotBase n + 0x200 + 0x20 * i, 23, 1⟩
/-- R183. -/
def HANDLE_A_LAYOUT (n i : Nat) : Fld := ⟨slotBase n + 0x200 + 0x20 * i, 24, 1⟩
/-- R183. -/
def HANDLE_A_STUB (n i : Nat) : Fld := ⟨slotBase n + 0x200 + 0x20 * i, 25, 1⟩
/-- R183. -/
def HANDLE_B_LEN_M1 (n i : Nat) : Fld := ⟨slotBase n + 0x204 + 0x20 * i, 0, 21⟩
/-- R183. -/
def HANDLE_C_ROWLEN (n i : Nat) : Fld := ⟨slotBase n + 0x208 + 0x20 * i, 0, 24⟩
/-- R183. -/
def HANDLE_C_FMT (n i : Nat) : Fld := ⟨slotBase n + 0x208 + 0x20 * i, 24, 8⟩
/-- R183. -/
def HANDLE_D_GEN (n i : Nat) : Fld := ⟨slotBase n + 0x20C + 0x20 * i, 0, 16⟩
/-- R183. -/
def HANDLE_CBASE_LO_CBASE (n i : Nat) : Fld := ⟨slotBase n + 0x210 + 0x20 * i, 0, 32⟩
/-- R183. -/
def HANDLE_CBASE_HI_CBASE (n i : Nat) : Fld := ⟨slotBase n + 0x214 + 0x20 * i, 0, 8⟩
/-- R183. -/
def HANDLE_ARR_ARR (n i : Nat) : Fld := ⟨slotBase n + 0x218 + 0x20 * i, 0, 32⟩
/-- R183. -/
def STREAM_STATUS_OUTSTANDING (n : Nat) : Fld := ⟨slotBase n + 0xA00, 0, 4⟩
/-- R183. -/
def STREAM_STATUS_RUNS (n : Nat) : Fld := ⟨slotBase n + 0xA00, 4, 4⟩
/-- R183. -/
def STREAM_STATUS_FAULTED (n : Nat) : Fld := ⟨slotBase n + 0xA00, 8, 1⟩
/-- R183. -/
def STREAM_FAULT_CAUSE (n : Nat) : Fld := ⟨slotBase n + 0xA04, 0, 8⟩
/-- R183. -/
def STREAM_FAULT_INSTR (n : Nat) : Fld := ⟨slotBase n + 0xA04, 8, 5⟩
/-- R183. -/
def STREAM_FAULT_ADDR_LO_ADDR (n : Nat) : Fld := ⟨slotBase n + 0xA08, 0, 32⟩
/-- R183. -/
def STREAM_FAULT_ADDR_HI_ADDR (n : Nat) : Fld := ⟨slotBase n + 0xA0C, 0, 32⟩
/-- R183. -/
def STREAM_FAULT_DESC_DESC (n : Nat) : Fld := ⟨slotBase n + 0xA10, 0, 24⟩
/-- R183. -/
def STREAM_BYTES_LO_BYTES (n : Nat) : Fld := ⟨slotBase n + 0xA18, 0, 32⟩
/-- R183. -/
def STREAM_BYTES_HI_BYTES (n : Nat) : Fld := ⟨slotBase n + 0xA1C, 0, 32⟩
/-- R183. -/
def STREAM_STRIPES_LO_STRIPES (n : Nat) : Fld := ⟨slotBase n + 0xA20, 0, 32⟩
/-- R183. -/
def STREAM_STRIPES_HI_STRIPES (n : Nat) : Fld := ⟨slotBase n + 0xA24, 0, 32⟩
/-- R318. -/
def CLASP_CORE_WAIT_NUM (n : Nat) : Fld := ⟨slotBase n + 0x1000, 0, 16⟩
/-- R318. -/
def CLASP_CORE_WAIT_VALID (n : Nat) : Fld := ⟨slotBase n + 0x1000, 16, 1⟩
/-- R318. -/
def CLASP_CORE_TARGET_TARGET (n : Nat) : Fld := ⟨slotBase n + 0x1004, 0, 32⟩
/-- R318. -/
def CLASP_CORE_HOLDS_COUNT (n : Nat) : Fld := ⟨slotBase n + 0x1008, 0, 5⟩

end F

end Sys2Proof.Machine
end

