-- ==== Sys2Proof/Machine/RegMap.lean ====
section
/-! DEFINITION. The register map as the spec lists it: each register's offset, its instances, its reset domain (R491) and its fields
with their access codes (R9) and reset values. A field marked own is written by a command of its own row of the opcode table. -/

namespace Sys2Proof.Machine

/-- The access codes of R9. -/
inductive Acc where
  | ro | rw | wo | w1c | w1s | rs
  deriving DecidableEq, Repr

/-- The reset domains of R491; the sticky domain is marked field by field. -/
inductive Dom where
  | hostIf | locket | module
  deriving DecidableEq, Repr

/-- One field of a register row. -/
structure FieldDef where
  lo : Nat
  width : Nat
  acc : Acc
  reset : Nat
  own : Bool
  sticky : Bool
  deriving DecidableEq, Repr

/-- One row of a register table: the offset of its first instance, the strides and counts of its instances (outermost
first), its domain, its fields. -/
structure RegRow where
  base : Nat
  dims : List (Nat × Nat)
  dom : Dom
  fields : List FieldDef
  deriving DecidableEq, Repr

/-- Rows of the LOCKET block. -/
def rowsLocket : List RegRow := [
  ⟨0, [], .locket, [⟨0, 1, .ro, 0, false, false⟩, ⟨1, 1, .ro, 0, false, false⟩, ⟨2, 1, .ro, 0, false, false⟩, ⟨3, 1, .ro, 0, false, false⟩]⟩, -- FW_STATUS R432
  ⟨4, [], .locket, [⟨0, 32, .ro, 0, false, false⟩]⟩, -- FW_VERSION R432
  ⟨8, [], .locket, [⟨0, 7, .ro, 0, false, true⟩, ⟨8, 7, .ro, 0, false, false⟩]⟩, -- SVN R432
  ⟨0xC, [], .locket, [⟨0, 1, .wo, 0, true, false⟩, ⟨1, 1, .wo, 0, true, false⟩, ⟨2, 1, .wo, 0, true, false⟩, ⟨3, 1, .wo, 0, true, false⟩, ⟨4, 1, .wo, 0, true, false⟩, ⟨5, 1, .wo, 0, true, false⟩, ⟨6, 1, .wo, 0, true, false⟩, ⟨7, 1, .wo, 0, true, false⟩, ⟨8, 1, .wo, 0, false, false⟩, ⟨16, 16, .wo, 0, false, false⟩]⟩, -- CTRL R432
  ⟨0x10, [], .locket, [⟨0, 1, .w1c, 0, false, false⟩, ⟨1, 1, .w1c, 0, false, false⟩, ⟨2, 1, .w1c, 0, false, false⟩, ⟨3, 1, .w1c, 0, false, false⟩, ⟨4, 1, .w1c, 0, false, false⟩]⟩, -- ERR R432
  ⟨0x14, [], .locket, [⟨0, 5, .rw, 0, false, false⟩]⟩, -- ERR_MASK R432
  ⟨0x18, [], .locket, [⟨0, 32, .ro, 0, false, false⟩]⟩, -- SERIAL_LO R432
  ⟨0x1C, [], .locket, [⟨0, 32, .ro, 0, false, false⟩]⟩, -- SERIAL_HI R432
  ⟨0x20, [(4, 2)], .locket, [⟨0, 1, .ro, 0, false, false⟩, ⟨1, 1, .ro, 0, false, false⟩, ⟨2, 1, .ro, 0, false, false⟩, ⟨8, 7, .ro, 0, false, false⟩]⟩, -- FW_SLOT R432
  ⟨0x28, [], .module, [⟨0, 1, .rw, 0, true, false⟩]⟩, -- KEY_CFG R432
  ⟨0x30, [(4, 2)], .module, [⟨0, 32, .ro, 0, false, false⟩]⟩, -- KEY_GEN R432
  ⟨0x38, [(4, 2)], .module, [⟨0, 32, .ro, 0, false, false⟩]⟩, -- KEY_USE R432
  ⟨0x40, [(4, 8)], .locket, [⟨0, 1, .ro, 0, false, true⟩]⟩, -- OWNER R432
  ⟨0x1000, [(4, 100)], .locket, [⟨0, 32, .wo, 0, false, false⟩]⟩ -- KEY_BUF R432
  ]

/-- Rows of the SETUP block. -/
def rowsSetup : List RegRow := [
  ⟨0x40000, [], .module, [⟨0, 4, .ro, 0, false, false⟩, ⟨8, 8, .ro, 0, false, false⟩, ⟨16, 1, .ro, 0, false, false⟩]⟩, -- STATE R415
  ⟨0x40004, [], .locket, [⟨0, 5, .ro, 0, false, false⟩, ⟨5, 6, .ro, 0, false, false⟩, ⟨11, 11, .ro, 0, false, false⟩]⟩, -- IDENT R415
  ⟨0x40008, [(4, 2)], .locket, [⟨0, 1, .ro, 0, false, false⟩, ⟨1, 1, .ro, 0, false, false⟩, ⟨2, 1, .ro, 0, false, false⟩, ⟨8, 4, .ro, 0, false, false⟩]⟩, -- SLOT R415
  ⟨0x40010, [(4, 2)], .locket, [⟨0, 32, .ro, 0, false, false⟩]⟩, -- SEQ R415
  ⟨0x40018, [], .locket, [⟨0, 32, .ro, 0, false, false⟩]⟩, -- ASEQ R415
  ⟨0x4001C, [], .locket, [⟨0, 1, .wo, 0, true, false⟩, ⟨1, 1, .wo, 0, true, false⟩, ⟨2, 1, .wo, 0, true, false⟩, ⟨3, 1, .wo, 0, true, false⟩, ⟨4, 1, .wo, 0, true, false⟩, ⟨16, 16, .wo, 0, false, false⟩]⟩, -- CTRL R415
  ⟨0x40020, [], .locket, [⟨0, 1, .w1c, 0, false, false⟩, ⟨1, 1, .w1c, 0, false, false⟩, ⟨2, 1, .w1c, 0, false, false⟩, ⟨3, 1, .w1c, 0, false, false⟩, ⟨4, 1, .w1c, 0, false, false⟩]⟩, -- ERR R415
  ⟨0x40024, [], .locket, [⟨0, 5, .rw, 0, false, false⟩]⟩, -- ERR_MASK R415
  ⟨0x40028, [], .locket, [⟨0, 2, .ro, 0, false, false⟩, ⟨16, 16, .ro, 0, false, false⟩]⟩, -- LPDDR R415
  ⟨0x4002C, [], .locket, [⟨0, 32, .ro, 0, false, false⟩]⟩, -- TIME_MS R415
  ⟨0x40030, [], .locket, [⟨16, 10, .rw, 0, false, false⟩]⟩, -- PROG_OFF R415
  ⟨0x40034, [], .locket, [⟨0, 2, .ro, 0, false, false⟩, ⟨8, 4, .ro, 0, false, false⟩]⟩, -- AMEND R415
  ⟨0x40038, [], .locket, [⟨0, 32, .ro, 0, false, false⟩]⟩, -- FAIL_OFF R415
  ⟨0x40040, [(4, 8)], .locket, [⟨0, 32, .ro, 0, false, false⟩]⟩, -- HASH R415
  ⟨0x50000, [(4, 16384)], .locket, [⟨0, 32, .wo, 0, false, false⟩]⟩, -- IMG_WIN R415
  ⟨0x60000, [(4, 1024)], .locket, [⟨0, 32, .wo, 0, false, false⟩]⟩ -- AMEND_BUF R415
  ]

/-- Rows of the SPARE block. -/
def rowsSpare : List RegRow := [
  ⟨0x70000, [], .module, [⟨0, 8, .ro, 0x80, false, false⟩]⟩, -- CAP R467
  ⟨0x70004, [], .module, [⟨0, 8, .rw, 2, false, false⟩]⟩, -- CFG R467
  ⟨0x70008, [], .module, [⟨0, 1, .wo, 0, true, false⟩, ⟨1, 9, .wo, 0, false, false⟩, ⟨10, 1, .wo, 0, false, false⟩, ⟨11, 1, .wo, 0, true, false⟩]⟩, -- CTRL R467
  ⟨0x7000C, [], .module, [⟨0, 1, .ro, 0, false, false⟩, ⟨1, 9, .ro, 0, false, false⟩]⟩, -- STATUS R467
  ⟨0x70010, [], .module, [⟨0, 1, .w1c, 0, false, false⟩, ⟨1, 1, .w1c, 0, false, false⟩, ⟨2, 1, .w1c, 0, false, false⟩]⟩, -- ERR R467
  ⟨0x70014, [], .module, [⟨0, 3, .rw, 0, false, false⟩]⟩, -- ERR_MASK R467
  ⟨0x70018, [], .locket, [⟨0, 8, .ro, 0, false, true⟩]⟩, -- FUSES R467
  ⟨0x70040, [(4, 4)], .module, [⟨0, 32, .ro, 0, false, false⟩]⟩, -- CNT R467
  ⟨0x70100, [(4, 64)], .module, [⟨0, 6, .ro, 0, false, false⟩, ⟨6, 6, .ro, 0, false, false⟩, ⟨12, 1, .ro, 0, false, false⟩]⟩, -- CLUSTER R467
  ⟨0x70400, [(4, 320)], .module, [⟨0, 16, .ro, 0, false, false⟩]⟩ -- EPOCH R467
  ]

/-- Rows of the BOARD block. -/
def rowsBoard : List RegRow := [
  ⟨0x80000, [], .locket, [⟨0, 8, .ro, 0, false, false⟩, ⟨8, 8, .ro, 0, false, false⟩]⟩, -- ID R484
  ⟨0x80004, [], .module, [⟨0, 1, .ro, 0, false, false⟩, ⟨1, 1, .ro, 0, false, false⟩, ⟨2, 1, .ro, 0, false, false⟩, ⟨3, 1, .ro, 0, false, false⟩, ⟨4, 9, .ro, 0, false, false⟩]⟩, -- STATUS R484
  ⟨0x80008, [], .module, [⟨0, 1, .w1c, 0, false, true⟩, ⟨1, 1, .w1c, 0, false, false⟩]⟩, -- ERR R484
  ⟨0x8000C, [], .module, [⟨0, 2, .rw, 0, false, false⟩]⟩ -- ERR_MASK R484
  ]

/-- Rows of the HOSTIF block. -/
def rowsHostif : List RegRow := [
  ⟨0x100000, [], .hostIf, [⟨0, 16, .ro, 0x100, false, false⟩, ⟨16, 16, .ro, 0x100, false, false⟩]⟩, -- VERSION R391
  ⟨0x100004, [], .hostIf, [⟨0, 16, .rw, 0, true, false⟩]⟩, -- DRV_VERSION R391
  ⟨0x100008, [], .hostIf, [⟨0, 1, .rw, 0, true, false⟩, ⟨1, 1, .wo, 0, true, false⟩]⟩, -- CTRL R391
  ⟨0x10000C, [], .hostIf, [⟨0, 4, .ro, 0, false, false⟩, ⟨4, 4, .ro, 0, false, false⟩, ⟨8, 1, .ro, 0, false, false⟩, ⟨9, 1, .ro, 0, false, false⟩, ⟨10, 1, .ro, 1, false, false⟩, ⟨11, 1, .ro, 0, false, false⟩, ⟨12, 1, .ro, 0, false, false⟩]⟩, -- STATUS R391
  ⟨0x100010, [], .hostIf, [⟨0, 1, .w1c, 0, false, false⟩, ⟨1, 1, .w1c, 0, false, false⟩, ⟨2, 1, .w1c, 0, false, false⟩, ⟨3, 1, .w1c, 0, false, false⟩, ⟨4, 1, .w1c, 0, false, false⟩, ⟨5, 1, .w1c, 0, false, false⟩]⟩, -- ERR R391
  ⟨0x100014, [], .hostIf, [⟨0, 6, .rw, 0, false, false⟩]⟩, -- ERR_MASK R391
  ⟨0x100018, [], .hostIf, [⟨30, 2, .rw, 0, false, false⟩]⟩, -- WIN_BASE_LO R391
  ⟨0x10001C, [], .hostIf, [⟨0, 16, .rw, 0, true, false⟩]⟩, -- WIN_BASE_HI R391
  ⟨0x100020, [], .hostIf, [⟨0, 6, .rw, 0, false, false⟩]⟩, -- EVENT_VEC R391
  ⟨0x100024, [], .hostIf, [⟨0, 4, .ro, 0, false, false⟩, ⟨4, 4, .ro, 0, false, false⟩]⟩, -- LAST_ERR R391
  ⟨0x100028, [], .hostIf, [⟨0, 32, .ro, 0, false, false⟩]⟩, -- LAST_ERR_ADDR_LO R391
  ⟨0x10002C, [], .hostIf, [⟨0, 32, .ro, 0, false, false⟩]⟩, -- LAST_ERR_ADDR_HI R391
  ⟨0x100040, [(4, 8)], .hostIf, [⟨0, 32, .ro, 0, false, false⟩]⟩, -- CNT R391
  ⟨0x101000, [(0x10, 64)], .hostIf, [⟨2, 30, .rw, 0, false, false⟩]⟩, -- MSIX_ADDR_LO R388
  ⟨0x101004, [(0x10, 64)], .hostIf, [⟨0, 32, .rw, 0, false, false⟩]⟩, -- MSIX_ADDR_HI R388
  ⟨0x101008, [(0x10, 64)], .hostIf, [⟨0, 32, .rw, 0, false, false⟩]⟩, -- MSIX_DATA R388
  ⟨0x10100C, [(0x10, 64)], .hostIf, [⟨0, 1, .rw, 1, false, false⟩]⟩, -- MSIX_CTRL R388
  ⟨0x102000, [(4, 2)], .hostIf, [⟨0, 32, .ro, 0, false, false⟩]⟩ -- MSIX_PBA R388
  ]

/-- Rows of the FRONT block. -/
def rowsFront_0 : List RegRow := [
  ⟨0x200000, [], .module, [⟨0, 16, .ro, 0x100, false, false⟩, ⟨16, 16, .ro, 0x100, false, false⟩]⟩, -- CAP R300
  ⟨0x200004, [], .module, [⟨0, 3, .ro, 0, false, false⟩, ⟨3, 1, .ro, 0, false, false⟩]⟩, -- STATUS R300
  ⟨0x200008, [], .module, [⟨0, 1, .w1c, 0, false, false⟩, ⟨1, 1, .w1c, 0, false, false⟩, ⟨2, 1, .w1c, 0, false, false⟩, ⟨3, 1, .w1c, 0, false, false⟩, ⟨4, 1, .w1c, 0, false, false⟩, ⟨5, 1, .w1c, 0, false, false⟩, ⟨6, 1, .w1c, 0, false, false⟩, ⟨7, 1, .w1c, 0, false, false⟩]⟩, -- ERR R300
  ⟨0x20000C, [], .module, [⟨0, 8, .rw, 0, false, false⟩]⟩, -- ERR_MASK R300
  ⟨0x200010, [], .module, [⟨0, 32, .rw, 0x100000, false, false⟩]⟩, -- DRAIN_LIMIT R300
  ⟨0x200014, [], .module, [⟨0, 1, .wo, 0, true, false⟩]⟩, -- CTRL R300
  ⟨0x200018, [], .module, [⟨0, 12, .ro, 0, false, false⟩]⟩, -- BOUNDARY R300
  ⟨0x20001C, [], .module, [⟨0, 32, .ro, 0, false, false⟩]⟩, -- BOUNDARY_TARGET R300
  ⟨0x200020, [], .module, [⟨0, 13, .ro, 0, false, false⟩]⟩, -- OVF_WR R300
  ⟨0x200024, [], .module, [⟨0, 13, .rw, 0, false, false⟩]⟩, -- OVF_RD R300
  ⟨0x200028, [], .module, [⟨0, 32, .ro, 0, false, false⟩]⟩, -- OVF_LOST R300
  ⟨0x200040, [(4, 8)], .module, [⟨0, 32, .ro, 0, false, false⟩]⟩, -- CNT R300
  ⟨0x200100, [(0x40, 8)], .hostIf, [⟨0, 32, .rw, 0, false, false⟩]⟩, -- Q_BASE_LO R300
  ⟨0x200104, [(0x40, 8)], .hostIf, [⟨0, 32, .rw, 0, true, false⟩]⟩, -- Q_BASE_HI R300
  ⟨0x200108, [(0x40, 8)], .hostIf, [⟨0, 32, .rw, 0, false, false⟩]⟩, -- Q_CBASE_LO R300
  ⟨0x20010C, [(0x40, 8)], .hostIf, [⟨0, 32, .rw, 0, true, false⟩]⟩, -- Q_CBASE_HI R300
  ⟨0x200110, [(0x40, 8)], .hostIf, [⟨0, 5, .rw, 6, false, false⟩, ⟨5, 1, .rw, 0, false, false⟩, ⟨6, 1, .rw, 0, false, false⟩, ⟨7, 1, .rw, 0, false, false⟩, ⟨8, 6, .rw, 0, false, false⟩]⟩, -- Q_CFG R300
  ⟨0x200114, [(0x40, 8)], .hostIf, [⟨0, 16, .rw, 0, true, false⟩]⟩, -- Q_TAIL R300
  ⟨0x200118, [(0x40, 8)], .hostIf, [⟨0, 16, .ro, 0, false, false⟩]⟩, -- Q_HEAD R300
  ⟨0x20011C, [(0x40, 8)], .hostIf, [⟨0, 16, .ro, 0, false, false⟩]⟩ -- Q_CTAIL R300
  ]

/-- Rows of the FRONT block. -/
def rowsFront_1 : List RegRow := [
  ⟨0x200120, [(0x40, 8)], .hostIf, [⟨0, 1, .ro, 0, false, false⟩, ⟨1, 1, .w1c, 0, true, false⟩, ⟨16, 16, .ro, 0, false, false⟩]⟩, -- Q_STATUS R300
  ⟨0x200124, [(0x40, 8)], .hostIf, [⟨0, 32, .rw, 0x100000, false, false⟩]⟩, -- Q_STALL R300
  ⟨0x200128, [(0x40, 8)], .hostIf, [⟨0, 1, .wo, 0, true, false⟩]⟩, -- Q_CTRL R300
  ⟨0x201000, [(0x10, 4096)], .module, [⟨0, 1, .ro, 0, false, false⟩, ⟨1, 3, .ro, 0, false, false⟩, ⟨16, 16, .ro, 0, false, false⟩]⟩, -- GRAPH_STATE R300
  ⟨0x201004, [(0x10, 4096)], .module, [⟨0, 32, .ro, 0, false, false⟩]⟩, -- GRAPH_REFS R300
  ⟨0x220000, [(4, 32768)], .module, [⟨0, 32, .ro, 0, false, false⟩]⟩ -- OVF R299
  ]

/-- Rows of the FRONT block. -/
def rowsFront : List RegRow := rowsFront_0 ++ rowsFront_1

/-- Rows of the CASKET block. -/
def rowsCasket_0 : List RegRow := [
  ⟨0x400000, [], .module, [⟨0, 11, .ro, 0x400, false, false⟩, ⟨11, 6, .ro, 0x20, false, false⟩, ⟨17, 12, .ro, 0x800, false, false⟩]⟩, -- CAP R205
  ⟨0x400004, [], .module, [⟨0, 1, .wo, 0, true, false⟩]⟩, -- CTRL R205
  ⟨0x400008, [], .module, [⟨0, 1, .w1c, 0, false, false⟩, ⟨1, 1, .w1c, 0, false, false⟩, ⟨2, 1, .w1c, 0, false, false⟩, ⟨3, 1, .w1c, 0, false, false⟩, ⟨4, 1, .w1c, 0, false, false⟩, ⟨5, 1, .w1c, 0, false, false⟩, ⟨6, 1, .w1c, 0, false, false⟩]⟩, -- ERR R205
  ⟨0x40000C, [], .module, [⟨0, 7, .rw, 0, false, false⟩]⟩, -- ERR_MASK R205
  ⟨0x400010, [], .module, [⟨0, 23, .ro, 0, false, false⟩]⟩, -- POOL_BASE R205
  ⟨0x400014, [], .module, [⟨0, 24, .ro, 0, false, false⟩]⟩, -- POOL_SIZE R205
  ⟨0x400018, [], .module, [⟨0, 24, .ro, 0, false, false⟩]⟩, -- SHARED_FREE R205
  ⟨0x40001C, [], .module, [⟨0, 24, .ro, 0xFFFFFF, false, false⟩]⟩, -- SHARED_MIN R205
  ⟨0x400020, [], .module, [⟨0, 32, .ro, 0x10000000, false, false⟩]⟩, -- NOPROG_LIMIT R205
  ⟨0x400024, [], .module, [⟨0, 5, .ro, 0, false, false⟩, ⟨5, 24, .ro, 0, false, false⟩]⟩, -- LAST_NOPROG R205
  ⟨0x400028, [], .module, [⟨0, 32, .ro, 0, false, false⟩]⟩, -- CE R205
  ⟨0x40002C, [], .module, [⟨0, 32, .ro, 0, false, false⟩]⟩, -- UE R205
  ⟨0x400030, [], .module, [⟨0, 32, .ro, 0, false, false⟩]⟩, -- Q_OVR R205
  ⟨0x400034, [], .module, [⟨0, 32, .ro, 0, false, false⟩]⟩, -- Q_PAR R205
  ⟨0x400040, [(4, 2)], .module, [⟨0, 13, .ro, 0, false, false⟩, ⟨16, 13, .ro, 0, false, false⟩]⟩, -- TRANSIT R205
  ⟨0x400048, [], .module, [⟨0, 13, .ro, 0, false, false⟩, ⟨16, 13, .ro, 0, false, false⟩]⟩, -- SPILL R205
  ⟨0x400100, [(0x10, 32)], .module, [⟨0, 23, .ro, 0, false, false⟩]⟩, -- FLOOR R205
  ⟨0x400104, [(0x10, 32)], .module, [⟨0, 23, .ro, 0, false, false⟩]⟩, -- SLOT R205
  ⟨0x400108, [(0x10, 32)], .module, [⟨0, 24, .ro, 0, false, false⟩]⟩, -- LIMIT R205
  ⟨0x40010C, [(0x10, 32)], .module, [⟨0, 30, .ro, 0, false, false⟩, ⟨30, 1, .ro, 0, false, false⟩]⟩ -- STAT R205
  ]

/-- Rows of the CASKET block. -/
def rowsCasket_1 : List RegRow := [
  ⟨0x400300, [(4, 32)], .module, [⟨0, 24, .ro, 0, false, false⟩]⟩, -- USE R205
  ⟨0x410000, [(0x10, 2048)], .module, [⟨0, 16, .ro, 0, false, false⟩, ⟨16, 1, .ro, 0, false, false⟩, ⟨17, 1, .ro, 0, false, false⟩]⟩, -- QCFG R205
  ⟨0x410004, [(0x10, 2048)], .module, [⟨0, 24, .ro, 0, false, false⟩]⟩, -- QBASE R205
  ⟨0x410008, [(0x10, 2048)], .module, [⟨0, 22, .ro, 0, false, false⟩, ⟨22, 1, .ro, 1, false, false⟩, ⟨23, 1, .ro, 0, false, false⟩, ⟨24, 1, .w1c, 0, false, false⟩, ⟨25, 1, .w1c, 0, false, false⟩, ⟨26, 1, .ro, 0, false, false⟩, ⟨27, 1, .ro, 1, false, false⟩]⟩, -- QSTAT R205
  ⟨0x41000C, [(0x10, 2048)], .module, [⟨0, 1, .wo, 0, true, false⟩]⟩ -- QCTL R205
  ]

/-- Rows of the CASKET block. -/
def rowsCasket : List RegRow := rowsCasket_0 ++ rowsCasket_1

/-- Rows of the CODEC block. -/
def rowsCodec : List RegRow := [
  ⟨0x600000, [], .module, [⟨0, 8, .ro, 0x10, false, false⟩, ⟨8, 8, .ro, 0x20, false, false⟩, ⟨16, 16, .ro, 0x100, false, false⟩]⟩, -- CAP R275
  ⟨0x600004, [], .module, [⟨0, 1, .ro, 0, false, false⟩, ⟨1, 1, .ro, 0, false, false⟩, ⟨2, 1, .ro, 0, false, false⟩, ⟨3, 1, .ro, 0, false, false⟩, ⟨4, 1, .ro, 0, false, false⟩, ⟨5, 1, .ro, 0, false, false⟩]⟩, -- CFG R275
  ⟨0x600008, [], .module, [⟨0, 1, .w1s, 0, true, false⟩, ⟨1, 1, .wo, 0, true, false⟩]⟩, -- CTRL R275
  ⟨0x60000C, [], .module, [⟨0, 1, .w1c, 0, false, false⟩, ⟨1, 1, .w1c, 0, false, false⟩, ⟨2, 1, .w1c, 0, false, false⟩, ⟨3, 1, .w1c, 0, false, false⟩, ⟨4, 1, .w1c, 0, false, false⟩]⟩, -- ERR R275
  ⟨0x600010, [], .module, [⟨0, 5, .rw, 0, false, false⟩]⟩, -- ERR_MASK R275
  ⟨0x600014, [(4, 2)], .module, [⟨0, 16, .rw, 0, true, false⟩, ⟨16, 2, .ro, 0, false, false⟩, ⟨18, 1, .wo, 0, true, false⟩]⟩, -- SLOT R275
  ⟨0x60001C, [(4, 2)], .module, [⟨0, 32, .ro, 0, false, false⟩]⟩, -- REFS R275
  ⟨0x600040, [(4, 8)], .module, [⟨0, 32, .ro, 0, false, false⟩]⟩, -- CNT R275
  ⟨0x600100, [(0x100, 2), (4, 34)], .module, [⟨0, 32, .rw, 0, true, false⟩]⟩ -- TABLE R275
  ]

/-- Rows of the CHAIN block. -/
def rowsChain : List RegRow := [
  ⟨0x800000, [(0x80000, 2)], .module, [⟨0, 8, .ro, 1, false, false⟩, ⟨8, 8, .ro, 1, false, false⟩, ⟨16, 8, .ro, 0, false, false⟩]⟩, -- CAP R60
  ⟨0x800004, [(0x80000, 2)], .module, [⟨0, 1, .rw, 0, true, false⟩, ⟨1, 1, .wo, 0, true, false⟩, ⟨2, 1, .rw, 0, false, false⟩]⟩, -- CTRL R60
  ⟨0x800008, [(0x80000, 2)], .module, [⟨0, 2, .ro, 0, false, false⟩, ⟨2, 1, .ro, 0, false, false⟩, ⟨3, 1, .ro, 0, false, false⟩, ⟨4, 5, .ro, 0, false, false⟩, ⟨9, 6, .ro, 0, false, false⟩, ⟨15, 1, .ro, 0, false, false⟩]⟩, -- STATUS R60
  ⟨0x80000C, [(0x80000, 2)], .module, [⟨0, 1, .w1c, 0, false, false⟩, ⟨1, 1, .w1c, 0, false, false⟩, ⟨2, 1, .w1c, 0, false, false⟩, ⟨3, 1, .w1c, 0, false, false⟩, ⟨4, 1, .w1c, 0, false, false⟩, ⟨5, 1, .w1c, 0, false, false⟩, ⟨6, 1, .w1c, 0, false, false⟩, ⟨7, 1, .w1c, 0, false, false⟩, ⟨8, 1, .w1c, 0, false, false⟩, ⟨9, 1, .w1c, 0, false, false⟩, ⟨10, 1, .w1c, 0, false, false⟩, ⟨11, 1, .w1c, 0, false, false⟩, ⟨12, 1, .w1c, 0, false, false⟩]⟩, -- ERR R60
  ⟨0x800010, [(0x80000, 2)], .module, [⟨0, 13, .rw, 0, false, false⟩]⟩, -- ERR_MASK R60
  ⟨0x800014, [(0x80000, 2)], .module, [⟨0, 32, .rw, 0x1000000, false, false⟩]⟩, -- LATE_TICKS R60
  ⟨0x800018, [(0x80000, 2)], .module, [⟨0, 7, .ro, 0, false, false⟩, ⟨7, 1, .ro, 0, false, false⟩]⟩, -- TRANSIT R60
  ⟨0x800040, [(0x80000, 2), (4, 16)], .module, [⟨0, 32, .ro, 0, false, false⟩]⟩, -- CNT R60
  ⟨0x800100, [], .module, [⟨0, 5, .ro, 0, false, false⟩, ⟨5, 6, .ro, 0, false, false⟩, ⟨11, 1, .ro, 0, false, false⟩, ⟨12, 5, .ro, 0, false, false⟩, ⟨17, 1, .ro, 0, false, false⟩]⟩, -- ARC R60
  ⟨0x800104, [], .module, [⟨0, 16, .ro, 0, false, false⟩, ⟨16, 16, .ro, 0, false, false⟩]⟩, -- BEAD_VER R60
  ⟨0x800108, [], .module, [⟨0, 32, .ro, 0, false, false⟩]⟩, -- STEP R60
  ⟨0x80010C, [], .module, [⟨0, 3, .ro, 0, false, false⟩, ⟨3, 5, .ro, 0, false, false⟩, ⟨8, 6, .ro, 0, false, false⟩]⟩, -- MEMBER R60
  ⟨0x800110, [], .module, [⟨0, 1, .ro, 0, false, false⟩, ⟨1, 5, .ro, 0, false, false⟩, ⟨6, 1, .ro, 0, false, false⟩]⟩, -- PROXY R60
  ⟨0x800114, [], .module, [⟨0, 32, .ro, 0, false, false⟩]⟩, -- PROXY_STEP R60
  ⟨0x800118, [], .module, [⟨0, 1, .ro, 0, false, false⟩, ⟨1, 1, .ro, 0, false, false⟩]⟩ -- KEY R60
  ]

/-- Rows of the PIPE block. -/
def rowsPipe : List RegRow := [
  ⟨0xA00000, [], .module, [⟨0, 4, .ro, 8, false, false⟩, ⟨4, 5, .ro, 0x10, false, false⟩, ⟨9, 11, .ro, 0x400, false, false⟩]⟩, -- CAP R81
  ⟨0xA00004, [], .module, [⟨0, 1, .rw, 0, true, false⟩, ⟨1, 1, .rw, 0, true, false⟩, ⟨2, 1, .wo, 0, true, false⟩]⟩, -- CTRL R81
  ⟨0xA00008, [], .module, [⟨0, 2, .ro, 0, false, false⟩, ⟨2, 3, .ro, 0, false, false⟩, ⟨5, 6, .ro, 0, false, false⟩, ⟨16, 10, .ro, 0, false, false⟩]⟩, -- SCHED R81
  ⟨0xA0000C, [], .module, [⟨0, 1, .w1c, 0, false, false⟩, ⟨1, 1, .w1c, 0, false, false⟩, ⟨2, 1, .w1c, 0, false, false⟩, ⟨3, 1, .w1c, 0, false, false⟩, ⟨4, 1, .w1c, 0, false, false⟩, ⟨5, 1, .w1c, 0, false, false⟩, ⟨6, 1, .w1c, 0, false, false⟩, ⟨7, 1, .w1c, 0, false, false⟩, ⟨8, 1, .w1c, 0, false, false⟩, ⟨9, 1, .w1c, 0, false, false⟩, ⟨10, 1, .w1c, 0, false, false⟩, ⟨11, 1, .w1c, 0, false, false⟩, ⟨12, 1, .w1c, 0, false, false⟩, ⟨13, 1, .w1c, 0, false, false⟩]⟩, -- ERR R81
  ⟨0xA00010, [], .module, [⟨0, 14, .rw, 0, false, false⟩]⟩, -- ERR_MASK R81
  ⟨0xA00014, [], .module, [⟨0, 12, .ro, 0, false, false⟩, ⟨16, 12, .ro, 0, false, false⟩]⟩, -- STASH R81
  ⟨0xA00018, [], .module, [⟨0, 12, .ro, 0, false, false⟩, ⟨16, 12, .ro, 0, false, false⟩]⟩, -- PARK R81
  ⟨0xA0001C, [], .module, [⟨0, 11, .ro, 0, false, false⟩, ⟨16, 11, .ro, 0, false, false⟩]⟩, -- SLOT_USE R81
  ⟨0xA00020, [(4, 2)], .module, [⟨0, 2, .ro, 0, false, false⟩, ⟨2, 5, .ro, 0, false, false⟩, ⟨7, 6, .ro, 0, false, false⟩, ⟨13, 1, .ro, 0, false, false⟩, ⟨14, 16, .ro, 0, false, false⟩, ⟨30, 1, .ro, 0, false, false⟩]⟩, -- STATUS R81
  ⟨0xA00040, [(4, 8)], .module, [⟨0, 32, .ro, 0, false, false⟩]⟩, -- CNT_UP R81
  ⟨0xA00060, [(4, 8)], .module, [⟨0, 32, .ro, 0, false, false⟩]⟩, -- CNT_DN R81
  ⟨0xA00080, [], .module, [⟨0, 32, .ro, 0, false, false⟩]⟩, -- PARKS R81
  ⟨0xA00084, [], .module, [⟨0, 32, .ro, 0, false, false⟩]⟩, -- RESUMES R81
  ⟨0xA10000, [(4, 8192)], .module, [⟨0, 32, .ro, 0, false, false⟩]⟩ -- SLOT R68
  ]

/-- Rows of the MEMC block. -/
def rowsMemc : List RegRow := [
  ⟨0xC00000, [], .module, [⟨0, 8, .ro, 0x80, false, false⟩]⟩, -- CAP R492
  ⟨0xC00100, [(4, 128)], .module, [⟨0, 1, .ro, 0, false, false⟩, ⟨1, 1, .ro, 0, false, false⟩, ⟨2, 1, .ro, 0, false, false⟩, ⟨8, 8, .ro, 0, false, false⟩]⟩, -- CHAN R492
  ⟨0xC00400, [(4, 128)], .module, [⟨0, 32, .ro, 0, false, false⟩]⟩ -- CE R492
  ]

/-- Rows of the POWER block. -/
def rowsPower : List RegRow := [
  ⟨0xE00000, [], .module, [⟨0, 16, .ro, 0x6000, false, false⟩, ⟨16, 16, .ro, 0xE000, false, false⟩]⟩, -- CAP R349
  ⟨0xE00004, [], .module, [⟨0, 12, .ro, 0x50, false, false⟩, ⟨16, 16, .ro, 0x6000, false, false⟩]⟩, -- CFG R349
  ⟨0xE00008, [], .module, [⟨0, 16, .ro, 0xC000, false, false⟩]⟩, -- PACE R349
  ⟨0xE0000C, [], .module, [⟨0, 16, .ro, 0xC000, false, false⟩]⟩, -- PACE_NOW R349
  ⟨0xE00010, [], .module, [⟨0, 12, .ro, 0x384, false, false⟩]⟩, -- BUDGET R349
  ⟨0xE00014, [], .module, [⟨0, 1, .ro, 0, false, false⟩, ⟨1, 1, .ro, 0, false, false⟩, ⟨2, 1, .ro, 0, false, false⟩, ⟨3, 1, .ro, 0, false, false⟩, ⟨4, 1, .ro, 0, false, false⟩, ⟨5, 1, .ro, 0, false, false⟩, ⟨6, 1, .ro, 0, false, false⟩]⟩, -- STATUS R349
  ⟨0xE00018, [], .module, [⟨0, 1, .w1c, 0, false, false⟩, ⟨1, 1, .w1c, 0, false, false⟩, ⟨2, 1, .w1c, 0, false, false⟩, ⟨3, 1, .w1c, 0, false, false⟩, ⟨4, 1, .w1c, 0, false, true⟩, ⟨5, 1, .w1c, 0, false, false⟩, ⟨6, 1, .w1c, 0, false, false⟩]⟩, -- ERR R349
  ⟨0xE0001C, [], .module, [⟨0, 7, .rw, 0, false, false⟩]⟩, -- ERR_MASK R349
  ⟨0xE00020, [], .module, [⟨0, 16, .ro, 0, false, false⟩]⟩, -- VIN R349
  ⟨0xE00024, [], .module, [⟨0, 16, .ro, 0, false, false⟩]⟩, -- PIN R349
  ⟨0xE00028, [], .module, [⟨0, 8, .ro, 0x5F, false, false⟩, ⟨8, 8, .ro, 0x69, false, false⟩, ⟨16, 8, .ro, 0x6E, false, false⟩]⟩, -- TLIM R349
  ⟨0xE0002C, [], .module, [⟨0, 9, .ro, 0, false, false⟩]⟩, -- LEND R349
  ⟨0xE00030, [], .module, [⟨0, 1, .wo, 0, true, false⟩]⟩, -- CTRL R349
  ⟨0xE00034, [], .module, [⟨0, 32, .rw, 0x10000, false, false⟩]⟩, -- RET_IDLE R349
  ⟨0xE00038, [], .module, [⟨0, 8, .ro, 0, false, false⟩, ⟨8, 8, .ro, 0, false, false⟩, ⟨16, 1, .ro, 0, false, false⟩]⟩, -- COOL R349
  ⟨0xE00040, [(4, 20)], .module, [⟨0, 8, .ro, 0, false, false⟩, ⟨8, 8, .ro, 0, false, true⟩]⟩, -- TEMP R349
  ⟨0xE00100, [(4, 8)], .module, [⟨0, 32, .ro, 0, false, false⟩]⟩ -- CNT R349
  ]

/-- Rows of the CLASP block. -/
def rowsClasp : List RegRow := [
  ⟨0x1000000, [], .module, [⟨0, 17, .ro, 0x10000, false, false⟩, ⟨17, 6, .ro, 0x20, false, false⟩]⟩, -- CAP R318
  ⟨0x1000004, [], .module, [⟨0, 1, .rw, 0, false, false⟩, ⟨1, 1, .wo, 0, true, false⟩]⟩, -- CTRL R318
  ⟨0x1000008, [], .module, [⟨0, 1, .w1c, 0, false, false⟩, ⟨1, 1, .w1c, 0, false, false⟩, ⟨2, 1, .w1c, 0, false, false⟩, ⟨3, 1, .w1c, 0, false, false⟩, ⟨4, 1, .w1c, 0, false, false⟩, ⟨5, 1, .w1c, 0, false, false⟩]⟩, -- ERR R318
  ⟨0x100000C, [], .module, [⟨0, 6, .rw, 0, false, false⟩]⟩, -- ERR_MASK R318
  ⟨0x1000010, [], .module, [⟨0, 16, .rw, 0, false, false⟩]⟩, -- HOST_NUM R318
  ⟨0x1000014, [], .module, [⟨0, 32, .wo, 0, true, false⟩]⟩, -- HOST_ADD R318
  ⟨0x1000018, [], .module, [⟨0, 16, .rw, 0, false, false⟩]⟩, -- FORCE_NUM R318
  ⟨0x100001C, [], .module, [⟨0, 32, .wo, 0, true, false⟩]⟩, -- FORCE_VAL R318
  ⟨0x1000020, [], .module, [⟨0, 32, .rw, 0x40000, false, false⟩]⟩, -- LEND_TICKS R318
  ⟨0x1000040, [(4, 8)], .module, [⟨0, 32, .ro, 0, false, false⟩]⟩, -- CNT R318
  ⟨0x1000100, [(0x10, 32)], .module, [⟨0, 16, .rw, 0, false, false⟩]⟩, -- WATCH_NUM R318
  ⟨0x1000104, [(0x10, 32)], .module, [⟨0, 32, .rw, 0, false, false⟩]⟩, -- WATCH_TARGET R318
  ⟨0x1000108, [(0x10, 32)], .module, [⟨0, 1, .rw, 0, true, false⟩, ⟨1, 1, .w1c, 0, false, false⟩, ⟨2, 6, .rw, 0, false, false⟩]⟩, -- WATCH_CFG R318
  ⟨0x1000400, [(0x40, 16), (4, 15)], .module, [⟨0, 9, .ro, 0x1FF, false, false⟩]⟩, -- GROUP R318
  ⟨0x1040000, [(4, 65536)], .module, [⟨0, 32, .ro, 0, false, false⟩]⟩, -- VALUE R318
  ⟨0x1080000, [(4, 65536)], .module, [⟨0, 1, .w1c, 0, true, false⟩, ⟨1, 1, .w1c, 0, true, false⟩, ⟨2, 1, .w1c, 0, true, false⟩, ⟨3, 1, .ro, 0, false, false⟩, ⟨4, 1, .ro, 0, false, false⟩]⟩ -- FLAG R318
  ]

/-- Rows of the EVENT block. -/
def rowsEvent : List RegRow := [
  ⟨0x1400000, [], .locket, [⟨0, 16, .ro, 0x4000, false, false⟩]⟩, -- CAP R454
  ⟨0x1400004, [], .locket, [⟨0, 1, .wo, 0, true, false⟩, ⟨1, 1, .wo, 0, true, false⟩, ⟨2, 1, .wo, 0, true, false⟩]⟩, -- CTRL R454
  ⟨0x1400008, [], .locket, [⟨0, 11, .ro, 0, false, false⟩, ⟨11, 1, .ro, 0, false, false⟩, ⟨12, 1, .ro, 0, false, false⟩, ⟨13, 5, .ro, 0, false, false⟩]⟩, -- STATUS R454
  ⟨0x140000C, [], .locket, [⟨0, 1, .w1c, 0, false, false⟩, ⟨1, 1, .w1c, 0, false, false⟩, ⟨2, 1, .w1c, 0, false, false⟩]⟩, -- ERR R454
  ⟨0x1400010, [], .locket, [⟨0, 3, .rw, 0, false, false⟩]⟩, -- ERR_MASK R454
  ⟨0x1400014, [], .locket, [⟨0, 32, .ro, 0, false, false⟩]⟩, -- SEQ R454
  ⟨0x1400018, [], .locket, [⟨0, 32, .ro, 0, false, false⟩]⟩, -- LOST R454
  ⟨0x140001C, [], .locket, [⟨0, 32, .ro, 0, false, false⟩]⟩, -- SUPPRESSED R454
  ⟨0x1400020, [], .locket, [⟨0, 32, .ro, 0, false, false⟩]⟩, -- CLEARED_UPTO R454
  ⟨0x1400024, [], .locket, [⟨0, 32, .ro, 0, false, false⟩]⟩, -- CSEQ R454
  ⟨0x1400028, [], .locket, [⟨0, 2, .rw, 0, false, false⟩]⟩, -- RD_AREA R454
  ⟨0x140002C, [], .locket, [⟨0, 16, .rw, 0, false, false⟩]⟩, -- RD_INDEX R454
  ⟨0x1400030, [], .locket, [⟨0, 8, .ro, 0, false, false⟩]⟩, -- RD_COUNT R454
  ⟨0x1401000, [(4, 1024)], .locket, [⟨0, 32, .ro, 0, false, false⟩]⟩ -- WIN R454
  ]

/-- Rows of the LIFE block. -/
def rowsLife : List RegRow := [
  ⟨0x1480000, [], .locket, [⟨0, 1, .ro, 0, false, false⟩, ⟨8, 8, .ro, 0, false, false⟩]⟩, -- STATUS R454
  ⟨0x1480004, [], .locket, [⟨0, 32, .ro, 0, false, false⟩]⟩, -- LSEQ R454
  ⟨0x1480008, [], .locket, [⟨0, 32, .ro, 0, false, true⟩]⟩, -- HOURS R454
  ⟨0x148000C, [], .locket, [⟨0, 1, .wo, 0, true, false⟩]⟩, -- CTRL R454
  ⟨0x1480010, [], .locket, [⟨0, 1, .w1c, 0, false, false⟩, ⟨1, 1, .w1c, 0, false, false⟩, ⟨2, 1, .w1c, 0, false, false⟩]⟩, -- ERR R454
  ⟨0x1480014, [], .locket, [⟨0, 3, .rw, 0, false, false⟩]⟩, -- ERR_MASK R454
  ⟨0x1490000, [(4, 16384)], .locket, [⟨0, 32, .ro, 0, false, false⟩]⟩ -- IMAGE R448
  ]

/-- Rows of the TEST block. -/
def rowsTest : List RegRow := [
  ⟨0x1600000, [], .module, [⟨0, 16, .ro, 0xA0, false, false⟩]⟩, -- CAP R454
  ⟨0x1600004, [], .module, [⟨0, 5, .wo, 0, true, false⟩, ⟨5, 2, .wo, 0, true, false⟩]⟩, -- CMD R454
  ⟨0x1600008, [], .module, [⟨0, 1, .w1c, 0, false, false⟩, ⟨1, 1, .w1c, 0, false, false⟩]⟩, -- ERR R454
  ⟨0x160000C, [], .module, [⟨0, 2, .rw, 0, false, false⟩]⟩, -- ERR_MASK R454
  ⟨0x1600040, [(0x20, 20)], .module, [⟨0, 2, .ro, 0, false, false⟩, ⟨2, 2, .ro, 0, false, false⟩, ⟨16, 16, .ro, 0, false, false⟩]⟩, -- RESULT_STATUS R454
  ⟨0x1600044, [(0x20, 20)], .module, [⟨0, 32, .ro, 0, false, false⟩]⟩, -- RESULT_FAILMAP R454
  ⟨0x1600048, [(0x20, 20)], .module, [⟨0, 32, .ro, 0, false, false⟩]⟩, -- RESULT_MB_SIG_LO R454
  ⟨0x160004C, [(0x20, 20)], .module, [⟨0, 32, .ro, 0, false, false⟩]⟩, -- RESULT_MB_SIG_HI R454
  ⟨0x1600050, [(0x20, 20)], .module, [⟨0, 32, .ro, 0, false, false⟩]⟩, -- RESULT_REPAIRED R454
  ⟨0x1600054, [(0x20, 20)], .module, [⟨0, 32, .ro, 0, false, false⟩]⟩, -- RESULT_BANKFAIL R454
  ⟨0x1601000, [(8, 640)], .module, [⟨0, 32, .ro, 0, false, false⟩]⟩, -- PSIG_LO R454
  ⟨0x1601004, [(8, 640)], .module, [⟨0, 32, .ro, 0, false, false⟩]⟩ -- PSIG_HI R454
  ]

/-- Rows of the LOUPE block. -/
def rowsLoupe : List RegRow := [
  ⟨0x1700000, [], .module, [⟨0, 2, .rw, 0, true, false⟩, ⟨2, 1, .wo, 0, true, false⟩, ⟨3, 1, .wo, 0, true, false⟩]⟩, -- CTRL R334
  ⟨0x1700004, [], .module, [⟨1, 8, .rw, 0xFF, false, false⟩]⟩, -- MASK R334
  ⟨0x1700008, [], .module, [⟨0, 12, .ro, 0, false, false⟩, ⟨16, 12, .ro, 0, false, false⟩]⟩, -- REGION R334
  ⟨0x170000C, [], .module, [⟨0, 2, .ro, 0, false, false⟩, ⟨2, 1, .ro, 0, false, false⟩, ⟨3, 1, .ro, 0, false, false⟩]⟩, -- STATUS R334
  ⟨0x1700010, [], .module, [⟨0, 32, .ro, 0, false, false⟩]⟩, -- WR_LO R334
  ⟨0x1700014, [], .module, [⟨0, 32, .ro, 0, false, false⟩]⟩, -- WR_HI R334
  ⟨0x1700018, [], .module, [⟨0, 32, .ro, 0, false, false⟩]⟩, -- LOST R334
  ⟨0x1700040, [], .module, [⟨0, 32, .ro, 0, false, false⟩]⟩, -- VAR_STEP R334
  ⟨0x1700044, [], .module, [⟨0, 32, .ro, 0, false, false⟩]⟩, -- VAR_LAST R334
  ⟨0x1700048, [], .module, [⟨0, 32, .ro, 0, false, false⟩]⟩, -- VAR_LAST_STEP R334
  ⟨0x1700060, [(4, 8)], .module, [⟨0, 32, .ro, 0, false, false⟩]⟩ -- VAR_SRC R334
  ]

/-- Rows of the FMT block. -/
def rowsFmt : List RegRow := [
  ⟨0x1800000, [], .module, [⟨0, 16, .ro, 0x1000, false, false⟩, ⟨16, 5, .ro, 0x10, false, false⟩]⟩, -- CAP R121
  ⟨0x1800004, [], .module, [⟨0, 1, .ro, 0, false, false⟩, ⟨1, 2, .ro, 0, false, false⟩, ⟨16, 16, .ro, 0, false, false⟩]⟩, -- POLICY R121
  ⟨0x1800008, [], .module, [⟨0, 1, .ro, 0, false, false⟩, ⟨1, 1, .w1s, 0, true, false⟩, ⟨2, 1, .ro, 0, false, false⟩]⟩, -- VERDICT R121
  ⟨0x180000C, [], .module, [⟨0, 1, .w1c, 0, false, false⟩, ⟨1, 1, .w1c, 0, false, false⟩, ⟨2, 1, .w1c, 0, false, false⟩, ⟨3, 1, .w1c, 0, false, false⟩, ⟨4, 1, .w1c, 0, false, false⟩, ⟨5, 1, .w1c, 0, false, false⟩]⟩, -- ERR R121
  ⟨0x1800010, [], .module, [⟨0, 6, .rw, 0, false, false⟩]⟩, -- ERR_MASK R121
  ⟨0x1800014, [], .module, [⟨0, 16, .ro, 0, false, false⟩, ⟨16, 16, .ro, 0, false, false⟩]⟩, -- LAST R121
  ⟨0x1800018, [], .module, [⟨0, 32, .ro, 0, false, false⟩]⟩, -- SKIPS R121
  ⟨0x180001C, [], .module, [⟨0, 32, .ro, 0, false, false⟩]⟩, -- CLEAN_RUN R121
  ⟨0x1800040, [(0x10, 16)], .module, [⟨0, 6, .ro, 0, false, false⟩, ⟨6, 3, .ro, 0, false, false⟩, ⟨10, 10, .ro, 0, false, false⟩]⟩, -- THR_A R121
  ⟨0x1800044, [(0x10, 16)], .module, [⟨0, 16, .ro, 0, false, false⟩, ⟨16, 12, .ro, 0, false, false⟩]⟩, -- THR_B R121
  ⟨0x1800048, [(0x10, 16)], .module, [⟨0, 16, .ro, 0, false, false⟩]⟩, -- THR_C R121
  ⟨0x1880000, [(0x80, 4096)], .module, [⟨0, 8, .ro, 0, false, false⟩, ⟨8, 8, .ro, 0, false, false⟩, ⟨16, 4, .ro, 0, false, false⟩, ⟨20, 1, .ro, 0, false, false⟩, ⟨21, 1, .ro, 0, false, false⟩, ⟨22, 1, .ro, 0, false, false⟩, ⟨23, 1, .ro, 0, false, false⟩]⟩, -- ENT_CFG R121
  ⟨0x1880004, [(0x80, 4096)], .module, [⟨0, 8, .ro, 0, false, false⟩, ⟨8, 8, .ro, 0, false, false⟩, ⟨16, 8, .ro, 0, false, false⟩, ⟨24, 8, .ro, 0, false, false⟩]⟩, -- ENT_STATE R121
  ⟨0x1880008, [(0x80, 4096)], .module, [⟨0, 16, .ro, 0, false, false⟩, ⟨16, 12, .ro, 0, false, false⟩, ⟨28, 4, .ro, 0, false, false⟩]⟩, -- ENT_CLEAN R121
  ⟨0x188000C, [(0x80, 4096)], .module, [⟨0, 2, .ro, 0, false, false⟩]⟩, -- ENT_MISC R121
  ⟨0x1880010, [(0x80, 4096), (4, 8)], .module, [⟨0, 32, .ro, 0, false, false⟩]⟩, -- ENT_CNT R121
  ⟨0x1880030, [(0x80, 4096)], .module, [⟨0, 16, .ro, 0, false, false⟩, ⟨16, 16, .ro, 0, false, false⟩]⟩, -- ENT_MOVES R121
  ⟨0x1880040, [(0x80, 4096), (4, 16)], .module, [⟨0, 32, .ro, 0, false, false⟩]⟩, -- ENT_HISTORY R121
  ⟨0x1900000, [(4, 262144)], .module, [⟨0, 32, .ro, 0, false, false⟩]⟩ -- HIST R112
  ]

/-- Rows of the GRAD block. -/
def rowsGrad_0 : List RegRow := [
  ⟨0x1A00000, [], .module, [⟨0, 16, .ro, 0x100, false, false⟩, ⟨16, 8, .ro, 0x40, false, false⟩]⟩, -- CAP R227
  ⟨0x1A00004, [], .module, [⟨0, 1, .ro, 0, false, false⟩, ⟨1, 1, .ro, 0, false, false⟩, ⟨2, 1, .ro, 0, false, false⟩, ⟨3, 1, .ro, 0, false, false⟩, ⟨4, 1, .ro, 0, false, false⟩]⟩, -- CFG R227
  ⟨0x1A00008, [], .module, [⟨0, 32, .ro, 0, false, false⟩]⟩, -- LATE_WINDOW R227
  ⟨0x1A0000C, [], .module, [⟨0, 32, .ro, 0, false, false⟩]⟩, -- CLIP_MAX R227
  ⟨0x1A00010, [], .module, [⟨0, 24, .ro, 0, false, false⟩]⟩, -- CARRY_ENTRIES R227
  ⟨0x1A00014, [], .module, [⟨0, 12, .ro, 0, false, false⟩, ⟨16, 12, .ro, 0, false, false⟩]⟩, -- CLASP_A R227
  ⟨0x1A00018, [], .module, [⟨0, 12, .ro, 0, false, false⟩]⟩, -- CLASP_B R227
  ⟨0x1A0001C, [], .module, [⟨0, 3, .ro, 0, false, false⟩]⟩, -- STATUS R227
  ⟨0x1A00020, [], .module, [⟨0, 32, .ro, 0, false, false⟩]⟩, -- PENDING R227
  ⟨0x1A00024, [], .module, [⟨0, 1, .w1c, 0, false, false⟩, ⟨1, 1, .w1c, 0, false, false⟩, ⟨2, 1, .w1c, 0, false, false⟩, ⟨3, 1, .w1c, 0, false, false⟩, ⟨4, 1, .w1c, 0, false, false⟩, ⟨5, 1, .w1c, 0, false, false⟩, ⟨6, 1, .w1c, 0, false, false⟩]⟩, -- ERR R227
  ⟨0x1A00028, [], .module, [⟨0, 7, .rw, 0, false, false⟩]⟩, -- ERR_MASK R227
  ⟨0x1A0002C, [], .module, [⟨0, 1, .wo, 0, true, false⟩]⟩, -- CTRL R227
  ⟨0x1A00030, [], .module, [⟨0, 32, .ro, 0, false, false⟩]⟩, -- NORM_LO R227
  ⟨0x1A00034, [], .module, [⟨0, 32, .ro, 0, false, false⟩]⟩, -- NORM_HI R227
  ⟨0x1A00038, [], .module, [⟨0, 32, .ro, 0, false, false⟩]⟩, -- LOCAL_LO R227
  ⟨0x1A0003C, [], .module, [⟨0, 32, .ro, 0, false, false⟩]⟩, -- LOCAL_HI R227
  ⟨0x1A00040, [], .module, [⟨0, 32, .ro, 0x3F800000, false, false⟩]⟩, -- CLIP R227
  ⟨0x1A00044, [], .module, [⟨0, 32, .ro, 0, false, false⟩]⟩, -- NF R227
  ⟨0x1A00048, [], .module, [⟨0, 32, .ro, 0, false, false⟩]⟩, -- HO_RECORDS R227
  ⟨0x1A0004C, [], .module, [⟨0, 32, .ro, 0, false, false⟩]⟩ -- UPD_DONE R227
  ]

/-- Rows of the GRAD block. -/
def rowsGrad_1 : List RegRow := [
  ⟨0x1A00080, [(0x10, 2)], .module, [⟨0, 32, .rw, 0, false, false⟩]⟩, -- HO_ADDR_LO R227
  ⟨0x1A00084, [(0x10, 2)], .module, [⟨0, 32, .rw, 0, true, false⟩]⟩, -- HO_ADDR_HI R227
  ⟨0x1A00088, [(0x10, 2)], .module, [⟨0, 32, .rw, 0, false, false⟩]⟩, -- HO_SIZE R227
  ⟨0x1A000C0, [(4, 4)], .module, [⟨0, 12, .ro, 0, false, false⟩, ⟨16, 12, .ro, 0, false, false⟩]⟩, -- REGION R227
  ⟨0x1A00100, [(4, 8)], .module, [⟨0, 32, .ro, 0, false, false⟩]⟩ -- CNT R227
  ]

/-- Rows of the GRAD block. -/
def rowsGrad : List RegRow := rowsGrad_0 ++ rowsGrad_1

/-- Rows of the HEALTH block. -/
def rowsHealth_0 : List RegRow := [
  ⟨0x1B00000, [], .module, [⟨0, 9, .ro, 0x100, false, false⟩, ⟨9, 7, .ro, 0x40, false, false⟩, ⟨16, 16, .ro, 0x100, false, false⟩]⟩, -- CAP R247
  ⟨0x1B00004, [], .module, [⟨0, 4, .ro, 0, false, false⟩, ⟨4, 12, .ro, 0, false, false⟩, ⟨16, 1, .ro, 0, false, false⟩, ⟨17, 1, .ro, 0, false, false⟩, ⟨18, 1, .ro, 0, false, false⟩]⟩, -- CFG R247
  ⟨0x1B00008, [], .module, [⟨0, 32, .ro, 0, false, false⟩]⟩, -- RATIO R247
  ⟨0x1B0000C, [], .module, [⟨0, 1, .ro, 0, false, false⟩, ⟨1, 1, .ro, 0, false, false⟩, ⟨2, 1, .w1s, 0, true, false⟩, ⟨3, 1, .ro, 0, false, false⟩]⟩, -- VERDICT R247
  ⟨0x1B00010, [], .module, [⟨0, 1, .w1c, 0, false, false⟩, ⟨1, 1, .w1c, 0, false, false⟩, ⟨2, 1, .w1c, 0, false, false⟩, ⟨3, 1, .w1c, 0, false, false⟩, ⟨4, 1, .w1c, 0, false, false⟩]⟩, -- ERR R247
  ⟨0x1B00014, [], .module, [⟨0, 5, .rw, 0, false, false⟩]⟩, -- ERR_MASK R247
  ⟨0x1B00018, [], .module, [⟨0, 1, .w1s, 0, true, false⟩]⟩, -- CTRL R247
  ⟨0x1B0001C, [], .module, [⟨0, 32, .ro, 0, false, false⟩]⟩, -- SNAP_STEP R247
  ⟨0x1B00020, [], .module, [⟨0, 32, .ro, 0, false, false⟩]⟩, -- LOSS R247
  ⟨0x1B00024, [], .module, [⟨0, 32, .ro, 0, false, false⟩]⟩, -- EWMA R247
  ⟨0x1B00028, [], .module, [⟨0, 32, .ro, 0, false, false⟩]⟩, -- EWMA_N R247
  ⟨0x1B0002C, [], .module, [⟨0, 32, .ro, 0, false, false⟩]⟩, -- EVAL_LOSS R247
  ⟨0x1B00030, [], .module, [⟨0, 1, .ro, 0, false, false⟩, ⟨1, 1, .ro, 0, false, false⟩, ⟨2, 1, .ro, 0, false, false⟩]⟩, -- SNAP_FLAGS R247
  ⟨0x1B00040, [], .module, [⟨0, 16, .ro, 0, false, false⟩, ⟨16, 12, .ro, 0, false, false⟩]⟩, -- CAMEO_CFG R247
  ⟨0x1B00044, [], .module, [⟨0, 12, .ro, 0, false, false⟩, ⟨16, 12, .ro, 0, false, false⟩]⟩, -- CAMEO_REGION R247
  ⟨0x1B00048, [], .module, [⟨0, 32, .ro, 0xFFFFFFFF, false, false⟩]⟩, -- SENT_STEP R247
  ⟨0x1B0004C, [], .module, [⟨0, 32, .ro, 0xFFFFFFFF, false, false⟩]⟩, -- HELD_STEP R247
  ⟨0x1B00050, [], .module, [⟨0, 1, .ro, 0, false, false⟩, ⟨1, 1, .ro, 0, false, false⟩, ⟨2, 1, .ro, 0, false, false⟩, ⟨3, 1, .ro, 0, false, false⟩, ⟨4, 1, .ro, 0, false, false⟩]⟩, -- CAMEO_STATUS R247
  ⟨0x1B00060, [(4, 6)], .module, [⟨0, 16, .ro, 0, false, false⟩, ⟨16, 16, .ro, 0, false, false⟩]⟩, -- CAMEO_PART R247
  ⟨0x1B00080, [(4, 8)], .module, [⟨0, 32, .ro, 0, false, false⟩]⟩ -- NF R247
  ]

/-- Rows of the HEALTH block. -/
def rowsHealth_1 : List RegRow := [
  ⟨0x1B00100, [(0x10, 64)], .module, [⟨0, 3, .ro, 0, false, false⟩, ⟨3, 1, .ro, 0, false, false⟩]⟩, -- ASLOT_CFG R247
  ⟨0x1B00104, [(0x10, 64)], .module, [⟨0, 32, .ro, 0, false, false⟩]⟩, -- ASLOT_SUM_LO R247
  ⟨0x1B00108, [(0x10, 64)], .module, [⟨0, 32, .ro, 0, false, false⟩]⟩, -- ASLOT_SUM_HI R247
  ⟨0x1B0010C, [(0x10, 64)], .module, [⟨0, 32, .ro, 0, false, false⟩]⟩, -- ASLOT_NF R247
  ⟨0x1B01000, [(0x20, 256)], .module, [⟨0, 16, .ro, 0, false, false⟩, ⟨16, 1, .ro, 0, false, false⟩]⟩, -- LNORM_LAYER R247
  ⟨0x1B01004, [(0x20, 256), (4, 6)], .module, [⟨0, 32, .ro, 0, false, false⟩]⟩ -- LNORM_SUM R247
  ]

/-- Rows of the HEALTH block. -/
def rowsHealth : List RegRow := rowsHealth_0 ++ rowsHealth_1

/-- Rows of the CHARM block. -/
def rowsCharm : List RegRow := [
  ⟨0x1B80000, [], .module, [⟨0, 19, .ro, 0x40000, false, false⟩, ⟨19, 7, .ro, 0x40, false, false⟩]⟩, -- CAP R262
  ⟨0x1B80004, [], .module, [⟨0, 1, .ro, 0, false, false⟩]⟩, -- CFG R262
  ⟨0x1B80008, [], .module, [⟨0, 12, .ro, 0, false, false⟩, ⟨12, 12, .ro, 0, false, false⟩, ⟨24, 8, .ro, 0, false, false⟩]⟩, -- REGION R262
  ⟨0x1B8000C, [], .module, [⟨0, 12, .ro, 0, false, false⟩, ⟨12, 12, .ro, 0, false, false⟩]⟩, -- ACC_REGION R262
  ⟨0x1B80010, [], .module, [⟨0, 12, .ro, 0, false, false⟩, ⟨16, 12, .ro, 0, false, false⟩]⟩, -- CLASP R262
  ⟨0x1B80014, [], .module, [⟨0, 1, .w1c, 0, false, false⟩, ⟨1, 1, .w1c, 0, false, false⟩, ⟨2, 1, .w1c, 0, false, false⟩, ⟨3, 1, .w1c, 0, false, false⟩, ⟨4, 1, .w1c, 0, false, false⟩, ⟨5, 1, .w1c, 0, false, false⟩, ⟨6, 1, .w1c, 0, false, false⟩]⟩, -- ERR R262
  ⟨0x1B80018, [], .module, [⟨0, 7, .rw, 0, false, false⟩]⟩, -- ERR_MASK R262
  ⟨0x1B8001C, [], .module, [⟨0, 1, .wo, 0, true, false⟩]⟩, -- CTRL R262
  ⟨0x1B80020, [], .module, [⟨0, 32, .ro, 0, false, true⟩]⟩, -- ATTEMPT R262
  ⟨0x1B80024, [], .module, [⟨0, 32, .ro, 0, false, false⟩]⟩, -- HO_RECORDS R262
  ⟨0x1B80030, [], .module, [⟨0, 32, .rw, 0, false, false⟩]⟩, -- HO_ADDR_LO R262
  ⟨0x1B80034, [], .module, [⟨0, 32, .rw, 0, true, false⟩]⟩, -- HO_ADDR_HI R262
  ⟨0x1B80038, [], .module, [⟨0, 32, .rw, 0, false, false⟩]⟩, -- HO_SIZE R262
  ⟨0x1B80040, [(4, 16)], .module, [⟨0, 8, .ro, 0, false, false⟩]⟩, -- TSET R262
  ⟨0x1B80100, [(4, 8)], .module, [⟨0, 32, .ro, 0, false, false⟩]⟩, -- CNT R262
  ⟨0x1B88000, [(0x10, 2048)], .module, [⟨0, 16, .ro, 0, false, false⟩, ⟨16, 16, .ro, 0, false, false⟩]⟩, -- TENT_LT R262
  ⟨0x1B88004, [(0x10, 2048)], .module, [⟨0, 24, .ro, 0, false, false⟩]⟩, -- TENT_DIN R262
  ⟨0x1B88008, [(0x10, 2048)], .module, [⟨0, 24, .ro, 0, false, false⟩]⟩ -- TENT_DOUT R262
  ]

/-- Rows of the LINK block. -/
def rowsLink_0 : List RegRow := [
  ⟨0x801000, [(0x80000, 2)], .module, [⟨0, 8, .ro, 1, false, false⟩, ⟨8, 8, .ro, 1, false, false⟩, ⟨16, 8, .ro, 0, false, false⟩, ⟨24, 6, .ro, 0x20, false, false⟩]⟩, -- CAP R372
  ⟨0xA20000, [(0x1000, 2)], .module, [⟨0, 8, .ro, 1, false, false⟩, ⟨8, 8, .ro, 1, false, false⟩, ⟨16, 8, .ro, 0, false, false⟩, ⟨24, 6, .ro, 8, false, false⟩]⟩, -- CAP R372
  ⟨0x801004, [(0x80000, 2)], .module, [⟨0, 6, .ro, 0x10, false, false⟩, ⟨16, 16, .ro, 0, false, false⟩]⟩, -- CFG R372
  ⟨0xA20004, [(0x1000, 2)], .module, [⟨0, 6, .ro, 4, false, false⟩, ⟨16, 16, .ro, 0, false, false⟩]⟩, -- CFG R372
  ⟨0x801008, [(0x80000, 2)], .module, [⟨0, 1, .wo, 0, true, false⟩, ⟨1, 1, .wo, 0, true, false⟩]⟩, -- CTRL R372
  ⟨0xA20008, [(0x1000, 2)], .module, [⟨0, 1, .wo, 0, true, false⟩, ⟨1, 1, .wo, 0, true, false⟩]⟩, -- CTRL R372
  ⟨0x80100C, [(0x80000, 2)], .module, [⟨0, 3, .ro, 0, false, false⟩, ⟨4, 6, .ro, 0, false, false⟩, ⟨10, 6, .ro, 0, false, false⟩, ⟨16, 16, .ro, 0, false, false⟩]⟩, -- STATUS R372
  ⟨0xA2000C, [(0x1000, 2)], .module, [⟨0, 3, .ro, 0, false, false⟩, ⟨4, 6, .ro, 0, false, false⟩, ⟨10, 6, .ro, 0, false, false⟩, ⟨16, 16, .ro, 0, false, false⟩]⟩, -- STATUS R372
  ⟨0x801010, [(0x80000, 2)], .module, [⟨0, 1, .w1c, 0, false, false⟩, ⟨1, 1, .w1c, 0, false, false⟩, ⟨2, 1, .w1c, 0, false, false⟩, ⟨3, 1, .w1c, 0, false, false⟩, ⟨4, 1, .w1c, 0, false, false⟩, ⟨5, 1, .w1c, 0, false, false⟩, ⟨6, 1, .w1c, 0, false, false⟩, ⟨7, 1, .w1c, 0, false, false⟩]⟩, -- ERR R372
  ⟨0xA20010, [(0x1000, 2)], .module, [⟨0, 1, .w1c, 0, false, false⟩, ⟨1, 1, .w1c, 0, false, false⟩, ⟨2, 1, .w1c, 0, false, false⟩, ⟨3, 1, .w1c, 0, false, false⟩, ⟨4, 1, .w1c, 0, false, false⟩, ⟨5, 1, .w1c, 0, false, false⟩, ⟨6, 1, .w1c, 0, false, false⟩, ⟨7, 1, .w1c, 0, false, false⟩]⟩, -- ERR R372
  ⟨0x801014, [(0x80000, 2)], .module, [⟨0, 8, .rw, 0, false, false⟩]⟩, -- ERR_MASK R372
  ⟨0xA20014, [(0x1000, 2)], .module, [⟨0, 8, .rw, 0, false, false⟩]⟩, -- ERR_MASK R372
  ⟨0x801018, [(0x80000, 2)], .module, [⟨0, 32, .ro, 0, false, false⟩]⟩, -- LANES_RX R372
  ⟨0xA20018, [(0x1000, 2)], .module, [⟨0, 32, .ro, 0, false, false⟩]⟩, -- LANES_RX R372
  ⟨0x80101C, [(0x80000, 2)], .module, [⟨0, 32, .ro, 0, false, false⟩]⟩, -- LANES_TX R372
  ⟨0xA2001C, [(0x1000, 2)], .module, [⟨0, 32, .ro, 0, false, false⟩]⟩, -- LANES_TX R372
  ⟨0x801020, [(0x80000, 2)], .module, [⟨0, 32, .ro, 0, false, false⟩]⟩, -- POLARITY R372
  ⟨0xA20020, [(0x1000, 2)], .module, [⟨0, 32, .ro, 0, false, false⟩]⟩, -- POLARITY R372
  ⟨0x801024, [(0x80000, 2)], .module, [⟨0, 11, .ro, 0, false, false⟩, ⟨11, 1, .ro, 0, false, false⟩, ⟨12, 2, .ro, 0, false, false⟩, ⟨16, 3, .ro, 0, false, false⟩]⟩, -- NBR R372
  ⟨0xA20024, [(0x1000, 2)], .module, [⟨0, 11, .ro, 0, false, false⟩, ⟨11, 1, .ro, 0, false, false⟩, ⟨12, 2, .ro, 0, false, false⟩, ⟨16, 3, .ro, 0, false, false⟩]⟩ -- NBR R372
  ]

/-- Rows of the LINK block. -/
def rowsLink_1 : List RegRow := [
  ⟨0x801028, [(0x80000, 2)], .module, [⟨0, 32, .ro, 0, false, false⟩]⟩, -- NBR_SERIAL_LO R372
  ⟨0xA20028, [(0x1000, 2)], .module, [⟨0, 32, .ro, 0, false, false⟩]⟩, -- NBR_SERIAL_LO R372
  ⟨0x80102C, [(0x80000, 2)], .module, [⟨0, 32, .ro, 0, false, false⟩]⟩, -- NBR_SERIAL_HI R372
  ⟨0xA2002C, [(0x1000, 2)], .module, [⟨0, 32, .ro, 0, false, false⟩]⟩, -- NBR_SERIAL_HI R372
  ⟨0x801030, [(0x80000, 2)], .module, [⟨0, 32, .ro, 0, false, false⟩]⟩, -- GATE_TX R372
  ⟨0xA20030, [(0x1000, 2)], .module, [⟨0, 32, .ro, 0, false, false⟩]⟩, -- GATE_TX R372
  ⟨0x801034, [(0x80000, 2)], .module, [⟨0, 32, .ro, 0, false, false⟩]⟩, -- GATE_RX R372
  ⟨0xA20034, [(0x1000, 2)], .module, [⟨0, 32, .ro, 0, false, false⟩]⟩, -- GATE_RX R372
  ⟨0x801038, [(0x80000, 2)], .module, [⟨0, 16, .ro, 0, false, false⟩, ⟨16, 5, .ro, 0, false, false⟩]⟩, -- LAST_EVENT R372
  ⟨0xA20038, [(0x1000, 2)], .module, [⟨0, 16, .ro, 0, false, false⟩, ⟨16, 5, .ro, 0, false, false⟩]⟩, -- LAST_EVENT R372
  ⟨0x801040, [(0x80000, 2), (4, 16)], .module, [⟨0, 32, .ro, 0, false, false⟩]⟩, -- CNT R372
  ⟨0xA20040, [(0x1000, 2), (4, 16)], .module, [⟨0, 32, .ro, 0, false, false⟩]⟩, -- CNT R372
  ⟨0x801080, [(0x80000, 2), (4, 8)], .module, [⟨0, 24, .ro, 0, false, false⟩]⟩, -- CRED R372
  ⟨0xA20080, [(0x1000, 2), (4, 8)], .module, [⟨0, 24, .ro, 0, false, false⟩]⟩, -- CRED R372
  ⟨0x801100, [(0x80000, 2), (4, 32)], .module, [⟨0, 32, .ro, 0, false, false⟩]⟩, -- LANE_UC R372
  ⟨0xA20100, [(0x1000, 2), (4, 32)], .module, [⟨0, 32, .ro, 0, false, false⟩]⟩, -- LANE_UC R372
  ⟨0x801180, [(0x80000, 2), (4, 32)], .module, [⟨0, 32, .ro, 0, false, false⟩]⟩, -- LANE_NAK R372
  ⟨0xA20180, [(0x1000, 2), (4, 32)], .module, [⟨0, 32, .ro, 0, false, false⟩]⟩ -- LANE_NAK R372
  ]

/-- Rows of the LINK block. -/
def rowsLink : List RegRow := rowsLink_0 ++ rowsLink_1

/-- Rows of the CORE block. -/
def rowsCore : List RegRow := [
  ⟨0x2000000, [(0x100000, 16), (0x40000, 4), (0x8000, 6)], .module, [⟨0, 9, .ro, 0, false, false⟩, ⟨9, 9, .ro, 0x1FF, false, false⟩, ⟨18, 1, .ro, 0, false, false⟩]⟩, -- ID R154
  ⟨0x2000004, [(0x100000, 16), (0x40000, 4), (0x8000, 6)], .module, [⟨0, 3, .ro, 0, false, false⟩, ⟨3, 2, .ro, 0, false, false⟩, ⟨5, 1, .ro, 0, false, false⟩, ⟨6, 1, .ro, 0, false, false⟩]⟩, -- STATE R154
  ⟨0x2000008, [(0x100000, 16), (0x40000, 4), (0x8000, 6)], .module, [⟨0, 7, .ro, 0x7F, false, true⟩, ⟨8, 7, .ro, 0x7F, false, true⟩, ⟨16, 7, .ro, 0x40, false, true⟩, ⟨23, 1, .ro, 1, false, true⟩]⟩, -- COLMAP R154
  ⟨0x200000C, [(0x100000, 16), (0x40000, 4), (0x8000, 6)], .module, [⟨0, 1, .w1c, 0, false, false⟩, ⟨1, 1, .w1c, 0, false, false⟩, ⟨2, 1, .w1c, 0, false, false⟩, ⟨3, 1, .w1c, 0, false, false⟩, ⟨4, 1, .w1c, 0, false, false⟩, ⟨5, 1, .w1c, 0, false, false⟩, ⟨6, 1, .w1c, 0, false, false⟩]⟩, -- ERR R154
  ⟨0x2000010, [(0x100000, 16), (0x40000, 4), (0x8000, 6)], .module, [⟨0, 7, .rw, 0, false, false⟩]⟩, -- ERR_MASK R154
  ⟨0x2000014, [(0x100000, 16), (0x40000, 4), (0x8000, 6)], .module, [⟨0, 8, .ro, 0, false, false⟩, ⟨8, 24, .ro, 0, false, false⟩]⟩, -- ABORT R154
  ⟨0x2000018, [(0x100000, 16), (0x40000, 4), (0x8000, 6)], .module, [⟨0, 32, .ro, 0, false, false⟩]⟩, -- ABORT_PASS R154
  ⟨0x2000020, [(0x100000, 16), (0x40000, 4), (0x8000, 6)], .module, [⟨0, 32, .ro, 0, false, false⟩]⟩, -- PASSES_LO R154
  ⟨0x2000024, [(0x100000, 16), (0x40000, 4), (0x8000, 6)], .module, [⟨0, 32, .ro, 0, false, false⟩]⟩, -- PASSES_HI R154
  ⟨0x2000028, [(0x100000, 16), (0x40000, 4), (0x8000, 6)], .module, [⟨0, 32, .ro, 0, false, false⟩]⟩, -- BUSY_LO R154
  ⟨0x200002C, [(0x100000, 16), (0x40000, 4), (0x8000, 6)], .module, [⟨0, 32, .ro, 0, false, false⟩]⟩, -- BUSY_HI R154
  ⟨0x2000030, [(0x100000, 16), (0x40000, 4), (0x8000, 6), (4, 3)], .module, [⟨0, 32, .ro, 0, false, true⟩]⟩ -- BADCOL R154
  ]

/-- Rows of the CSTORE block. -/
def rowsCstore_0 : List RegRow := [
  ⟨0x2000100, [(0x100000, 16), (0x40000, 4), (0x8000, 6)], .module, [⟨0, 7, .ro, 0x40, false, false⟩, ⟨7, 7, .ro, 0x40, false, false⟩, ⟨14, 4, .ro, 8, false, false⟩, ⟨18, 6, .ro, 0x20, false, false⟩, ⟨24, 3, .ro, 6, false, false⟩]⟩, -- CAP R183
  ⟨0x2000104, [(0x100000, 16), (0x40000, 4), (0x8000, 6)], .module, [⟨0, 1, .rw, 0, false, false⟩, ⟨1, 1, .wo, 0, true, false⟩]⟩, -- CTRL R183
  ⟨0x2000108, [(0x100000, 16), (0x40000, 4), (0x8000, 6)], .module, [⟨0, 1, .w1c, 0, false, false⟩, ⟨1, 1, .w1c, 0, false, false⟩, ⟨2, 1, .w1c, 0, false, false⟩, ⟨3, 1, .w1c, 0, false, false⟩, ⟨4, 1, .w1c, 0, false, false⟩, ⟨5, 1, .w1c, 0, false, false⟩, ⟨6, 1, .w1c, 0, false, false⟩]⟩, -- ERR R183
  ⟨0x200010C, [(0x100000, 16), (0x40000, 4), (0x8000, 6)], .module, [⟨0, 7, .rw, 0, false, false⟩]⟩, -- ERR_MASK R183
  ⟨0x2000110, [(0x100000, 16), (0x40000, 4), (0x8000, 6)], .module, [⟨0, 32, .ro, 0, false, false⟩]⟩, -- STALE_WR R183
  ⟨0x2000114, [(0x100000, 16), (0x40000, 4), (0x8000, 6)], .module, [⟨0, 32, .ro, 0, false, false⟩]⟩, -- BAD_WR R183
  ⟨0x2000118, [(0x100000, 16), (0x40000, 4), (0x8000, 6)], .module, [⟨0, 32, .ro, 0, false, false⟩]⟩, -- BAD_RD R183
  ⟨0x200011C, [(0x100000, 16), (0x40000, 4), (0x8000, 6)], .module, [⟨0, 32, .ro, 0, false, false⟩]⟩, -- CE R183
  ⟨0x2000120, [(0x100000, 16), (0x40000, 4), (0x8000, 6)], .module, [⟨0, 32, .ro, 0, false, false⟩]⟩, -- GATED_LO R183
  ⟨0x2000124, [(0x100000, 16), (0x40000, 4), (0x8000, 6)], .module, [⟨0, 32, .ro, 0, false, false⟩]⟩, -- GATED_HI R183
  ⟨0x2000128, [(0x100000, 16), (0x40000, 4), (0x8000, 6)], .module, [⟨0, 32, .rw, 0x10000, false, false⟩]⟩, -- GATE_IDLE R183
  ⟨0x200012C, [(0x100000, 16), (0x40000, 4), (0x8000, 6)], .module, [⟨0, 6, .ro, 0, false, false⟩, ⟨6, 9, .ro, 0, false, false⟩, ⟨16, 16, .ro, 0, false, false⟩]⟩, -- LAST_STALE R183
  ⟨0x2000130, [(0x100000, 16), (0x40000, 4), (0x8000, 6)], .module, [⟨0, 32, .ro, 0, false, false⟩]⟩, -- CONFLICT_LO R183
  ⟨0x2000134, [(0x100000, 16), (0x40000, 4), (0x8000, 6)], .module, [⟨0, 32, .ro, 0, false, false⟩]⟩, -- CONFLICT_HI R183
  ⟨0x2000200, [(0x100000, 16), (0x40000, 4), (0x8000, 6), (0x20, 64)], .module, [⟨0, 21, .ro, 0, false, false⟩, ⟨21, 1, .ro, 0, false, false⟩, ⟨22, 1, .ro, 0, false, false⟩, ⟨23, 1, .ro, 0, false, false⟩, ⟨24, 1, .ro, 0, false, false⟩, ⟨25, 1, .ro, 0, false, false⟩]⟩, -- HANDLE_A R183
  ⟨0x2000204, [(0x100000, 16), (0x40000, 4), (0x8000, 6), (0x20, 64)], .module, [⟨0, 21, .ro, 0, false, false⟩]⟩, -- HANDLE_B R183
  ⟨0x2000208, [(0x100000, 16), (0x40000, 4), (0x8000, 6), (0x20, 64)], .module, [⟨0, 24, .ro, 0, false, false⟩, ⟨24, 8, .ro, 0, false, false⟩]⟩, -- HANDLE_C R183
  ⟨0x200020C, [(0x100000, 16), (0x40000, 4), (0x8000, 6), (0x20, 64)], .module, [⟨0, 16, .ro, 0, false, false⟩]⟩, -- HANDLE_D R183
  ⟨0x2000210, [(0x100000, 16), (0x40000, 4), (0x8000, 6), (0x20, 64)], .module, [⟨0, 32, .ro, 0, false, false⟩]⟩, -- HANDLE_CBASE_LO R183
  ⟨0x2000214, [(0x100000, 16), (0x40000, 4), (0x8000, 6), (0x20, 64)], .module, [⟨0, 8, .ro, 0, false, false⟩]⟩ -- HANDLE_CBASE_HI R183
  ]

/-- Rows of the CSTORE block. -/
def rowsCstore_1 : List RegRow := [
  ⟨0x2000218, [(0x100000, 16), (0x40000, 4), (0x8000, 6), (0x20, 64)], .module, [⟨0, 32, .ro, 0, false, false⟩]⟩, -- HANDLE_ARR R183
  ⟨0x2000A00, [(0x100000, 16), (0x40000, 4), (0x8000, 6)], .module, [⟨0, 4, .ro, 0, false, false⟩, ⟨4, 4, .ro, 0, false, false⟩, ⟨8, 1, .ro, 0, false, false⟩]⟩, -- STREAM_STATUS R183
  ⟨0x2000A04, [(0x100000, 16), (0x40000, 4), (0x8000, 6)], .module, [⟨0, 8, .ro, 0, false, false⟩, ⟨8, 5, .ro, 0, false, false⟩]⟩, -- STREAM_FAULT R183
  ⟨0x2000A08, [(0x100000, 16), (0x40000, 4), (0x8000, 6)], .module, [⟨0, 32, .ro, 0, false, false⟩]⟩, -- STREAM_FAULT_ADDR_LO R183
  ⟨0x2000A0C, [(0x100000, 16), (0x40000, 4), (0x8000, 6)], .module, [⟨0, 32, .ro, 0, false, false⟩]⟩, -- STREAM_FAULT_ADDR_HI R183
  ⟨0x2000A10, [(0x100000, 16), (0x40000, 4), (0x8000, 6)], .module, [⟨0, 24, .ro, 0, false, false⟩]⟩, -- STREAM_FAULT_DESC R183
  ⟨0x2000A18, [(0x100000, 16), (0x40000, 4), (0x8000, 6)], .module, [⟨0, 32, .ro, 0, false, false⟩]⟩, -- STREAM_BYTES_LO R183
  ⟨0x2000A1C, [(0x100000, 16), (0x40000, 4), (0x8000, 6)], .module, [⟨0, 32, .ro, 0, false, false⟩]⟩, -- STREAM_BYTES_HI R183
  ⟨0x2000A20, [(0x100000, 16), (0x40000, 4), (0x8000, 6)], .module, [⟨0, 32, .ro, 0, false, false⟩]⟩, -- STREAM_STRIPES_LO R183
  ⟨0x2000A24, [(0x100000, 16), (0x40000, 4), (0x8000, 6)], .module, [⟨0, 32, .ro, 0, false, false⟩]⟩, -- STREAM_STRIPES_HI R183
  ⟨0x2001000, [(0x100000, 16), (0x40000, 4), (0x8000, 6)], .module, [⟨0, 16, .ro, 0, false, false⟩, ⟨16, 1, .ro, 0, false, false⟩]⟩, -- CLASP_CORE_WAIT R318
  ⟨0x2001004, [(0x100000, 16), (0x40000, 4), (0x8000, 6)], .module, [⟨0, 32, .ro, 0, false, false⟩]⟩, -- CLASP_CORE_TARGET R318
  ⟨0x2001008, [(0x100000, 16), (0x40000, 4), (0x8000, 6)], .module, [⟨0, 5, .ro, 0, false, false⟩]⟩ -- CLASP_CORE_HOLDS R318
  ]

/-- Rows of the CSTORE block. -/
def rowsCstore : List RegRow := rowsCstore_0 ++ rowsCstore_1

/-- The _LO registers of the pairs of R8: the first instance of each and its strides; each _HI lies 4 bytes above. -/
def pairRows : List (Nat × List (Nat × Nat)) := [
  (0x18, []),
  (0x100018, []),
  (0x100028, []),
  (0x200100, [(0x40, 8)]),
  (0x200108, [(0x40, 8)]),
  (0x1600048, [(0x20, 20)]),
  (0x1601000, [(8, 640)]),
  (0x1700010, []),
  (0x1A00030, []),
  (0x1A00038, []),
  (0x1A00080, [(0x10, 2)]),
  (0x1B00104, [(0x10, 64)]),
  (0x1B01004, [(0x20, 256)]),
  (0x1B0100C, [(0x20, 256)]),
  (0x1B01014, [(0x20, 256)]),
  (0x1B80030, []),
  (0x801028, [(0x80000, 2)]),
  (0xA20028, [(0x1000, 2)]),
  (0x2000020, [(0x100000, 16), (0x40000, 4), (0x8000, 6)]),
  (0x2000028, [(0x100000, 16), (0x40000, 4), (0x8000, 6)]),
  (0x2000120, [(0x100000, 16), (0x40000, 4), (0x8000, 6)]),
  (0x2000130, [(0x100000, 16), (0x40000, 4), (0x8000, 6)]),
  (0x2000210, [(0x100000, 16), (0x40000, 4), (0x8000, 6), (0x20, 64)]),
  (0x2000A08, [(0x100000, 16), (0x40000, 4), (0x8000, 6)]),
  (0x2000A18, [(0x100000, 16), (0x40000, 4), (0x8000, 6)]),
  (0x2000A20, [(0x100000, 16), (0x40000, 4), (0x8000, 6)])]

/-- The rows of the block whose span holds BAR0 offset x (R485); none outside every block. -/
def rowsAt (x : Nat) : List RegRow :=
  if x < 0x00040000 then rowsLocket
  else if x < 0x00070000 then rowsSetup
  else if x < 0x00080000 then rowsSpare
  else if x < 0x00100000 then rowsBoard
  else if x < 0x00200000 then rowsHostif
  else if x < 0x00400000 then rowsFront
  else if x < 0x00600000 then rowsCasket
  else if x < 0x00800000 then rowsCodec
  else if x < 0x00A00000 then (if x % 0x80000 < 0x1000 then rowsChain else rowsLink)
  else if x < 0x00C00000 then (if x < 0x00A20000 then rowsPipe else rowsLink)
  else if x < 0x00E00000 then rowsMemc
  else if x < 0x01000000 then rowsPower
  else if x < 0x01400000 then rowsClasp
  else if x < 0x01480000 then rowsEvent
  else if x < 0x01600000 then rowsLife
  else if x < 0x01700000 then rowsTest
  else if x < 0x01800000 then rowsLoupe
  else if x < 0x01A00000 then rowsFmt
  else if x < 0x01B00000 then rowsGrad
  else if x < 0x01B80000 then rowsHealth
  else if x < 0x02000000 then rowsCharm
  else if x < 0x03000000 then (if x % 0x8000 < 0x100 then rowsCore else rowsCstore)
  else []

/-- Whether a distance from a row's first instance is that of one of its instances. -/
def dimsHit : List (Nat × Nat) → Nat → Bool
  | [], d => d == 0
  | (st, ct) :: r, d => if d / st < ct then dimsHit r (d % st) else false

/-- The row that offset x falls on, or none at a reserved address (R489). -/
def rowOf (x : Nat) : Option RegRow :=
  (rowsAt x).find? (fun r => decide (r.base ≤ x) && dimsHit r.dims (x - r.base))

/-- The word of a row at reset: each field at the reset value its table gives (R9), reserved bits 0 (R10). -/
def RegRow.resetWord (r : RegRow) : Nat :=
  r.fields.foldl (fun a f => a + f.reset * 2 ^ f.lo) 0

/-- The value a register reads as until something writes it: its reset word, and 0 at a reserved address. -/
def regReset (x : Nat) : BitVec 32 :=
  match rowOf x with
  | some r => BitVec.ofNat 32 r.resetWord
  | none => 0

/-- Whether offset x is the _LO register of a pair (R8). -/
def isPairLo (x : Nat) : Bool := pairRows.any (fun r => decide (r.1 ≤ x) && dimsHit r.2 (x - r.1))

end Sys2Proof.Machine
end

