-- ==== Sys2Proof/Machine/SMap.lean ====
section
/-! DEFINITION. Sparse data by key in one canonical form: keys strictly rising, and no entry equal to what an unlisted key reads as. -/

namespace Sys2Proof.Machine.SMap

variable {α : Type}

/-- What key k reads as; d gives what an unlisted key reads as. -/
def get (d : Nat → α) : List (Nat × α) → Nat → α
  | [], k => d k
  | (j, v) :: r, k => if k < j then d k else if k = j then v else get d r k

/-- Write v at key k, keeping the canonical form. -/
def set [DecidableEq α] (d : Nat → α) : List (Nat × α) → Nat → α → List (Nat × α)
  | [], k, v => if v = d k then [] else [(k, v)]
  | (j, w) :: r, k, v =>
    if k < j then (if v = d k then (j, w) :: r else (k, v) :: (j, w) :: r)
    else if k = j then (if v = d k then r.dropWhile (fun e => decide (e.1 ≤ k)) else (k, v) :: r)
    else (j, w) :: set d r k v

/-- Whether the keys rise strictly and every one lies above the bound, where there is one. -/
def rising : Option Nat → List (Nat × α) → Bool
  | _, [] => true
  | b, (j, _) :: r => (match b with | some i => decide (i < j) | none => true) && rising (some j) r

/-- Whether the list is in canonical form. -/
def wf [DecidableEq α] (d : Nat → α) (l : List (Nat × α)) : Bool :=
  rising none l && l.all (fun e => decide (e.2 ≠ d e.1))

/-- Write the values of a list at k, k + 1, and so on. -/
def setMany [DecidableEq α] (d : Nat → α) : List (Nat × α) → Nat → List α → List (Nat × α)
  | l, _, [] => l
  | l, k, v :: vs => setMany d (set d l k v) (k + 1) vs

/-- Drop every entry whose key lies from a up to, and not at, b. -/
def dropRange (l : List (Nat × α)) (a b : Nat) : List (Nat × α) :=
  l.filter (fun e => decide (e.1 < a) || decide (b ≤ e.1))

end Sys2Proof.Machine.SMap
end

