-- ==== Sys2Proof/Machine/State.lean ====
section
/-! DEFINITION. The state of the module as plain data: every register of BAR0 in one sparse file, memory in one sparse list, and
beside them what the spec gives each unit that no register shows. -/

namespace Sys2Proof.Machine

/-! ### Events, lifetime and flash (chapter 21) -/

/-- An event record (R434). -/
structure EvRec where
  code : BitVec 16
  source : BitVec 16
  seq : Word
  time : Pair
  p0 : Word
  p1 : Word
  p2 : Word
  p3 : Word
  deriving DecidableEq, Repr

/-- What the Locket keeps of the last record of a privileged code and source (R441): its REPEAT, the time of the latest
occurrence folded into it, and its SEQ. -/
structure PrivSeen where
  code : BitVec 16
  source : BitVec 16
  rep : Nat
  latest : Nat
  seq : Word
  deriving DecidableEq, Repr

/-- The Locket's event unit (R438 to R447). -/
structure Ev where
  /-- the volatile buffer: the unflushed records, oldest first -/
  buf : List EvRec
  /-- how many of the oldest records the running flush covers -/
  flushN : Nat
  /-- token level of each code's bucket, keyed by code; an unlisted code's bucket is full (R440) -/
  tokens : List (Nat × Nat)
  /-- suppressions of each code since its last summary, keyed by code -/
  suppressed : List (Nat × Nat)
  /-- SEQ of each code's last written record since the current start, keyed by code -/
  lastSeq : List (Nat × Option Word)
  priv : List PrivSeen
  /-- records discarded and not yet reported by an EVENT_LOST record (R439) -/
  lost : Nat
  /-- whole lifetime seconds since the current lifetime hour began (R434, R448) -/
  second : Nat
  /-- next free slot of the circulating area, 0 to 32,767 (R444) -/
  circ : Nat
  /-- circulating sectors marked bad for the part's life (R444) -/
  badSectors : List Nat
  /-- next free slot of the ledger (R443) -/
  ledger : Nat
  /-- a clear accepted while its flush runs: UPTO, CSEQ, KEY_ID (R446) -/
  clear : Option (Word × Word × Word)
  deriving DecidableEq, Repr

/-- The lifetime image's writer (R448 to R450): operating seconds since the last write, the image as the write that runs took it, the
image as the last complete snapshot holds it, the next snapshot slot and the next delta slot. -/
structure Life where
  sinceWrite : Nat
  writing : Option (List (Nat × Word))
  base : List (Nat × Word)
  nextSlot : Nat
  nextDelta : Nat
  deriving DecidableEq, Repr

/-- A self-test running on a die: the kind of TEST.CMD (R453). -/
structure TestRun where
  die : Nat
  kind : Nat
  deriving DecidableEq, Repr

/-! ### Host interface (chapter 18) -/

/-- What the module hands to the host: a posted write of its own, an MSI-X message, a completion of a host read, a DOE or MCTP
response, a management-bus answer. -/
inductive HostOut where
  | dmaWrite (addr : Nat) (data : List Byte)
  | msix (addr : Nat) (data : Word)
  | readDone (data : Word)
  | memDone (data : List Byte)
  | memPoisoned (data : List Byte)
  | completerAbort
  | unsupported
  | doe (data : List Byte)
  | doeError
  | spdm (transport : Transport) (data : List Byte)
  | i3cAddress (pid : Nat) (addr : Nat)
  deriving DecidableEq, Repr

/-- A handover write that waits for the DMA gate (R384): the unit, the offset within its region, the record's bytes. -/
structure WaitWrite where
  charm : Bool
  region : Nat
  offset : Nat
  data : List Byte
  deriving DecidableEq, Repr

/-- A host access through BAR2 that waits: a read or a write, its module address as it was received (R378), the bytes asked for, those written with their EP, what a
read meets in its words, and whether it came before item 1 of R23 (R27). -/
structure HostHeld where
  read : Bool
  addr : Nat
  len : Nat
  data : List Byte
  poisoned : Bool
  upset : Upset
  early : Bool
  deriving DecidableEq, Repr

/-- A capability of configuration space (R376). -/
inductive PciCap where
  | powerManagement | pciExpress | msiX
  | aer | secondaryPciExpress | dataLinkFeature | physicalLayer16 | physicalLayer32 | physicalLayer64 | laneMargining | deviceSerialNumber | doe
  | readinessTime | designatedVendor
  deriving DecidableEq, Repr

/-- What configuration space presents (R376): the identity, the capabilities and the extended capabilities, the serial number, the Reset Time in milliseconds, the
vendor and the ID of the DVSEC. The body of the DVSEC is HOSTIF.VERSION. -/
structure PciIdent where
  vendor : BitVec 16
  device : BitVec 16
  revision : BitVec 8
  classCode : BitVec 24
  caps : List PciCap
  extended : List PciCap
  serial : BitVec 64
  resetTime : Nat
  dvsecVendor : BitVec 16
  dvsecId : BitVec 16
  deriving DecidableEq, Repr

/-- The endpoint's state that no BAR0 register holds (R376, R384 to R390). -/
structure Pcie where
  ident : PciIdent
  /-- Bus Master Enable of configuration space -/
  busMaster : Bool
  /-- Function Mask of the MSI-X capability -/
  funcMask : Bool
  d3hot : Bool
  configReady : Bool
  /-- host accesses that wait, oldest first: a write under row 4 of R379, one whose stripes or bank are not ready, and all behind it -/
  held : List HostHeld
  /-- handover writes that wait for the gate -/
  waiting : List WaitWrite
  /-- the DOE object in progress -/
  doe : List Byte
  deriving DecidableEq, Repr

/-! ### The front end (chapter 13) -/

/-- A version of a stored graph (R284, R285). -/
structure Version where
  num : Nat
  refs : Nat
  image : List Byte
  deriving DecidableEq, Repr

/-- What the graph store holds of one graph number: the versions held, and the highest number it has had. -/
structure GraphX where
  versions : List Version
  highest : Nat
  deriving DecidableEq, Repr

/-- Which of a core's task states a task is in (R154), with the front end's own: not yet started, and ended. -/
inductive TaskPhase where
  | ready | run | waiting | saved | draining | ended
  deriving DecidableEq, Repr

/-- What a task waits for. -/
inductive TaskWait where
  | none
  | clasp (n : Nat) (target : Nat) (acquire : Bool) (mayVary : Bool)
  | arrivals (h : Nat) (count : Nat)
  | queue (q : Nat)
  /-- a descriptor that could not be done yet and is issued again: a full queue, hold list or list of enqueued tasks -/
  | retry (d : BitVec 256)
  /-- a GCLOSE that waits for the statistics close (R218) -/
  | close
  deriving DecidableEq, Repr

/-- A task of a launch (R286 to R290). -/
structure Task where
  id : Nat
  launch : Nat
  queue : Nat
  index : Nat
  core : Nat
  persistent : Bool
  /-- its first descriptor in the array and their number (R282) -/
  first : Nat
  count : Nat
  /-- the queue a persistent task pops and the handle that receives each word (R289) -/
  popQueue : Nat
  argHandle : Nat
  phase : TaskPhase
  wait : TaskWait
  /-- index of the descriptor it stands at, and the next pass or row of that descriptor (R150) -/
  desc : Nat
  pass : Nat
  /-- words that the QPUSH it stands at has pushed (R291) -/
  pushed : Nat
  /-- STREAM descriptors beyond the one it stands at that the stream engine has started (R179) -/
  started : List Nat
  /-- task variance counter (R327) -/
  variance : Nat
  deriving DecidableEq, Repr

/-- A launch that runs (R286, R287). -/
structure Launch where
  id : Nat
  queue : Nat
  entry : BitVec 512
  graph : Nat
  version : Nat
  constAt : Option Nat
  /-- tasks not yet ended -/
  live : Nat
  /-- the first task to abort: logical core, cause, descriptor index -/
  abort : Option (Nat × Nat × Nat)
  stalled : Bool
  drained : Bool
  enqDropped : Nat
  incompleteMb : Bool
  deriving DecidableEq, Repr

/-- A completion that awaits its record's write or its verification (R296, R299). -/
structure Completion where
  queue : Nat
  entry : BitVec 512
  status : Nat
  flags : Nat
  step : Nat
  graph : Nat
  version : Nat
  detail : Nat
  desc : Nat
  deriving DecidableEq, Repr

/-- The front end (R277 to R301). -/
structure Front where
  graphs : List (Nat × GraphX)
  launches : List Launch
  tasks : List Task
  /-- ENTRY tasks that wait for a place in their core's ready list: launch, task index (R286) -/
  undispatched : List (Nat × Nat)
  /-- enqueued tasks not yet dispatched: launch, task index, whether the ENQUEUE came after item 1 of R23 (R290) -/
  enqueued : List (Nat × Nat × Bool)
  /-- ring entries fetched and not yet accepted, in ring order, at most 8 of a queue (R278) -/
  fetched : List (Nat × List (BitVec 512))
  done : List Completion
  /-- records written and awaiting their read-back, at most one of a queue, with the TICKS written (R299) -/
  verifying : List (Completion × BitVec 64)
  /-- queues whose completion ring has wrapped an odd number of times, so that PHASE is 0 (R296) -/
  wrapped : List Nat
  /-- the armed STEP_END: its queue and entry -/
  armed : Option (Nat × BitVec 512)
  nextId : Nat
  /-- the graph and version whose round list this step runs (R280) -/
  rounds : Option (Nat × Nat)
  /-- item 4 of R23 has freed a slot that was not DONE, so that the record of STEP_END will carry INCOMPLETE_MB (R69) -/
  lostMb : Bool
  /-- bytes of the graph store, the LPDDR5X region that the Setting declares (R282); set as the dies are presented -/
  graphStore : Nat
  deriving DecidableEq, Repr

/-! ### Clasps (chapter 14) -/

/-- A signal issued and not yet applied at its Clasp's home (R302). -/
structure Signal where
  clasp : Nat
  amount : Nat
  neg : Bool
  source : Nat
  deriving DecidableEq, Repr

/-- A held signal in a core's hold list (R310). -/
structure Hold where
  handle : Nat
  expect : Nat
  gen : Nat
  signal : Signal
  deriving DecidableEq, Repr

/-- A span barrier in this step: its ID, whether it spans the job, the module IDs that have arrived, and the Clasp this module's own
SPAN_ARRIVE named (R313). -/
structure Span where
  id : Nat
  job : Bool
  arrived : List Nat
  clasp : Option Nat
  deriving DecidableEq, Repr

/-- The Clasp unit beside its registers. -/
structure ClaspX where
  /-- signals issued and not yet applied -/
  flying : List Signal
  /-- Chain signals for later steps: step, Clasp, amount, source module (R311) -/
  future : List (Nat × Nat × Nat × Nat)
  spans : List Span
  deriving DecidableEq, Repr

/-! ### The Casket and word queues (chapter 8) -/

/-- A grant of the allocator: its stream, first stripe, length, the arena slot it took, and the agent that holds it. -/
structure Grant where
  stream : Nat
  start : Nat
  count : Nat
  arena : Option Nat
  owner : Owner
  deriving DecidableEq, Repr

/-- An allocation request that waits (R190). -/
structure AllocReq where
  stream : Nat
  count : Nat
  owner : Owner
  deriving DecidableEq, Repr

/-- A word of a word queue with its tag byte (R201). -/
structure QWord where
  data : BitVec 64
  tag : BitVec 8
  deriving DecidableEq, Repr

/-- What a read of a word queue returns (R200, R201): data, END, POISON, NV. -/
structure QRead where
  data : BitVec 64
  last : Bool
  poison : Bool
  nv : Bool
  deriving DecidableEq, Repr

/-- A word queue (R198, R202): its head, the middle as the first of its stripes that holds words and how many do, its tail, and whether a flush waits for its
END word. The middle's words lie in the spill region of the Casket. -/
structure QueueX where
  head : List QWord
  first : Nat
  filled : Nat
  tail : List QWord
  flushing : Bool
  deriving DecidableEq, Repr

/-- The Casket beside its registers. -/
structure CasketX where
  grants : List Grant
  waiting : List AllocReq
  queues : List (Nat × QueueX)
  /-- what the last read of a word queue returned -/
  lastRead : Option QRead
  /-- Casket banks in retention (R344), ascending -/
  retention : List Nat
  /-- coded containers that lie in Casket stripes: the holder of the stripes and the generation (R274) -/
  coded : List (Owner × Nat)
  /-- transit rings: for each direction the Beads held, as first stripe and length, oldest first (R195) -/
  transit0 : List (Nat × Nat)
  transit1 : List (Nat × Nat)
  deriving DecidableEq, Repr

/-! ### The cores (chapters 6 and 7) -/

/-- The states of a core-store bank (R170). -/
inductive BankPhase where
  | on | gatePend | off | waking
  deriving DecidableEq, Repr

/-- One side of a stream transfer (R173): a module address with the GEN that a remote access carries, a byte of the core's own store
counted from its start, or array port A (false) or B (true). -/
inductive Place where
  | module (addr gen : Nat)
  | store (offset : Nat)
  | port (b : Bool)
  deriving DecidableEq, Repr

/-- A running RUN (R172 to R181): its descriptor index, the descriptor, the program's instructions as copied, the elements it moves in all
and those issued so far, the attached signal if there is one, the landing copies its sources have touched (R493), the bytes it has landed and
those that the consumer of HCONS has read (R180). -/
structure RunX where
  desc : Nat
  descriptor : BitVec 256
  program : List (BitVec 128)
  total : Nat
  issued : Nat
  attached : Option Signal
  read : List Nat
  landed : Nat
  eaten : Nat
  deriving DecidableEq, Repr

/-- An outstanding transfer (R177, R178): its RUN's descriptor index, its elements, the bytes and the two places they move between, and how many
of its packets wait at their target, its data having arrived. -/
structure Transfer where
  desc : Nat
  first : Nat
  count : Nat
  len : Nat
  src : Place
  dst : Place
  held : Nat
  deriving DecidableEq, Repr

/-- An OUTPUT chain in progress (R132): the chain's first descriptor and its index, the members so far, the tile's accumulators row by row once
a member has run; under MAY_VARY (R149) the members passed over because their B operand was not ready, with their indices, and the last
member where it ran ahead of one of them. -/
structure ChainHeld where
  first : BitVec 256
  at0 : Nat
  members : Nat
  acc : Option (List Word)
  passed : List (Nat × BitVec 256)
  last : Option (Nat × BitVec 256)
  deriving DecidableEq, Repr

/-- What a physical core holds beside its registers and its store. -/
structure CoreX where
  holds : List Hold
  runs : List RunX
  transfers : List Transfer
  /-- bytes that RUNs have delivered to array ports A and B and the array has not read (R163) -/
  portA : List Byte
  portB : List Byte
  /-- the banks that are not ON (R170), keyed by bank -/
  banks : List (Nat × BankPhase)
  /-- in-flight write counters of the banks (R169): writes accepted and not complete, keyed by bank -/
  writes : List (Nat × Nat)
  /-- what the last remote read that this core's engine sent has returned (R167) -/
  remoteData : Option (List Byte)
  /-- accesses held by a waking bank or by a stub, in arrival order, with the bank, or none for the stub -/
  heldAccess : List (Option Nat × Access)
  /-- accumulators of a held OUTPUT chain tile, as FP32 words (R132) -/
  chain : Option ChainHeld
  /-- the core lends its power (R317) -/
  lending : Bool
  /-- uncorrectable words and parity aborts of this step (R459) -/
  ueStep : Nat
  /-- the spare slot a stubbed slot forwards to (R461) -/
  forwardTo : Option Nat
  deriving DecidableEq, Repr

/-! ### Links (chapter 17) -/

/-- A flit as it lies in a retry or reorder buffer. -/
structure Flit where
  head : BitVec 64
  payload : List Byte
  deriving DecidableEq, Repr

/-- A unit that waits to be sent, or what is left of one that is being sent (R356): its bytes, its STEP, whether the step gate holds it (R361), whether item 3 of
R23 waits for it, and the holder of the stripes that are free once its last byte has left. -/
structure TxUnit where
  data : List Byte
  step : Nat
  gated : Bool
  counts : Bool
  holds : Option Owner
  deriving DecidableEq, Repr

/-- One port's link beside its registers (R354 to R370). -/
structure LinkX where
  /-- next SEQ to send; flits sent and not acknowledged, oldest first -/
  txSeq : Nat
  retry : List Flit
  /-- flits due for resending -/
  resend : List Flit
  /-- next SEQ expected; later flits held; NAKs sent for the expected one; whether a NAK is outstanding -/
  rxSeq : Nat
  heldFlits : List Flit
  naks : Nat
  /-- per class: units ready to send -/
  ready : List (Nat × TxUnit)
  /-- per class: the units that have begun, oldest first, with the bytes not yet sent -/
  sending : List (Nat × List TxUnit)
  /-- per class: bytes of units arrived and not yet whole -/
  partialRx : List (Nat × List Byte)
  /-- credits this end has granted and the neighbour has not yet been told of, per class -/
  creditDue : List (Nat × Nat)
  /-- credits granted to the neighbour and not yet used, per class -/
  creditOut : List (Nat × Nat)
  /-- classes of the last 64 DATA flits sent, and of the last 64 that were not CTRL, newest first (R362) -/
  lastSent : List Nat
  lastPlain : List Nat
  /-- units handed on by the receive side, oldest first: class and bytes -/
  handedOn : List (Nat × List Byte)
  nakDue : Bool
  /-- the class last served in turn under row 4 of R362 -/
  turn : Nat
  /-- what the last lane slot carried: the lane and the flit's 4,112 bytes -/
  out : Option (Nat × List Byte)
  deriving DecidableEq, Repr

/-! ### Power (chapter 16) -/

/-- The power manager beside its registers. -/
structure PowerX where
  /-- throttle actions in a row with P_in at or below the raise threshold (R340) -/
  quiet : Nat
  /-- POWER_OVER recorded in this step -/
  overSeen : Bool
  /-- THERMAL_WARN recorded in this step -/
  warnSeen : Bool
  /-- COOLANT recorded in this lifetime hour -/
  coolSeen : Bool
  /-- the lowest PACE_NOW of the step (R341) -/
  lowest : Nat
  /-- dies with supply, as POWER.TEMP numbers them -/
  dies : List Nat
  /-- error accumulators of the pace regulators and supply of each die in 2.5 mV steps (R337), keyed by die -/
  err : List (Nat × Int)
  supply : List (Nat × Int)
  /-- LPDDR5X ranks in self-refresh, keyed by channel x 2 + rank -/
  selfRefresh : List Nat
  /-- the power-fail sequence has begun (R348) -/
  failing : Bool
  /-- the input powers of the last 100 microseconds, newest first, in units of 0.1 mW (R339) -/
  samples : List Nat
  deriving DecidableEq, Repr

/-! ### The Setting and start-up (chapter 19) -/

/-- An entry of a BEADS section (R398). -/
structure BeadEntry where
  id : Nat
  layer : Nat
  tensor : Nat
  shard : Nat
  gradTensor : Nat
  west : Bool
  fmtEntry : Nat
  managed : Bool
  elems : Nat
  fixedFmt : Nat
  deriving DecidableEq, Repr

/-- A flash operation on a slot that is in progress (R403, R421). -/
inductive FlashOp where
  | erase (firmware : Bool) (slot : Nat)
  | program (firmware : Bool) (slot : Nat) (piece : Nat) (data : List Byte)
  | commit (firmware : Bool) (slot : Nat)
  deriving DecidableEq, Repr

/-- What the Locket holds of the loaded Setting beside the registers it wrote (R400 to R415). -/
structure SetupX where
  /-- the image as loaded; empty before SETTING -/
  image : List Byte
  seed : BitVec 64
  stream : BitVec 16
  /-- this module's home Beads, in shard order -/
  beads : List BeadEntry
  /-- the BEADS sections of every member of the arc, by position (R401) -/
  arcBeads : List (Nat × List BeadEntry)
  /-- the port enables held back until READY (R397): west, east, up, down -/
  heldEn : List Bool
  narrowOk : Bool
  /-- pending amendments, oldest first (R412) -/
  amendments : List (List Byte)
  /-- pages of the amendment log in use (R413) -/
  logPages : Nat
  op : Option FlashOp
  /-- milliseconds the states of this start have taken -/
  elapsed : Nat
  deriving DecidableEq, Repr

/-! ### The Locket (chapter 20) -/

/-- An enrolled owner key (R424): its modulus and its enrolment sequence number. -/
structure OwnerKey where
  modulus : Nat
  seq : Nat
  deriving DecidableEq, Repr

/-- An entry of the disabled-unit map (R456): a physical core, or one bad column of it. -/
structure BadUnit where
  core : Nat
  column : Option Nat
  deriving DecidableEq, Repr

/-- An SPDM connection of one transport (R427): how far it is negotiated, and the transcripts that CHALLENGE and GET_MEASUREMENTS
sign. -/
structure SpdmConn where
  phase : Nat
  vca : List Byte
  digests : List Byte
  measurements : List Byte
  deriving DecidableEq, Repr

/-- The Locket beside its registers. -/
structure LocketX where
  key0 : Option (List Byte)
  key1 : Option (List Byte)
  /-- the key slot in use for encryption (R430), while KEY_CFG shows what was last written -/
  encSlot : Nat
  encPending : Option Nat
  clearPending : List Nat
  /-- the 8 owner slots (R424) -/
  owners : List (Option OwnerKey)
  oseq : Nat
  switchPending : Bool
  /-- next firmware piece expected (R421), none before the first -/
  fwPiece : Option Nat
  soft : List BadUnit
  fused : List BadUnit
  /-- core stores with a bank beyond repair (R456) -/
  badStores : List Nat
  doeConn : SpdmConn
  i3cConn : SpdmConn
  /-- the dynamic address of the I3C port (R476) -/
  i3cAddr : Option Nat
  /-- the firmware slot that the boot-control record prefers (R418) -/
  preferred : Nat
  /-- what the fuses and the identity circuit hold for the part's life: the serial number (R432), the modulus and the private exponent of the identity key
  (R426) -/
  serial : BitVec 64
  idModulus : Nat
  idPrivate : Nat
  deriving DecidableEq, Repr

/-! ### Spares (chapter 22) -/

/-- A migration in progress (R460): logical core, old slot, spare slot, trigger. -/
structure Migration where
  logical : Nat
  old : Nat
  new : Nat
  trigger : Nat
  deriving DecidableEq, Repr

/-! ### The Loupe (chapter 15) -/

/-- The Loupe beside its registers: the record that may still merge (R331), as its index, its type and source, its first address and its bytes; and the
alignment attempts of this start that mismatched (R324). -/
structure LoupeX where
  merge : Option (Nat × Nat × Nat × List Byte)
  alignTries : Nat
  aligned : Bool
  deriving DecidableEq, Repr

/-! ### The Chain (chapter 2) -/

/-- A landing copy (R38, R49, R493): the port it is charged to, the Bead's header and tag, its landing stripes, the stripes of the ciphertext
where that is still held, whether its tag has passed, the RUNs that have read it and those that will. -/
structure Landing where
  port : Nat
  head : List Byte
  tag : List Byte
  stripe : Nat
  cipher : Option Nat
  checked : Bool
  readers : Nat
  need : Nat
  deriving DecidableEq, Repr

/-- What a member has seen of one sequence of Beads (R48): its key, the values expected next or seen last, and those skipped. -/
structure SeqSeen where
  key : List Nat
  next : List Nat
  skipped : List (List Nat)
  deriving DecidableEq, Repr

/-- A Bead that waits for the stripes it is staged in (R188): the allocation streams it still needs, in order, the last of which holds it until it is sent;
the holder, the port it leaves by, its bytes. -/
structure Deferred where
  streams : List Nat
  owner : Owner
  port : Nat
  data : List Byte
  deriving DecidableEq, Repr

/-- The Chain layer beside its registers. -/
structure ChainX where
  /-- positions of the arc that are out: folded away or kept out by a version (R41, R54) -/
  out : List Nat
  /-- a closed arc whose transit was refused runs as a folded line (R52) -/
  refused : Bool
  /-- a step-abort notice has been sent or forwarded for this attempt of the step (R79) -/
  noticeSent : Bool
  /-- the next round of the list to start, and the home Beads of the last started round not yet injected: round, home position, shard
  index (R43) -/
  round : Nat
  waiting : List (Nat × Nat × Nat)
  seen : List SeqSeen
  landings : List Landing
  /-- resend requests sent in this step: ORIGIN, ROUND, SEQ and BEAD_ID (R49) -/
  asked : List (Nat × Nat × Nat × Nat)
  /-- home Beads that failed their own check and whose Cameo copy is awaited: round, home position, shard index (R50) -/
  fetching : List (Nat × Nat × Nat)
  /-- weight Beads whose consumer has waited LATE_TICKS: BEAD_ID and round (R51) -/
  late : List (Nat × Nat)
  /-- resends, Cameo and restore Beads that wait for stripes, oldest first -/
  deferred : List Deferred
  /-- key and value blocks that this module has sent in each round of the step: the next SEQ, keyed by round (R48, R77) -/
  kvNext : List (Nat × Nat)
  deriving DecidableEq, Repr

/-! ### Gradients (chapter 9) -/

/-- A member's contribution to a weight Bead's gradient in a round (R211): the parts named and those come, the runs of elements covered as start and
count, the words by element, the core that issued the last part, and the pieces that left without it (R216). -/
structure Contrib where
  bead : Nat
  round : Nat
  parts : Nat
  got : Nat
  cover : List (Nat × Nat)
  words : List (Nat × Word)
  core : Nat
  late : List Nat
  deriving DecidableEq, Repr

/-- The reducer and the statistics close beside their registers (R206 to R225). -/
structure GradX where
  contribs : List Contrib
  /-- pieces this module has started: weight BEAD_ID, round, piece -/
  started : List (Nat × Nat × Nat)
  /-- pieces added into the accumulators in this step: weight BEAD_ID, piece, the last round added -/
  acc : List (Nat × Nat × Nat)
  /-- the logical core whose GCLOSE waits -/
  closing : Option Nat
  /-- this step's GCLOSE has been issued; its norm record has been sent -/
  closed : Bool
  sent : Bool
  /-- the span's sums of LATE and DROPPED, as the last close combined them (R219) -/
  lateAll : Nat
  droppedAll : Nat
  /-- span 0: the bodies received and this module's own, keyed by module ID -/
  records : List (Nat × List Byte)
  deriving DecidableEq, Repr

/-! ### The pipeline (chapter 3) -/

/-- What a micro-batch slot holds beside its descriptor in PIPE.SLOT (R65 to R72): the kind that fills it, the next chunk expected, whether a
retransfer has been requested for it, the bytes landed, the GSCALE and FORMAT they came with, the pieces of 1 MiB of its stash and of its park range that
are coded, with their generations (every other piece is raw, R267), and the task that resumes it. KIND 0xFF stands for a hand-off or a first virtual stage. -/
structure SlotX where
  kind : Nat
  next : Nat
  asked : Bool
  landed : Nat
  gscale : Nat
  fmt : Nat
  stashGens : List (Nat × Nat)
  parkGens : List (Nat × Nat)
  resumer : Option Nat
  deriving DecidableEq, Repr

/-- A transfer kept until it is acknowledged (R66): its port, MB, VSTAGE, KIND, the chunks as sent, and the first stripe of its output
buffer. Port 4 stands for a hand-off on this module (R72). -/
structure OutX where
  port : Nat
  mb : Nat
  vstage : Nat
  kind : Nat
  chunks : List (List Byte)
  stripe : Nat
  deriving DecidableEq, Repr

/-- The pipeline layer beside its registers. -/
structure PipeX where
  /-- ports whose enable was cleared and that leave service at the next item 10 (R463) -/
  planned : List Nat
  slots : List (Nat × SlotX)
  outbox : List OutX
  /-- the EVAL flag of this step's first SLOT_OPEN (R67, R78) -/
  evalStep : Option Bool
  deriving DecidableEq, Repr

/-! ### Format windows and run health (chapters 5 and 10) -/

/-- A format entry's open statistics window (R109, R113): the counts in R109's order, AMAX as an FP32 word, the 64 histogram bins. -/
structure FmtWin where
  samples : Nat
  ovf : Nat
  unf : Nat
  nf : Nat
  scHi : Nat
  scLo : Nat
  invalid : Nat
  noref : Nat
  amax : Word
  hist : List Nat
  deriving DecidableEq, Repr

/-- The summary of an entry at the statistics close (R114), reduced over the span where SCOPE is 1. -/
structure FmtSum where
  samples : Nat
  badP : Nat
  badC : Nat
  ovfSc : Nat
  nf : Nat
  amax : Word
  deriving DecidableEq, Repr

/-- The format table beside its registers. -/
structure FmtX where
  wins : List (Nat × FmtWin)
  /-- summaries of this step's close, keyed by entry -/
  sums : List (Nat × FmtSum)
  deriving DecidableEq, Repr

/-- An exact accumulator of squares (R229): the sum in units of 2^-1200, and the non-finite values met. -/
structure SqAcc where
  sum : Nat
  nf : Nat
  deriving DecidableEq, Repr

/-- A pair of LOSS sums (R233) in units of 2^-149, and whether a finite pair has come. -/
structure LossAcc where
  loss : Int
  tokens : Int
  any : Bool
  deriving DecidableEq, Repr

/-- Cameos at the sender, at the holder and at a module that is restored (R237 to R245). -/
structure CameoX where
  /-- chunks of parts 0 to 3 sent in this step, the slot named by the last commit record that was no restamp, and whether this step has
  written any of the parts -/
  sent : List (Nat × Nat)
  slot : Option Nat
  wrote : Bool
  /-- chunks landed for the uncommitted slot: part and index; the commit record that awaits its check -/
  got : List (Nat × Nat)
  commit : Option (List Byte)
  /-- the chunk counts of parts 0 to 3 of the committed image, as the last commit record that was no restamp gave them (R240, R244) -/
  counts : List Nat
  /-- chunks of a restore landed: part and index; its state record and its commit record; a rollback's restore has been sent -/
  back : List (Nat × Nat)
  state : Option (List Byte)
  backCommit : Option (List Byte)
  rolled : Bool
  /-- the arc's step, as the last restore Bead carried it -/
  step : Nat
  /-- the Beads of the last state record and commit record sent, by part, for a resend (R49) -/
  kept : List (Nat × List Byte)
  deriving DecidableEq, Repr

/-- Run health beside its registers (R229 to R245). -/
structure HealthX where
  /-- activation slots, keyed by slot -/
  acts : List (Nat × SqAcc)
  /-- slots for which HEALTH_SLOT has been recorded in this step -/
  noted : List Nat
  /-- layer rows, keyed by row x 4 + (0 W, 1 U, 2 G) -/
  rows : List (Nat × SqAcc)
  /-- non-finite counts of the classes of R235, keyed by class, and the classes whose HEALTH_NF has been recorded -/
  classes : List (Nat × Nat)
  classNoted : List Nat
  train : LossAcc
  eval : LossAcc
  /-- e' and n + 1 to commit at item 11 (R234), with x -/
  pending : Option (Word × Word × Word)
  /-- the cast engine wrote working copies in this step (R230) -/
  cast : Bool
  cameo : CameoX
  deriving DecidableEq, Repr

/-! ### Charms (chapter 11) -/

/-- A micro-batch in a slot, as the Charm unit tells slots apart: one slot may hold several micro-batches in a step. -/
structure CharmSlot where
  slot : Nat
  mb : Nat
  vstage : Nat
  deriving DecidableEq, Repr

/-- A slot's contribution to one part of one tensor of a context in this step (R256, R257): its variant, tensor, part and slot, the elements covered, whether
LAST has come. -/
structure CharmAdd where
  variant : Nat
  tensor : Nat
  part : Nat
  slot : CharmSlot
  covered : Nat
  last : Bool
  deriving DecidableEq, Repr

/-- The Charm unit beside its registers and the context table: this step's contributions, the CGACC descriptors held for order with their cores and tasks, the contexts
that a SLOT_OPEN of this step has named, the accumulator ranges of those named with TRAIN (variant, offset, length in 4 KiB units), and the training
slots that this step has closed, with their variants. -/
structure CharmX where
  adds : List CharmAdd
  held : List (Nat × Nat × BitVec 256)
  named : List Nat
  trained : List (Nat × Nat × Nat)
  past : List (Nat × CharmSlot)
  deriving DecidableEq, Repr

/-! ### The stops -/

/-- A stop with a fault. No command of this model ends in one: a command whose event cannot occur leaves the state as it is. -/
inductive Fault where
  /-- Raised by nothing (safe): kept so that the type is not empty. -/
  | unreachable
  deriving DecidableEq, Repr

/-- A refusal. -/
inductive Refusal where
  /-- Raised by an arm of exec whose command has no meaning yet; the string is its mnemonic (safe). -/
  | notModelled (mnemonic : String)
  deriving DecidableEq, Repr

/-! ### The whole -/

/-- The module. -/
structure State where
  /-- the registers, keyed by BAR0 offset; an unlisted register holds its reset word -/
  regs : List (Nat × Word)
  /-- the value in effect of each 64-bit pair the host writes, keyed by the offset of its _LO (R8) -/
  pairs : List (Nat × Pair)
  /-- the shadow a _LO read captured for the next _HI read, keyed by the offset of the _HI (R8) -/
  shadows : List (Nat × Option Word)
  /-- the write-only buffers, keyed by BAR0 offset: IMG_WIN, AMEND_BUF, KEY_BUF -/
  buffers : List (Nat × Word)
  /-- the module address map (R19): LPDDR5X, Casket, core stores at their physical view -/
  mem : List Host.Cell
  /-- poison tags of 4-byte words, keyed by address divided by 4 (R158, R185) -/
  poison : List (Nat × Bool)
  /-- the configuration flash (R393) -/
  flash : List Host.Cell
  /-- the model's own counter of free values -/
  free : Nat
  ev : Ev
  lifeX : Life
  tests : List TestRun
  pcie : Pcie
  /-- what the module has handed to the host, oldest first -/
  hostOut : List HostOut
  front : Front
  clasp : ClaspX
  casket : CasketX
  /-- the physical cores, keyed by physical number -/
  cores : List (Nat × CoreX)
  /-- the links: west, east, up, down, keyed by port -/
  links : List (Nat × LinkX)
  power : PowerX
  setup : SetupX
  locket : LocketX
  migration : Option Migration
  loupe : LoupeX
  chain : ChainX
  grad : GradX
  pipe : PipeX
  fmt : FmtX
  health : HealthX
  charm : CharmX
  /-- commands that wait, first in, first out -/
  pending : List Instr
  deriving DecidableEq, Repr

/-- A physical core after reset: nothing in flight, every bank on. -/
def CoreX.reset : CoreX := ⟨[], [], [], [], [], [], [], none, [], none, false, 0, none⟩

/-- A link after reset. -/
def LinkX.reset : LinkX := ⟨0, [], [], 0, [], 0, [], [], [], [], [], [], [], [], false, 0, none⟩

/-- A word queue after reset: empty. -/
def QueueX.reset : QueueX := ⟨[], 0, 0, [], false⟩

/-- An SPDM connection before GET_VERSION. -/
def SpdmConn.reset : SpdmConn := ⟨0, [], [], []⟩

/-- The identity that the module presents (R376). -/
def PciIdent.reset : PciIdent := ⟨0x1F6B, 0xE020, Config.stepping, 0x1200E2, [.powerManagement, .pciExpress, .msiX],
  [.aer, .secondaryPciExpress, .dataLinkFeature, .physicalLayer16, .physicalLayer32, .physicalLayer64, .laneMargining, .deviceSerialNumber, .doe, .readinessTime,
    .designatedVendor], Config.serial, 900, 0x1F6B, 0x0001⟩

/-- The module at reset: 36 V applied and nothing started (R405, state POWER_WAIT): every register at the value its table gives, no
memory written, no die but the Locket powered. -/
def State.reset : State where
  regs := []
  pairs := []
  shadows := []
  buffers := []
  mem := []
  poison := []
  flash := []
  free := 0
  ev := ⟨[], 0, [], [], [], [], 0, 0, 0, [], 0, none⟩
  lifeX := ⟨0, none, [], 0, 0⟩
  tests := []
  pcie := ⟨PciIdent.reset, false, false, false, false, [], [], []⟩
  hostOut := []
  front := ⟨[], [], [], [], [], [], [], [], [], none, 0, none, false, 0⟩
  clasp := ⟨[], [], []⟩
  casket := ⟨[], [], [], none, [], [], [], []⟩
  cores := []
  links := []
  power := ⟨0, false, false, false, 0xC000, [], [], [], [], false, []⟩
  setup := ⟨[], 0, 0, [], [], [], false, [], 0, none, 0⟩
  locket := ⟨none, none, 0, none, [], List.replicate 8 none, 0, false, none, [], [], [], SpdmConn.reset, SpdmConn.reset, none, 0, Config.serial, Config.identityModulus,
    Config.identityPrivate⟩
  migration := none
  loupe := ⟨none, 0, false⟩
  chain := ⟨[], false, false, 0, [], [], [], [], [], [], [], []⟩
  grad := ⟨[], [], [], none, false, false, 0, 0, []⟩
  pipe := ⟨[], [], [], none⟩
  fmt := ⟨[], []⟩
  health := ⟨[], [], [], [], [], ⟨0, 0, false⟩, ⟨0, 0, false⟩, none, false, ⟨[], none, false, [], none, [], [], none, none, false, 0, []⟩⟩
  charm := ⟨[], [], [], [], []⟩
  pending := []

end Sys2Proof.Machine
end

