-- ==== Sys2Proof/Machine/Ops.lean ====
section
/-! DEFINITION. The named operations over registers, memory, events, interrupts and tasks: each way a command touches the state goes
through one of these. -/

namespace Sys2Proof.Machine

/-- The answer of a meaning. -/
abbrev Res := Host.Outcome State Fault Refusal

/-! ### Registers -/

/-- The word of the register at BAR0 offset x (R485): what was last put there, or its reset word. -/
def State.rd (s : State) (x : Nat) : Word := SMap.get regReset s.regs x

/-- Put a word at BAR0 offset x. -/
def State.wr (s : State) (x : Nat) (v : Word) : State := { s with regs := SMap.set regReset s.regs x v }

/-- The value of a register field. -/
def State.rf (s : State) (f : Fld) : Nat := bits (s.rd f.off).toNat f.lo f.width

/-- Put a value (modulo the field's width) into a register field. -/
def State.wf (s : State) (f : Fld) (v : Nat) : State :=
  s.wr f.off (BitVec.ofNat 32 (insertBits (s.rd f.off).toNat f.lo f.width v))

/-- Whether a one-bit field is set. -/
def State.flag (s : State) (f : Fld) : Bool := s.rf f == 1

/-- Put a Boolean into a one-bit field. -/
def State.wflag (s : State) (f : Fld) (b : Bool) : State := s.wf f (b2n b)

/-- Add to a counter field that saturates at its highest value. -/
def State.bump (s : State) (f : Fld) (n : Nat) : State := s.wf f (satAdd f.width (s.rf f) n)

/-- The 64 bits of a _LO and _HI pair as the registers hold them. -/
def State.rpair (s : State) (lo hi : Fld) : Nat := s.rf lo + 2 ^ 32 * s.rf hi

/-- Put 64 bits into a _LO and _HI pair of registers. -/
def State.wpair (s : State) (lo hi : Fld) (v : Nat) : State := (s.wf lo (v % 2 ^ 32)).wf hi (v / 2 ^ 32)

/-- Zero a run of counters. -/
def State.zero (s : State) (fs : List Fld) : State := fs.foldl (fun a f => a.wf f 0) s

/-! ### Pairs in effect (R8) -/

/-- What an unlisted pair has in effect: nothing has completed it since its last reset. -/
def pairReset : Nat → Pair := fun _ => 0

/-- The value in effect of the pair whose _LO lies at offset x. -/
def State.pairNow (s : State) (x : Nat) : Nat := (SMap.get pairReset s.pairs x).toNat

/-- Make a pair take effect. -/
def State.setPair (s : State) (x : Nat) (v : Pair) : State := { s with pairs := SMap.set pairReset s.pairs x v }

/-! ### Memory -/

/-- What a byte of memory that nothing has written reads as. DESIGN CHOICE 1. -/
def memReset : Nat → Byte := fun _ => 0

/-- The byte at a module address. -/
def State.rb (s : State) (a : Nat) : Byte := SMap.get memReset s.mem a

/-- Write one byte. -/
def State.wb (s : State) (a : Nat) (v : Byte) : State := { s with mem := SMap.set memReset s.mem a v }

/-- n bytes from a module address up. -/
def State.rbs (s : State) (a n : Nat) : List Byte := (List.range n).map (fun i => s.rb (a + i))

/-- Write bytes from a module address up. -/
def State.wbs (s : State) (a : Nat) (l : List Byte) : State := { s with mem := SMap.setMany memReset s.mem a l }

/-- The little-endian number of k bytes at an address (R7). -/
def State.rle (s : State) (a k : Nat) : Nat := leNat (s.rbs a k)

/-- Whether memory is in its canonical form. -/
def Memory.wf (m : List Host.Cell) : Bool := SMap.wf memReset m

/-- Whether any of the 4-byte words that n bytes at a touch carries a poison tag (R158, R185). -/
def State.poisonedAt (s : State) (a n : Nat) : Bool :=
  s.poison.any (fun e => decide (a / 4 ≤ e.1) && decide (e.1 * 4 < a + n) && e.2)

/-- Set or clear the poison tag of the 4-byte word that holds address a. -/
def State.setPoison (s : State) (a : Nat) (b : Bool) : State :=
  { s with poison := SMap.set (fun _ => false) s.poison (a / 4) b }

/-- Write bytes that no error touches: the whole words written lose their poison tags. -/
def State.store (s : State) (a : Nat) (l : List Byte) : State :=
  let p := s.poison.filter (fun e => !(decide (a ≤ e.1 * 4) && decide (e.1 * 4 + 4 ≤ a + l.length)))
  { s.wbs a l with poison := p }

/-- What an erased byte of flash reads as. -/
def flashErased : Nat → Byte := fun _ => 0xFF

/-- n bytes of flash. -/
def State.rflash (s : State) (a n : Nat) : List Byte := (List.range n).map (fun i => SMap.get flashErased s.flash (a + i))

/-- Program bytes into flash. -/
def State.wflash (s : State) (a : Nat) (l : List Byte) : State := { s with flash := SMap.setMany flashErased s.flash a l }

/-- Erase n bytes of flash. -/
def State.eraseFlash (s : State) (a n : Nat) : State := { s with flash := SMap.dropRange s.flash a (a + n) }

/-! ### Free values -/

/-- Take a fresh free value of w bits: the value the machine shows where the spec states none. -/
def State.freeWord (s : State) (w : Nat) : BitVec w × State :=
  (Config.freeBits w s.free, { s with free := s.free + 1 })

/-- Take a fresh free number below m. -/
def State.freeBelow (s : State) (m : Nat) : Nat × State :=
  (if m = 0 then 0 else Config.freeBelow m s.free % m, { s with free := s.free + 1 })

/-- Bytes of free value. -/
def freeBytes (seed : Nat) : Nat → List Byte
  | 0 => []
  | k + 1 => Config.freeByte seed k :: freeBytes seed k

/-- Take n fresh free bytes. -/
def State.freeBytes (s : State) (n : Nat) : List Byte × State :=
  (Sys2Proof.Machine.freeBytes s.free n, { s with free := s.free + 1 })

/-! ### Interrupts (R388) -/

/-- Hand something to the host. -/
def State.toHost (s : State) (o : HostOut) : State := { s with hostOut := s.hostOut ++ [o] }

/-- Whether the DMA gate is closed (R384, R390). -/
def State.gated (s : State) : Bool :=
  !s.pcie.busMaster || !s.flag F.HOSTIF_CTRL_DMA_EN || !s.flag F.HOSTIF_STATUS_NEGOTIATED || s.pcie.d3hot

/-- STATUS.DMA_GATED shows the gate (R384). -/
def State.showGate (s : State) : State := s.wflag F.HOSTIF_STATUS_DMA_GATED s.gated

/-- The pending bit of an MSI-X vector. -/
def pbaField (v : Nat) : Fld := ⟨(F.HOSTIF_MSIX_PBA_PENDING (v / 32)).off, v % 32, 1⟩

/-- The message of an MSI-X vector goes to the host. -/
def State.msixSend (s : State) (v : Nat) : State :=
  s.toHost (.msix (s.rf (F.HOSTIF_MSIX_ADDR_LO_ADDR v) * 4 + 2 ^ 32 * s.rf (F.HOSTIF_MSIX_ADDR_HI_ADDR v))
    (BitVec.ofNat 32 (s.rf (F.HOSTIF_MSIX_DATA_DATA v))))

/-- Send an MSI-X vector: a masked one, one under Function Mask, and one behind a closed gate set their pending bit (R384, R388). -/
def State.msix (s : State) (v : Nat) : State :=
  if s.gated || s.pcie.funcMask || s.flag (F.HOSTIF_MSIX_CTRL_MASK v) then s.wf (pbaField v) 1 else s.msixSend v

/-- Send a vector's message if it is pending and may go. -/
def State.msixRelease (s : State) (v : Nat) : State :=
  if s.flag (pbaField v) && !(s.gated || s.pcie.funcMask || s.flag (F.HOSTIF_MSIX_CTRL_MASK v)) then
    (s.wf (pbaField v) 0).msixSend v
  else s

/-- Send every pending message that may go. -/
def State.msixReleaseAll (s : State) : State := (List.range 64).foldl State.msixRelease s

/-- Set a W1C error bit; unless its mask bit is set, send EVENT_VEC (R388). ERR_MASK lies 4 bytes above ERR in every block. -/
def State.raise (s : State) (f : Fld) : State :=
  let s := s.wf f 1
  if s.flag ⟨f.off + 4, f.lo, 1⟩ then s else s.msix (s.rf F.HOSTIF_EVENT_VEC_VEC)

/-! ### Event records (R434 to R441) -/

/-- The lifetime image word at a byte offset of the image (R448). -/
def lifeFld (o : Nat) : Fld := ⟨0x01490000 + o, 0, 32⟩

/-- Count in the lifetime image: every word saturates (R448). -/
def State.life (s : State) (o n : Nat) : State := s.bump (lifeFld o) n

/-- Count in a 64-bit pair of the lifetime image. -/
def State.lifePair (s : State) (o n : Nat) : State :=
  let v := satAdd 64 (s.rpair (lifeFld o) (lifeFld (o + 4))) n
  s.wpair (lifeFld o) (lifeFld (o + 4)) v

/-- Rack-reference edges in one lifetime hour (R434). -/
def hourEdges : Nat := 562500000000

/-- Edges since the current lifetime hour began: the whole seconds, and a free number of edges within the second. -/
def State.edges (s : State) : Nat := s.ev.second * 156250000 + Config.subSecondEdges s.free % 156250000

/-- The TIME field of a record (R434). -/
def State.timeField (s : State) : Pair := BitVec.ofNat 64 (s.edges + 2 ^ 40 * (s.rf F.LIFE_HOURS_HOURS % 2 ^ 24))

/-- Lifetime edges, over all hours. -/
def State.clock (s : State) : Nat := s.rf F.LIFE_HOURS_HOURS * hourEdges + s.edges

/-- Codes that their chapters call rate-limited (R440): CHAIN_WRONG_ARC and CHAIN_LATE (R48, R51), FMT_INVALID and FMT_SCALE_NAN
(R122), CSTORE_CE (R158), CASKET_CE (R185), Q_OVERRUN (R200), GRAD_LATE and GRAD_CARRY_FULL (R228), CHARM_BUSY_WR (R263),
CODEC_DECODE (R276), FRONT_STALL and FRONT_CSTALL (R301), CLASP_FLAG and CLASP_HOLD_DROP (R319), VAR_TASK (R335), PACE_CHANGE
(R350), SWIEC_RETRY and SWIEC_MSG_DROP (R373), HOST_UNMAPPED and HOST_DMA_RD (R392), SPARE_FWD and LPDDR_UE (R468). -/
def rateLimited : List Nat := [
  0x0107, 0x010D, 0x0307, 0x0308, 0x0500, 0x0600, 0x0604, 0x0700, 0x0701, 0x0902, 0x0A00, 0x0B03, 0x0B05, 0x0C00, 0x0C02,
  0x0D00, 0x0E00, 0x0F05, 0x0F07, 0x1000, 0x1001, 0x1305, 0x1306]

/-- The most tokens a code's bucket holds (R440). -/
def bucketCap (code : Nat) : Nat := if rateLimited.contains code then 16 else 1024

/-- A code of the privileged set (R437). -/
def privileged (code : Nat) : Bool := decide (0xF000 ≤ code)

/-- Codes whose records start a flush beside the privileged ones (R438): STEP_ABORT, CORE_ABORT, STARTUP_FAIL, BIST_FAIL. -/
def flushCodes : List Nat := [0x000C, 0x0400, 0x1105, 0x0009]

/-- Start a flush, or extend the one that runs to the newest record (R438). -/
def State.startFlush (s : State) : State :=
  let s := { s with ev := { s.ev with flushN := s.ev.buf.length } }
  s.wflag F.EVENT_STATUS_FLUSHING true

/-- Count a record discarded (R439). -/
def State.evLost (s : State) : State :=
  let s := { s with ev := { s.ev with lost := s.ev.lost + 1 } }
  (s.bump F.EVENT_LOST_COUNT 1).raise F.EVENT_ERR_LOST

/-- Append a record to the volatile buffer under the next SEQ (R434, R438). -/
def State.evAppend (s : State) (code src p0 p1 p2 p3 : Nat) : State :=
  let q := s.rf F.EVENT_SEQ_SEQ
  let r : EvRec := ⟨BitVec.ofNat 16 code, BitVec.ofNat 16 src, BitVec.ofNat 32 q, s.timeField,
    BitVec.ofNat 32 p0, BitVec.ofNat 32 p1, BitVec.ofNat 32 p2, BitVec.ofNat 32 p3⟩
  let s := { s with free := s.free + 1, ev := { s.ev with buf := s.ev.buf ++ [r]
                                                          lastSeq := SMap.set (fun _ => none) s.ev.lastSeq code (some r.seq) } }
  let s := (s.wf F.EVENT_SEQ_SEQ (q + 1)).wf F.EVENT_STATUS_UNFLUSHED s.ev.buf.length
  let s := s.life 0x5440 1
  if privileged code || flushCodes.contains code || decide (256 ≤ s.ev.buf.length) then s.startFlush else s

/-- How many places of the buffer hold non-privileged records. -/
def Ev.plain (e : Ev) : Nat := (e.buf.filter (fun r => !privileged r.code.toNat)).length

/-- Place a non-privileged record, or lose it (R439). -/
def State.evPlace (s : State) (code src p0 p1 p2 p3 : Nat) : State :=
  if decide (960 ≤ s.ev.plain) || decide (1024 ≤ s.ev.buf.length) then s.evLost
  else s.evAppend code src p0 p1 p2 p3

/-- Drop the oldest non-privileged record of a list. -/
def dropOldestPlain : List EvRec → List EvRec
  | [] => []
  | r :: rs => if privileged r.code.toNat then r :: dropOldestPlain rs else rs

/-- Note the latest occurrence of a privileged record. -/
def notePriv (l : List PrivSeen) (p : PrivSeen) : List PrivSeen :=
  p :: l.filter (fun e => !(e.code == p.code && e.source == p.source))

/-- A repeat folds into its record while that is in the buffer (R441). -/
def State.evFold (s : State) (e : PrivSeen) (now : Nat) : State :=
  let buf := s.ev.buf.map (fun r => if r.seq == e.seq && r.code == e.code then { r with p3 := BitVec.ofNat 32 (e.rep + 1) } else r)
  { s with free := s.free + 1, ev := { s.ev with buf := buf, priv := notePriv s.ev.priv { e with rep := e.rep + 1, latest := now } } }

/-- Note what the Locket keeps of a privileged record that is about to be appended (R441). -/
def State.evNote (s : State) (code src rep now : Nat) : State :=
  { s with ev := { s.ev with priv := notePriv s.ev.priv ⟨BitVec.ofNat 16 code, BitVec.ofNat 16 src, rep, now, BitVec.ofNat 32 (s.rf F.EVENT_SEQ_SEQ)⟩ } }

/-- A full buffer gives up its oldest non-privileged record for a privileged one (R439). -/
def State.evRoom (s : State) : State :=
  if 1024 ≤ s.ev.buf.length then { s with ev := { s.ev with buf := dropOldestPlain s.ev.buf } }.evLost else s

/-- Append a privileged record with its REPEAT, unless the buffer is full of privileged ones (R439). -/
def State.evNewPriv (s : State) (code src p0 p1 p2 rep now : Nat) : State :=
  if 1024 ≤ s.ev.buf.length ∧ s.ev.plain = 0 then s.evLost
  else (s.evRoom.evNote code src rep now).evAppend code src p0 p1 p2 rep

/-- Place a privileged record (R439, R441): the same code and source within 60 s of the latest is a repeat, which folds into its record while that
is in the buffer, and else counts on. -/
def State.evPrivileged (s : State) (code src p0 p1 p2 : Nat) : State :=
  let now := s.clock
  match s.ev.priv.find? (fun e => e.code == BitVec.ofNat 16 code && e.source == BitVec.ofNat 16 src && decide (now < e.latest + 60 * 156250000)) with
  | some e =>
    if s.ev.buf.any (fun r => r.seq == e.seq && r.code == e.code) then s.evFold e now else s.evNewPriv code src p0 p1 p2 (e.rep + 1) now
  | none => s.evNewPriv code src p0 p1 p2 1 now

/-- Record an event (R434 to R441): a privileged code has no bucket, and neither have EVENT_LOST and
EVENT_SUPPRESSED; any other takes a token of its code's bucket, or is suppressed. -/
def State.event (s : State) (code src p0 p1 p2 p3 : Nat) : State :=
  if privileged code then s.evPrivileged code src p0 p1 p2
  else if code = 1 || code = 2 then s.evPlace code src p0 p1 p2 p3
  else
    let level := SMap.get bucketCap s.ev.tokens code
    if level = 0 then
      let n := SMap.get (fun _ => 0) s.ev.suppressed code
      let s := { s with ev := { s.ev with suppressed := SMap.set (fun _ => 0) s.ev.suppressed code (n + 1) } }
      s.bump F.EVENT_SUPPRESSED_COUNT 1
    else
      let s := { s with ev := { s.ev with tokens := SMap.set bucketCap s.ev.tokens code (level - 1) } }
      s.evPlace code src p0 p1 p2 p3

/-- SOURCE of a die as such: 0 H, 1 to 16 C0 to C15, 17 E0, 18 E1, 19 M (R435). -/
def srcDie (d : Nat) : Nat := d

/-- SOURCE of physical core n (R435): unit 1 with its die, cluster and slot. -/
def srcCore (n : Nat) : Nat := (n / 24 + 1) + 32 * (n % 24 / 6) + 128 * (n % 6) + 1024

/-- SOURCE of port l, 0 west, 1 east, 2 up, 3 down, on its edge die (R435): unit 3. -/
def srcPort (l : Nat) : Nat := (if l % 2 = 0 then 17 else 18) + 32 * l + 3072

/-- SOURCE of the host interface: unit 4 on the Locket. -/
def srcHost : Nat := 19 + 4096

/-- SOURCE of the Locket's firmware: unit 5. -/
def srcLocket : Nat := 19 + 5120

/-- SOURCE of the hub. -/
def srcHub : Nat := 0

end Sys2Proof.Machine
end

