-- ==== Sys2Proof/Machine/Codec.lean ====
section
/-! DEFINITION. The lossless codec: the code tables, the block code, the container, and the three host commands (chapter 12). -/

namespace Sys2Proof.Machine

/-! ### Tables (R269, R272, R273) -/

/-- CODEC.SLOT states (R275). -/
def cdEmpty : Nat := 0
def cdLoaded : Nat := 1
def cdCurrent : Nat := 2
def cdOld : Nat := 3

/-- The state of a table slot. -/
def State.cdState (s : State) (k : Nat) : Nat := s.rf (F.CODEC_SLOT_STATE k)

/-- The 269 code lengths of a slot's table (R272). -/
def State.codeLens (s : State) (k : Nat) : List Nat :=
  (List.range 269).map (fun y => bits (s.rf (F.CODEC_TABLE_LEN (y / 8) k)) (4 * (y % 8)) 4)

/-- The first code of each length (R269), from the lengths' counts. -/
def firstCodes (lens : List Nat) : Nat → Nat → Nat → List Nat
  | 0, _, _ => []
  | k + 1, n, c =>
    let below := if n = 1 then 0 else (lens.filter (fun x => x == n - 1)).length
    let c := (c + below) * 2
    c :: firstCodes lens k (n + 1) c

/-- Assign codes in symbol order: symbol, length, code of every symbol that has one (R269). -/
def assignCodes : List Nat → Nat → List Nat → List (Nat × Nat × Nat)
  | [], _, _ => []
  | l :: ls, y, next =>
    if l = 0 then assignCodes ls (y + 1) next
    else (y, l, nth next (l - 1) 0) :: assignCodes ls (y + 1) (setNth next (l - 1) (nth next (l - 1) 0 + 1))

/-- A table's codes. -/
def codesOf (lens : List Nat) : List (Nat × Nat × Nat) := assignCodes lens 0 (firstCodes lens 15 1 0)

/-- Whether a table is accepted (R272): a non-zero length, the sum within 2^15, symbols 269 to 271 at 0, GEN not the other slot's, whatever state that slot
is in. -/
def State.tableGood (s : State) (k : Nat) : Bool :=
  let l := s.codeLens k
  let used := l.filter (fun x => x != 0)
  !used.isEmpty && decide ((used.map (fun n => 2 ^ (15 - n))).sum ≤ 2 ^ 15) &&
    bits (s.rf (F.CODEC_TABLE_LEN 33 k)) 20 12 == 0 &&
    s.rf (F.CODEC_SLOT_GEN k) != s.rf (F.CODEC_SLOT_GEN (1 - k))

/-- An event of the codec whose last parameter the spec does not code: a free value (R276). -/
def State.codecEvent (s : State) (code a b : Nat) : State :=
  let (r, s) := s.freeWord 32
  s.event code srcHub a b r.toNat 0

/-- CODEC_COMMIT (R272, R273). -/
def execCodecCommit (k : Nat) (s : State) : Res :=
  .next (if 2 ≤ k then s
    else if s.cdState k ≠ cdEmpty then s
    else if s.tableGood k then s.wf (F.CODEC_SLOT_STATE k) cdLoaded
    else (s.raise F.CODEC_ERR_TABLE_BAD).codecEvent 0x0A01 k (s.rf (F.CODEC_SLOT_GEN k)))

/-- CODEC_TABLE_WRITE (R273): word 0 to 33 of the table, or 34 for SLOT.GEN. -/
def execCodecTableWrite (k w : Nat) (v : Word) (s : State) : Res :=
  .next (if 2 ≤ k ∨ 34 < w then s
    else if s.cdState k ≠ cdEmpty then (s.raise F.CODEC_ERR_LOAD_REFUSED).codecEvent 0x0A01 k (s.rf (F.CODEC_SLOT_GEN k))
    else if w = 34 then s.wf (F.CODEC_SLOT_GEN k) (v.toNat % 65536)
    else s.wf (F.CODEC_TABLE_LEN w k) v.toNat)

/-- CODEC_SWITCH_SET (R273). -/
def execCodecSwitchSet (s : State) : Res :=
  .next (if s.cdState 0 = cdLoaded ∨ s.cdState 1 = cdLoaded then s.wf F.CODEC_CTRL_SWITCH 1 else s.raise F.CODEC_ERR_SWITCH_NONE)

/-- Item 11 of R23 with SWITCH set (R273): the LOADED slot becomes CURRENT and a CURRENT one OLD. -/
def State.codecSwitch (s : State) : State :=
  if !s.flag F.CODEC_CTRL_SWITCH then s
  else
    match (List.range 2).find? (fun k => s.cdState k == cdLoaded) with
    | none => s.wf F.CODEC_CTRL_SWITCH 0
    | some k =>
      let old := if s.cdState (1 - k) = cdCurrent then s.rf (F.CODEC_SLOT_GEN (1 - k)) else 0
      let s := if s.cdState (1 - k) = cdCurrent then s.wf (F.CODEC_SLOT_STATE (1 - k)) cdOld else s
      ((s.wf (F.CODEC_SLOT_STATE k) cdCurrent).wf F.CODEC_CTRL_SWITCH 0).event 0x0A02 srcHub (s.rf (F.CODEC_SLOT_GEN k)) old
        (s.rf F.CHAIN_STEP_STEP) 0

/-- Item 6 of R23 (R273): an OLD table that nothing names is dropped. -/
def State.codecRetire (s : State) : State :=
  (List.range 2).foldl (fun (s : State) k =>
    if s.cdState k = cdOld ∧ s.rf (F.CODEC_REFS_COUNT k) = 0 then s.wf (F.CODEC_SLOT_STATE k) cdEmpty else s) s

/-! ### The block code (R268) -/

/-- How many zero bytes lead a list. -/
def zeroRun : List Byte → Nat
  | [] => 0
  | b :: bs => if b = 0 then zeroRun bs + 1 else 0

/-- n bits of x, least significant first. -/
def bitsLsb (x n : Nat) : List Bool := (List.range n).map (fun i => bit x i)

/-- n bits of x, most significant first. -/
def bitsMsb (x n : Nat) : List Bool := (bitsLsb x n).reverse

/-- The bits of a block's symbols; none where a symbol has no code. -/
def blockBits (codes : List (Nat × Nat × Nat)) : Nat → List Byte → Option (List Bool)
  | 0, _ => some []
  | _, [] => some []
  | k + 1, b :: bs =>
    let r := zeroRun (b :: bs)
    let c := Nat.log2 r
    let sym := if b = 0 then 256 + c else b.toNat
    let extra := if b = 0 then bitsLsb (r - 2 ^ c) c else []
    match codes.find? (fun e => e.1 == sym) with
    | none => none
    | some (_, n, code) =>
      (blockBits codes k (if b = 0 then (b :: bs).drop r else bs)).map (fun rest => bitsMsb code n ++ extra ++ rest)

/-- Bits into bytes, each byte from bit 0 upward. -/
def packBits : Nat → List Bool → List Byte
  | 0, _ => []
  | _, [] => []
  | k + 1, l => BitVec.ofNat 8 ((l.take 8).foldr (fun b a => b2n b + 2 * a) 0) :: packBits k (l.drop 8)

/-- Encode one block: its bytes, and whether it is raw (R268). -/
def encodeBlock (codes : List (Nat × Nat × Nat)) (x : List Byte) : List Byte × Bool :=
  match blockBits codes x.length x with
  | none => (x, true)
  | some bs =>
    let out := packBits (bs.length / 8 + 1) bs
    if x.length ≤ out.length then (x, true) else (out, false)

/-! ### The container (R266, R267) -/

/-- Cut a list into pieces of n bytes. -/
def pieces (n : Nat) : Nat → List Byte → List (List Byte)
  | 0, _ => []
  | _, [] => []
  | k + 1, l => l.take n :: pieces n k (l.drop n)

/-- Pad to a multiple of 512 bytes with zeros. -/
def pad512 (l : List Byte) : List Byte := l ++ List.replicate (roundUp l.length 512 - l.length) 0#8

/-- The END words of the index. -/
def indexWords : List (List Byte × Bool) → Nat → List Byte
  | [], _ => []
  | (b, raw) :: rest, at0 => natLe (at0 + b.length + 2 ^ 31 * b2n raw) 4 ++ indexWords rest (at0 + b.length)

/-- A container of the raw bytes under a table. -/
def container (gen : Nat) (lens : List Nat) (raw : List Byte) : List Byte × List (List Byte × Bool) :=
  let blocks := (pieces 4096 256 raw).map (encodeBlock (codesOf lens))
  let data := (blocks.map (·.1)).flatten
  let len := 0x10 + 4 * blocks.length + data.length
  (natLe 0x0100 2 ++ natLe gen 2 ++ natLe raw.length 4 ++ natLe len 4 ++ natLe (crc32c raw) 4 ++ indexWords blocks 0 ++ data, blocks)

/-- Code a payload with the CURRENT table (R264, R267): none where there is no such table, or where the container would not be shorter than the raw payload; a
container is padded as a payload is (R266). KiB counts round up: DESIGN CHOICE. -/
def State.encode (s : State) (raw : List Byte) : Option (List Byte) × State :=
  match (List.range 2).find? (fun k => s.cdState k == cdCurrent) with
  | none => (none, s)
  | some k =>
    let (c, blocks) := container (s.rf (F.CODEC_SLOT_GEN k)) (s.codeLens k) raw
    let out := pad512 c
    let nraw := (blocks.filter (·.2)).length
    let s := (s.bump (F.CODEC_CNT_COUNT 2) (blocks.length - nraw)).bump (F.CODEC_CNT_COUNT 3) nraw
    let s := (s.bump (F.CODEC_CNT_COUNT 4) (ceilDiv raw.length 1024)).bump (F.CODEC_CNT_COUNT 5) (ceilDiv out.length 1024)
    if raw.length ≤ c.length then (none, s.bump (F.CODEC_CNT_COUNT 1) 1)
    else (some out, s.bump (F.CODEC_CNT_COUNT 0) 1)

/-! ### Decoding (R270) -/

/-- Read one code: its symbol and the bits after it. -/
def readCode (codes : List (Nat × Nat × Nat)) : Nat → Nat → Nat → List Bool → Option (Nat × List Bool)
  | 0, _, _, _ => none
  | _, _, _, [] => none
  | k + 1, n, c, b :: bs =>
    let c := 2 * c + b2n b
    match codes.find? (fun e => e.2.1 == n + 1 && e.2.2 == c) with
    | some e => some (e.1, bs)
    | none => readCode codes k (n + 1) c bs

/-- Decode n raw bytes of a coded block. -/
def decodeBits (codes : List (Nat × Nat × Nat)) : Nat → Nat → List Bool → Option (List Byte × List Bool)
  | 0, n, bs => if n = 0 then some ([], bs) else none
  | k + 1, n, bs =>
    if n = 0 then some ([], bs)
    else match readCode codes 15 0 0 bs with
      | none => none
      | some (sym, bs) =>
        if sym < 256 then (decodeBits codes k (n - 1) bs).map (fun r => (BitVec.ofNat 8 sym :: r.1, r.2))
        else
          let c := sym - 256
          if bs.length < c then none
          else
            let run := 2 ^ c + (bs.take c).foldr (fun b a => b2n b + 2 * a) 0
            if n < run then none
            else (decodeBits codes k (n - run) (bs.drop c)).map (fun r => (List.replicate run 0#8 ++ r.1, r.2))

/-- Decode one block of n raw bytes: the bits left must be zero and fewer than 8. -/
def decodeBlock (codes : List (Nat × Nat × Nat)) (raw : Bool) (n : Nat) (b : List Byte) : Option (List Byte) :=
  if raw then (if b.length = n then some b else none)
  else match decodeBits codes n n ((b.map (fun x => bitsLsb x.toNat 8)).flatten) with
    | some (out, left) => if left.length < 8 ∧ left.all (fun x => !x) then some out else none
    | none => none

/-- Decode the blocks of a container from block number i and data offset at0 on. -/
def decodeBlocks (codes : List (Nat × Nat × Nat)) (c : List Byte) (nb rawLen : Nat) : Nat → Nat → Nat → Except Nat (List Byte)
  | 0, _, _ => .ok []
  | k + 1, i, at0 =>
    let e := leAt c (0x10 + 4 * i) 4
    let fin := e % 2 ^ 24
    let n := min 4096 (rawLen - 4096 * i)
    if bits e 24 7 ≠ 0 ∨ fin ≤ at0 ∨ leAt c 8 4 < 0x10 + 4 * nb + fin then .error i
    else match decodeBlock codes (bit e 31) n ((c.drop (0x10 + 4 * nb + at0)).take (fin - at0)) with
      | none => .error i
      | some out => (decodeBlocks codes c nb rawLen k (i + 1) fin).map (fun rest => out ++ rest)

/-- The table slot that holds a generation in state LOADED, CURRENT or OLD. -/
def State.genSlot (s : State) (gen : Nat) : Option Nat :=
  (List.range 2).find? (fun k => s.cdState k != cdEmpty && s.rf (F.CODEC_SLOT_GEN k) == gen)

/-- Decode a container: the raw bytes, or whether its generation is unknown and the block at fault. -/
def State.decodeContainer (s : State) (c : List Byte) : Except (Bool × Nat) (List Byte) :=
  let rawLen := leAt c 4 4
  let nb := ceilDiv rawLen 4096
  if leAt c 0 2 ≠ 0x0100 then .error (false, 0)
  else match s.genSlot (leAt c 2 2) with
    | none => .error (true, 0)
    | some k =>
      let last := leAt c (0x10 + 4 * (nb - 1)) 4 % 2 ^ 24
      if rawLen = 0 ∨ 1048576 < rawLen ∨ leAt c 8 4 ≠ 0x10 + 4 * nb + last ∨ c.length < leAt c 8 4 then .error (false, 0)
      else match decodeBlocks (codesOf (s.codeLens k)) c nb rawLen nb 0 0 with
        | .error i => .error (false, i)
        | .ok raw => if crc32c raw = leAt c 0xC 4 then .ok raw else .error (false, nb)

/-- Decode what arrived coded (R270): a container that fails is counted, flagged and recorded with its traffic kind. -/
def State.decode (s : State) (kind : Nat) (c : List Byte) : Option (List Byte) × State :=
  match s.decodeContainer c with
  | .ok raw => (some raw, s.bump (F.CODEC_CNT_COUNT 6) 1)
  | .error (unknown, block) =>
    let s := (s.bump (F.CODEC_CNT_COUNT 7) 1).raise (if unknown then F.CODEC_ERR_GEN_UNKNOWN else F.CODEC_ERR_DECODE)
    let (r, s) := s.freeWord 32
    (none, s.event 0x0A00 srcHub kind (leAt c 2 2) block r.toNat)

/-- A container comes to be held, or is let go (R274). -/
def State.holdGen (s : State) (gen : Nat) (up : Bool) : State :=
  match s.genSlot gen with
  | none => s
  | some k => s.wf (F.CODEC_REFS_COUNT k) (if up then s.rf (F.CODEC_REFS_COUNT k) + 1 else s.rf (F.CODEC_REFS_COUNT k) - 1)

/-! ### Stash reads (R74, R264, R266) -/

/-- w bits from bit b of byte o of slot k's descriptor (R68). -/
def slotFld (k o b w : Nat) : Fld := ⟨(F.PIPE_SLOT_WORD (8 * k + o / 4)).off, 8 * (o % 4) + b, w⟩

/-- The LPDDR5X address of a slot's stash range. -/
def State.stashAddr (s : State) (k : Nat) : Nat := s.rf F.PIPE_STASH_BASE_GIB * 2 ^ 30 + s.rf (slotFld k 0x14 0 32) * 4096

/-- The coded piece of a slot's stash that an address lies in: where the piece begins. -/
def State.stashPiece (s : State) (a : Nat) : Option Nat :=
  s.pipe.slots.findSome? (fun e => e.2.stashGens.findSome? (fun g =>
    let base := s.stashAddr e.1 + g.1 * 1048576
    if base ≤ a ∧ a < base + 1048576 then some base else none))

/-- What a stream engine reads of LPDDR5X (R74) within 4 KiB, which no piece divides: of a coded piece of a stash the hub gives the raw bytes; none where the
container fails to decode. -/
def State.stashPart (s : State) (a n : Nat) : Option (List Byte) :=
  match s.stashPiece a with
  | none => some (s.rbs a n)
  | some base =>
    match s.decodeContainer (s.rbs base 1048576) with
    | .ok raw => some (((raw ++ List.replicate (a + n - base - raw.length) 0#8).drop (a - base)).take n)
    | .error _ => none

/-- What a stream engine's transfer, 4 KiB at most (R177), reads of LPDDR5X. -/
def State.stashRead (s : State) (a n : Nat) : Option (List Byte) :=
  let k := min n (4096 - a % 4096)
  match s.stashPart a k with
  | none => none
  | some l => if n ≤ k then some l else (s.stashPart (a + k) (n - k)).map (fun r => l ++ r)

/-- Account for a read of a coded piece (R270, R275): the container's first bytes count it as decoded, a failure as one. The traffic kind 0xFF stands for stash and
park: the spec codes none. -/
def State.countStash (s : State) (a : Nat) : State :=
  match s.stashPiece a with
  | none => s
  | some base =>
    let c := s.rbs base 1048576
    match s.decodeContainer c with
    | .ok _ => if a = base then s.bump (F.CODEC_CNT_COUNT 6) 1 else s
    | .error _ => (s.decode 0xFF c).2

end Sys2Proof.Machine
end

