-- ==== Sys2Proof/Machine/Alloc.lean ====
section
/-! DEFINITION. The Casket allocator (R188 to R194). -/

namespace Sys2Proof.Machine

/-- The module address of Casket stripe k (R184). -/
def stripeAddr (k : Nat) : Nat := 0x020000000000 + k * 512

/-- Sum of the floors of the streams below i. -/
def State.floorsBelow (s : State) (i : Nat) : Nat :=
  ((List.range i).map (fun j => s.rf (F.CASKET_FLOOR_STRIPES j))).sum

/-- First stripe of stream i's arena: arenas lie in stream order at the start of the pool (R189). -/
def State.arenaBase (s : State) (i : Nat) : Nat := s.rf F.CASKET_POOL_BASE_STRIPE + s.floorsBelow i

/-- First stripe of the shared part, and the first past it. -/
def State.sharedBase (s : State) : Nat := s.arenaBase 32
def State.sharedEnd (s : State) : Nat := s.rf F.CASKET_POOL_BASE_STRIPE + s.rf F.CASKET_POOL_SIZE_STRIPES

/-- The grants that lie in the shared part. -/
def State.sharedGrants (s : State) : List Grant := s.casket.grants.filter (fun g => g.arena.isNone)

/-- Whether n stripes from r lie free in the shared part. -/
def State.runFree (s : State) (r n : Nat) : Bool :=
  decide (s.sharedBase ≤ r) && decide (r + n ≤ s.sharedEnd) &&
    s.sharedGrants.all (fun g => decide (r + n ≤ g.start) || decide (g.start + g.count ≤ r))

/-- The lowest start of a run of n free stripes in the shared part: it is the part's base or the end of a grant (R190). -/
def State.lowestRun (s : State) (n : Nat) : Option Nat :=
  ((s.sharedBase :: s.sharedGrants.map (fun g => g.start + g.count)).filter (fun r => s.runFree r n)).min?

/-- The lowest-numbered free slot of stream i's arena (R190). -/
def State.freeArenaSlot (s : State) (i : Nat) : Option Nat :=
  (List.range (s.rf (F.CASKET_FLOOR_STRIPES i) / s.rf (F.CASKET_SLOT_STRIPES i))).find?
    (fun k => !s.casket.grants.any (fun g => g.stream == i && g.arena == some k))

/-- Show the free stripes of the shared part in SHARED_FREE and its low mark (R205). -/
def State.showShared (s : State) : State :=
  let f := s.sharedEnd - s.sharedBase - (s.sharedGrants.map (·.count)).sum
  (s.wf F.CASKET_SHARED_FREE_STRIPES f).wf F.CASKET_SHARED_MIN_STRIPES (min f (s.rf F.CASKET_SHARED_MIN_STRIPES))

/-- What the allocator answers. -/
inductive AllocOut where
  | granted (stripe : Nat)
  | refused
  | waits
  deriving DecidableEq, Repr

/-- Record a grant, in the registers of the 32 streams (R188). -/
def State.grant (s : State) (i start n : Nat) (arena : Option Nat) (o : Owner) : State :=
  let s : State := { s with casket := { s.casket with grants := ⟨i, start, n, arena, o⟩ :: s.casket.grants } }
  if i < 32 then
    let s := s.wf (F.CASKET_USE_STRIPES i) (s.rf (F.CASKET_USE_STRIPES i) + n)
    (s.wf (F.CASKET_STAT_NOPROG i) 0).showShared
  else s.showShared

/-- The allocator's rule for a request that no earlier one of its stream blocks (R190); none where it waits. -/
def State.tryGrant (s : State) (i n : Nat) (o : Owner) : Option (Nat × State) :=
  if 0 < s.rf (F.CASKET_LIMIT_STRIPES i) ∧ s.rf (F.CASKET_LIMIT_STRIPES i) < s.rf (F.CASKET_USE_STRIPES i) + n then none
  else match s.freeArenaSlot i with
    | some k =>
      let a := s.arenaBase i + k * s.rf (F.CASKET_SLOT_STRIPES i)
      some (a, s.grant i a n (some k) o)
    | none => (s.lowestRun n).map (fun r => (r, s.grant i r n none o))

/-- Show whether a stream has a request that waits (R205). -/
def State.showWaiting (s : State) (i : Nat) : State :=
  if 32 ≤ i then s else s.wflag (F.CASKET_STAT_WAITING i) (s.casket.waiting.any (fun r => r.stream == i))

/-- Put a list of waiting requests. -/
def State.setWaiting (s : State) (l : List AllocReq) : State := { s with casket := { s.casket with waiting := l } }

/-- Request n stripes for stream i (R190). A holder that asks again for what it holds is answered with it; a request that must wait is
queued once. -/
def State.request (s : State) (i n : Nat) (o : Owner) : AllocOut × State :=
  match s.casket.grants.find? (fun g => g.owner == o && g.stream == i) with
  | some g => (.granted g.start, s)
  | none =>
    if n = 0 ∨ s.rf (F.CASKET_SLOT_STRIPES i) < n then
      (.refused, (s.raise F.CASKET_ERR_ALLOC_REFUSED).event 0x0603 srcHub i n 0 0)
    else if s.casket.waiting.any (fun r => r.stream == i) then
      (.waits, if s.casket.waiting.any (fun r => r.stream == i && r.owner == o) then s
        else s.setWaiting (s.casket.waiting ++ [⟨i, n, o⟩]))
    else match s.tryGrant i n o with
      | some (a, s) => (.granted a, s)
      | none => (.waits, (s.setWaiting (s.casket.waiting ++ [⟨i, n, o⟩])).showWaiting i)

/-- A container comes to lie in a holder's stripes, where a table slot has its generation (R274). -/
def State.keepCoded (s : State) (o : Owner) (c : List Byte) : State :=
  let g := leAt c 2 2
  if (s.genSlot g).isNone then s
  else ({ s with casket := { s.casket with coded := s.casket.coded ++ [(o, g)] } } : State).holdGen g true

/-- The containers in a holder's stripes have been decoded, or their space is free (R274). -/
def State.dropCoded (s : State) (o : Owner) : State :=
  (s.casket.coded.filter (fun e => e.1 == o)).foldl (fun (s : State) e => s.holdGen e.2 false)
    { s with casket := { s.casket with coded := s.casket.coded.filter (fun e => e.1 != o) } }

/-- Free one grant (R190), and what lies in it. -/
def State.freeGrant (s : State) (g : Grant) : State :=
  let s := s.dropCoded g.owner
  let s : State := { s with casket := { s.casket with grants := s.casket.grants.erase g } }
  if g.stream < 32 then (s.wf (F.CASKET_USE_STRIPES g.stream) (s.rf (F.CASKET_USE_STRIPES g.stream) - g.count)).showShared else s.showShared

/-- Free every grant that a test picks. -/
def State.freeWhere (s : State) (p : Grant → Bool) : State := (s.casket.grants.filter p).foldl State.freeGrant s

/-- Free what an owner holds. -/
def State.freeOwner (s : State) (o : Owner) : State := s.freeWhere (fun g => g.owner == o)

/-- Bytes that pass between two dies take stripes of a stream while they do (R13, R188): more than its SLOT go in pieces of SLOT stripes, one after the other.
What the transfer does is done once its stripes are granted; where the request waits, nothing else happens, and the holder asks again. Before a Setting has
given the stream its SLOT there is no pool to take them from. -/
def State.stagedOr (s : State) (i : Nat) (o : Owner) (data : List Byte) (wait body : State → State) : State :=
  let slot := s.rf (F.CASKET_SLOT_STRIPES i)
  if slot = 0 ∨ data.isEmpty then body s
  else match s.request i (min (ceilDiv data.length 512) slot) o with
    | (.granted a, s) => (body (s.store (stripeAddr a) (data.take (slot * 512)))).freeOwner o
    | (_, s) => wait s

/-- The same where the holder needs no note of its own that it waits. -/
def State.staged (s : State) (i : Nat) (o : Owner) (data : List Byte) (body : State → State) : State := s.stagedOr i o data id body

/-- A step of a transfer that codes or decodes stages its blocks in stripes of the CODEC stream (R271). -/
def State.codecStaged (s : State) (on : Bool) (o : Owner) (data : List Byte) (body : State → State) : State :=
  if on then s.staged 14 o data body else body s

/-- The oldest request of stream i that waits, retried until one does not fit. -/
def State.retryStream : Nat → Nat → State → State
  | 0, _, s => s
  | k + 1, i, s =>
    match s.casket.waiting.find? (fun r => r.stream == i) with
    | none => s
    | some r =>
      match s.tryGrant i r.count r.owner with
      | none => s
      | some (_, s) => State.retryStream k i ((s.setWaiting (s.casket.waiting.erase r)).showWaiting i)

/-- Waiting streams are retried in ascending stream number (R190). -/
def State.retryAll (s : State) : State :=
  (List.range 32).foldl (fun (s : State) i => State.retryStream s.casket.waiting.length i s) s

/-- ALLOC_REQUEST (R190), of one of the 32 streams. -/
def execAllocRequest (i n : Nat) (o : Owner) (s : State) : Res := .next (if i < 32 then (s.request i n o).2 else s)

end Sys2Proof.Machine
end

