-- ==== Sys2Proof/Machine/Loupe.lean ====
section
/-! DEFINITION. The Loupe's trace records and the variance counters (chapter 15). -/

namespace Sys2Proof.Machine

/-- Records the trace region holds (R329, R330). -/
def State.traceRoom (s : State) : Nat := s.rf F.LOUPE_REGION_SIZE_GIB * 2 ^ 30 / 32

/-- The module address of trace record i. -/
def State.traceAt (s : State) (i : Nat) : Nat := s.rf F.LOUPE_REGION_BASE_GIB * 2 ^ 30 + i * 32

/-- A trace record's bytes (R330); the stamp counts ticks, of which the model has no clock, so it is a free value. -/
def traceBytes (ty source flags step key len digest : Nat) (stamp : BitVec 40) : List Byte :=
  natLe ty 1 ++ natLe source 1 ++ natLe flags 2 ++ natLe step 4 ++ natLe stamp.toNat 8 ++ natLe key 8 ++ natLe len 4 ++ natLe digest 4

/-- Whether the Loupe writes a record of a type: MODE in force, the region not full, the type enabled; STEP_END and LOST always are
(R331, R332). -/
def State.traces (s : State) (ty : Nat) : Bool :=
  decide (s.rf F.LOUPE_STATUS_ACTIVE ≠ 0) && !s.flag F.LOUPE_STATUS_FULL && decide (0 < s.traceRoom) &&
    (decide (9 ≤ ty) || bit (s.rf F.LOUPE_MASK_TYPES) (ty - 1))

/-- Write a trace record at the write index (R332): RING wraps over the oldest, STOP stops at the end of the region. -/
def State.traceWrite (s : State) (ty source flags key len digest : Nat) : State :=
  let i := s.rpair F.LOUPE_WR_LO_INDEX F.LOUPE_WR_HI_INDEX
  let (st, s) := s.freeWord 40
  let s := s.store (s.traceAt (i % s.traceRoom)) (traceBytes ty source flags (s.rf F.CHAIN_STEP_STEP) key len digest st)
  let s := s.wpair F.LOUPE_WR_LO_INDEX F.LOUPE_WR_HI_INDEX (i + 1)
  if s.rf F.LOUPE_STATUS_ACTIVE = 2 then (if s.traceRoom ≤ i + 1 then s.wflag F.LOUPE_STATUS_FULL true else s)
  else if s.traceRoom ≤ i then s.wflag F.LOUPE_STATUS_WRAPPED true else s

/-- Whether a source is the host: a queue's, or another access of its own. -/
def hostSource (source : Nat) : Bool := decide (0x10 ≤ source) && source != 0xFF

/-- Record an input that enters the module (R329 to R331). -/
def State.trace (s : State) (ty source flags key len digest : Nat) : State :=
  let s : State := if hostSource source then { s with loupe := { s.loupe with merge := none } } else s
  if s.traces ty then s.traceWrite ty source flags key len digest else s

/-- Record host data under a record of its own. -/
def State.traceFresh (s : State) (ty source addr : Nat) (data : List Byte) : State :=
  let i := s.rpair F.LOUPE_WR_LO_INDEX F.LOUPE_WR_HI_INDEX
  let s := s.traceWrite ty source 0 addr data.length (crc32c data)
  { s with loupe := { s.loupe with merge := some (i, ty + 256 * source, addr, data) } }

/-- Record host data: writes through BAR2 (type 2) or DMA reads (type 3); contiguous ones merge into one record of at most 1 MiB, while
no other host record comes between (R331). -/
def State.traceData (s : State) (ty source addr : Nat) (data : List Byte) : State :=
  if !s.traces ty then s
  else match s.loupe.merge with
    | some (i, t, a, d) =>
      if t = ty + 256 * source ∧ a + d.length = addr ∧ d.length + data.length ≤ 1048576 then
        let at0 := s.traceAt (i % s.traceRoom)
        let s := s.store (at0 + 24) (natLe (d ++ data).length 4 ++ natLe (crc32c (d ++ data)) 4)
        { s with loupe := { s.loupe with merge := some (i, t, a, d ++ data) } }
      else s.traceFresh ty source addr data
    | none => s.traceFresh ty source addr data

/-- Count a variance occurrence (R326, R327): VAR.STEP, VAR.SRC, the lifetime image, a VARIANCE record; core is the logical core or 0x1FF. -/
def State.variance (s : State) (code core key : Nat) : State :=
  let s := (s.bump F.LOUPE_VAR_STEP_COUNT 1).bump (F.LOUPE_VAR_SRC_COUNT code) 1
  let s := s.lifePair (0x5300 + 8 * code) 1
  s.trace 0x08 0xFF 0 (code + 2 ^ 8 * core + 2 ^ 32 * key) 0 0

/-- LOUPE_MODE_WRITE (R334): 3 is ignored, and so is any write with no trace region; the mode takes effect at item 11 (R329). -/
def execLoupeModeWrite (m : Nat) (s : State) : Res :=
  .next (if m < 3 ∧ s.rf F.LOUPE_REGION_SIZE_GIB ≠ 0 then s.wf F.LOUPE_CTRL_MODE m else s)

/-- LOUPE_RESTART (R334): WR to 0, FULL and WRAPPED clear. -/
def execLoupeRestart (s : State) : Res :=
  .next (({ s with loupe := { s.loupe with merge := none } }.wpair F.LOUPE_WR_LO_INDEX F.LOUPE_WR_HI_INDEX 0).zero
    [F.LOUPE_STATUS_FULL, F.LOUPE_STATUS_WRAPPED])

end Sys2Proof.Machine
end

