-- ==== Sys2Proof/Machine/Cores.lean ====
section
/-! DEFINITION. The cores: finding one, what it holds, where a module address lies, its handles (R18 to R22, R154, R155, R160). -/

namespace Sys2Proof.Machine

/-! ### Cores -/

/-- What a core that nothing has touched holds. -/
def coreDflt : Nat → CoreX := fun _ => CoreX.reset

/-- What physical core n holds beside its registers. -/
def State.core (s : State) (n : Nat) : CoreX := SMap.get coreDflt s.cores n

/-- Put what physical core n holds. -/
def State.setCore (s : State) (n : Nat) (c : CoreX) : State := { s with cores := SMap.set coreDflt s.cores n c }

/-- The physical core that presents logical core m (R20, R154): the slot of its cluster whose CORE.ID names m. -/
def State.physOf (s : State) (m : Nat) : Option Nat :=
  if m < 320 then
    ((List.range 6).map (fun k => m / 20 * 24 + m % 20 / 5 * 6 + k)).find?
      (fun n => s.flag (F.CORE_ID_ENABLED n) && s.rf (F.CORE_ID_LOGICAL n) == m)
  else none

/-- The logical number of a physical core; 0x1FF where it is not presented. -/
def State.logicalOf (s : State) (n : Nat) : Nat := s.rf (F.CORE_ID_LOGICAL n)

/-- Whether an entry of either part of the disabled-unit map disables a physical core (R456). -/
def State.disabled (s : State) (n : Nat) : Bool :=
  (s.locket.soft ++ s.locket.fused).any (fun u => u.core == n && u.column.isNone)

/-- Base of the store of physical core n in the module address map (R19). -/
def storeBase (n : Nat) : Nat := 0x021000000000 + n * 0x01000000

/-! ### Module addresses (R19, R20, R22) -/

/-- Where a module address lies, for a stream engine. -/
inductive Region where
  | lpddr
  | casket
  | core (n : Nat) (off : Nat)
  | reserved
  deriving DecidableEq, Repr

/-- Bytes of a core store (R155). -/
def storeBytes : Nat := 0x800000

/-- First stripe past the regions that a stream engine may not reach: Charm contexts, transit and spill (R186, R187). -/
def State.dynamicBase (s : State) : Nat := s.rf F.CASKET_POOL_BASE_STRIPE

/-- The core store that an address of either view names, and the byte of it; none where nothing answers (R19, R20). A slot that forwards answers at its
physical view until its stubs go (R461). -/
def State.coreAt (s : State) (a : Nat) : Option (Nat × Nat) :=
  if 0x021000000000 ≤ a ∧ a < 0x021180000000 then
    let n := (a - 0x021000000000) / 0x01000000
    let o := (a - 0x021000000000) % 0x01000000
    if o < storeBytes ∧ (s.flag (F.CORE_ID_ENABLED n) ∨ (s.core n).forwardTo.isSome) then some (n, o) else none
  else if 0x022000000000 ≤ a ∧ a < 0x022140000000 then
    let o := (a - 0x022000000000) % 0x01000000
    if o < storeBytes then (s.physOf ((a - 0x022000000000) / 0x01000000)).map (fun n => (n, o)) else none
  else none

/-- Where a module address lies for a stream engine (R19, R22, R187). -/
def State.region (s : State) (a : Nat) : Region :=
  if a < 0x020000000000 then .lpddr
  else if a < 0x020100000000 then
    (if s.dynamicBase ≤ (a - 0x020000000000) / 512 then .casket else .reserved)
  else match s.coreAt a with
    | some (n, o) => .core n o
    | none => .reserved

/-! ### Handles (R160) -/

/-- Whether handle h of physical core n is valid. -/
def State.hValid (s : State) (n h : Nat) : Bool := decide (h < 64) && s.flag (F.HANDLE_A_VALID n h)

/-- Whether it is open (R165). -/
def State.hOpen (s : State) (n h : Nat) : Bool := s.flag (F.HANDLE_A_WINDOW n h) || s.flag (F.HANDLE_A_RREAD n h)

/-- First byte of a handle's buffer in its store, and its bytes. -/
def State.hStart (s : State) (n h : Nat) : Nat := s.rf (F.HANDLE_A_BASE n h) * 4
def State.hBytes (s : State) (n h : Nat) : Nat := (s.rf (F.HANDLE_B_LEN_M1 n h) + 1) * 4

/-- The module address (physical view) of byte o of a handle's buffer. -/
def State.hAddr (s : State) (n h o : Nat) : Nat := storeBase n + s.hStart n h + o

/-- CBASE: the Glint index of the buffer's first element. -/
def State.hCbase (s : State) (n h : Nat) : Nat := s.rf (F.HANDLE_CBASE_LO_CBASE n h) + 2 ^ 32 * s.rf (F.HANDLE_CBASE_HI_CBASE n h)

/-- The valid handle whose range contains byte o of the store. -/
def State.handleAt (s : State) (n o : Nat) : Option Nat :=
  (List.range 64).find? (fun h => s.hValid n h && decide (s.hStart n h ≤ o) && decide (o < s.hStart n h + s.hBytes n h))

end Sys2Proof.Machine
end

