-- ==== Sys2Proof/Machine/Program.lean ====
section
/-! DEFINITION. Stream programs: their instructions, their check and the addresses they generate (R173 to R175, R181). -/

namespace Sys2Proof.Machine

/-! ### Programs (R173 to R175) -/

/-- One side of a program: SPACE, VALUE, GEN, and the index of its instruction. -/
structure Side where
  space : Nat
  value : Nat
  gen : Nat
  at0 : Nat
  deriving DecidableEq, Repr

/-- A LOOP: its count and its two byte strides. -/
structure Loop where
  count : Nat
  ss : Int
  ds : Int
  deriving DecidableEq, Repr

/-- A GATHER or SCATTER: level, index handle, index bytes, byte offset, limit, and the index of its instruction. -/
structure Indexed where
  level : Nat
  hi : Nat
  iw : Nat
  ioff : Nat
  limit : Nat
  at0 : Nat
  deriving DecidableEq, Repr

/-- A program as its instructions spell it. -/
structure Prog where
  src : Option Side
  dst : Option Side
  elem : Option Nat
  loops : List (Nat × Loop)
  skew : Option (Nat × Nat × Nat)
  trans : Option Bool
  gather : Option Indexed
  scatter : Option Indexed
  deriving DecidableEq, Repr

def Prog.empty : Prog := ⟨none, none, none, [], none, none, none, none⟩

/-- A two's complement number of w bits. -/
def signedOf (x w : Nat) : Int := if x < 2 ^ (w - 1) then (x : Int) else (x : Int) - 2 ^ w

/-- The bytes of an instruction from o up to 16 are 0. -/
def insZero (i : BitVec 128) (o : Nat) : Bool := fieldAt i.toNat o (16 - o) == 0

/-- SRC or DST; none for a reserved SPACE or field (R173). Ports are for DST only. -/
def parseSide (i : BitVec 128) (k : Nat) (isDst : Bool) : Option Side :=
  let sp := fieldAt i.toNat 1 1
  let v := fieldAt i.toNat 2 6
  if (if isDst then 4 ≤ sp else 2 ≤ sp) || !insZero i 10 then none
  else if sp = 1 ∧ (bits v 6 2 ≠ 0 ∨ 2 ^ 31 ≤ v) then none
  else some ⟨sp, v, fieldAt i.toNat 8 2, k⟩

/-- GATHER or SCATTER; none for a reserved field. -/
def parseIndexed (i : BitVec 128) (k : Nat) : Option Indexed :=
  let l := fieldAt i.toNat 1 1
  let h := fieldAt i.toNat 2 1
  let w := fieldAt i.toNat 3 1
  if 6 ≤ l ∨ 64 ≤ h ∨ 2 ≤ w ∨ !insZero i 12 then none
  else some ⟨l, h, if w = 1 then 4 else 2, fieldAt i.toNat 4 4, fieldAt i.toNat 8 4, k⟩

/-- Take one instruction (R173, R175); none where it breaks a rule. -/
def Prog.add (p : Prog) (i : BitVec 128) (k : Nat) : Option Prog :=
  let b1 := fieldAt i.toNat 1 1
  match fieldAt i.toNat 0 1 with
  | 1 => if p.src.isSome then none else (parseSide i k false).map (fun x => { p with src := some x })
  | 2 => if p.dst.isSome then none else (parseSide i k true).map (fun x => { p with dst := some x })
  | 3 => if p.elem.isSome || decide (4096 ≤ fieldAt i.toNat 1 2) || !insZero i 3 then none
         else some { p with elem := some (fieldAt i.toNat 1 2 + 1) }
  | 4 => if decide (6 ≤ b1) || p.loops.any (fun e => e.1 == b1) then none
         else some { p with loops := (b1, ⟨fieldAt i.toNat 2 4 + 1, signedOf (fieldAt i.toNat 6 5) 40, signedOf (fieldAt i.toNat 11 5) 40⟩) :: p.loops }
  | 5 => if p.skew.isSome || decide (b1 = 0) || decide (6 ≤ b1) || fieldAt i.toNat 4 3 == 0 || !insZero i 7 then none
         else some { p with skew := some (b1, fieldAt i.toNat 2 2, fieldAt i.toNat 4 3) }
  | 6 => if p.trans.isSome || decide (2 ≤ b1) || !insZero i 2 then none else some { p with trans := some (b1 == 1) }
  | 7 => if p.gather.isSome then none else (parseIndexed i k).map (fun x => { p with gather := some x })
  | 8 => if p.scatter.isSome then none else (parseIndexed i k).map (fun x => { p with scatter := some x })
  | _ => none

/-- Read the instructions up to END (R173). -/
def parseProgram : List (BitVec 128) → Nat → Prog → Option Prog
  | [], _, p => some p
  | i :: r, k, p =>
    if fieldAt i.toNat 0 1 = 0 then (if insZero i 1 then some p else none)
    else match p.add i k with
      | some q => parseProgram r (k + 1) q
      | none => none

/-- The loop at a level: a level without a LOOP has a count of 1. -/
def Prog.loop (p : Prog) (l : Nat) : Loop :=
  match p.loops.find? (fun e => e.1 == l) with
  | some e => e.2
  | none => ⟨1, 0, 0⟩

/-- Elements a program moves. -/
def Prog.total (p : Prog) : Nat := ((List.range 6).map (fun l => (p.loop l).count)).foldl (· * ·) 1

/-- Handles a program names. -/
def Prog.handles (p : Prog) : List Nat :=
  let side := fun (x : Option Side) => match x with | some y => if y.space = 1 then [bits y.value 0 6] else [] | none => []
  let ind := fun (x : Option Indexed) => match x with | some y => [y.hi] | none => []
  side p.src ++ side p.dst ++ ind p.gather ++ ind p.scatter

/-- What the check of a program answers: DECODE, HANDLE, or the program (R175). -/
inductive ProgOut where
  | decode
  | handle
  | ok (p : Prog)
  deriving DecidableEq, Repr

/-- The check of R175 over a program's parts: multiples of ELEM, the tile of TRANS, totals; port gives the bytes of the stream that the ARRAY descriptor
behind a port takes, where that is known. -/
def State.progBad (s : State) (n : Nat) (port : Bool → Option Nat) (p : Prog) (elem : Nat) (dst : Side) : Bool :=
  (match p.skew with | some (_, step, md) => step % elem != 0 || md % elem != 0 | none => false) ||
    (p.trans.isSome && decide (16384 < (p.loop 0).count * (p.loop 1).count * elem)) ||
    decide (2 ^ 40 < p.total * elem) ||
    (decide (2 ≤ dst.space) && (match port (dst.space == 3) with | some k => decide (k < p.total * elem) | none => false)) ||
    (dst.space == 1 && s.hValid n (bits dst.value 0 6) && decide (s.hBytes n (bits dst.value 0 6) < p.total * elem))

/-- Check a program (R175). -/
def State.progCheck (s : State) (n : Nat) (port : Bool → Option Nat) (l : List (BitVec 128)) : ProgOut :=
  match parseProgram l 0 Prog.empty with
  | none => .decode
  | some p =>
    match p.src, p.dst, p.elem with
    | some _, some d, some e =>
      if s.progBad n port p e d then .decode
      else if p.handles.any (fun h => !s.hValid n h) then .handle
      else .ok p
    | _, _, _ => .decode

/-! ### Addresses (R174, R181) -/

/-- The loop indices of element k, with level 0 varying fastest. -/
def Prog.index (p : Prog) (k : Nat) : List Nat :=
  ((List.range 6).foldl (fun (a : List Nat × Nat) l => (a.1 ++ [a.2 % (p.loop l).count], a.2 / (p.loop l).count)) ([], k)).1

/-- A stream fault: cause, instruction, address. -/
structure SFault where
  cause : Nat
  instr : Nat
  addr : Nat
  deriving DecidableEq, Repr

/-- Read an index of a GATHER or SCATTER; a fault where it lies outside HI or at LIMIT or above. -/
def State.readIndex (s : State) (n : Nat) (x : Indexed) (i : Nat) : Except SFault Nat :=
  let o := x.ioff + i * x.iw
  let a := s.hAddr n x.hi o
  if s.hBytes n x.hi < o + x.iw then .error ⟨4, x.at0, a⟩
  else if s.poisonedAt a x.iw then .error ⟨6, x.at0, a⟩
  else
    let v := s.rle a x.iw
    if x.limit ≤ v then .error ⟨4, x.at0, a⟩ else .ok v

/-- Where one side's element lies, given its byte displacement: each check of R181 in turn. -/
def State.place (s : State) (n : Nat) (x : Side) (disp : Int) (elem : Nat) : Except SFault Place :=
  if x.space = 0 then
    let a := (x.value : Int) + disp
    if a < 0 ∨ 2 ^ 48 ≤ a + elem - 1 then .error ⟨1, x.at0, (a % 2 ^ 64).toNat⟩
    else
      let b := a.toNat
      match s.region b, s.region (b + elem - 1) with
      | .lpddr, .lpddr => .ok (.module b x.gen)
      | .casket, .casket => .ok (.module b x.gen)
      | .core k _, .core k2 _ => if k = k2 then .ok (.module b x.gen) else .error ⟨2, x.at0, b⟩
      | _, _ => .error ⟨2, x.at0, b⟩
  else if x.space = 1 then
    let h := bits x.value 0 6
    let o := (bits x.value 8 23 : Int) + disp
    if o < 0 ∨ (s.hBytes n h : Int) < o + elem then .error ⟨3, x.at0, (((s.hAddr n h 0 : Int) + o) % 2 ^ 64).toNat⟩
    else .ok (.store (s.hStart n h + o.toNat))
  else .ok (.port (x.space == 3))

/-- The two places of element k (R174). -/
def State.element (s : State) (n : Nat) (p : Prog) (src dst : Side) (elem k : Nat) : Except SFault (Place × Place) :=
  let ix := p.index k
  let sub := fun (x : Option Indexed) =>
    match x with
    | none => (Except.ok ix : Except SFault (List Nat))
    | some g => (s.readIndex n g (nth ix g.level 0)).map (fun v => setNth ix g.level v)
  match sub p.gather, sub p.scatter with
  | .error f, _ => .error f
  | _, .error f => .error f
  | .ok si, .ok di =>
    let ssum := (List.range 6).foldl (fun (a : Int) l => a + ((nth si l 0 : Nat) : Int) * (p.loop l).ss) 0
    let dsum := (List.range 6).foldl (fun (a : Int) l => a + ((nth di l 0 : Nat) : Int) * (p.loop l).ds) 0
    let disp := match p.skew with
      | none => dsum
      | some (l, step, md) =>
        let inner : Int := ((nth di 0 0 : Nat) : Int) * (p.loop 0).ds
        dsum - inner + (inner + ((nth ix l 0 : Nat) : Int) * (step : Int)) % (md : Int)
    match s.place n src ssum elem, s.place n dst disp elem with
    | .error f, _ => .error f
    | _, .error f => .error f
    | .ok a, .ok b => .ok (a, b)

/-- The program of a running RUN, which its check has passed, with its two sides and its element size. -/
def RunX.prog (r : RunX) : Option (Prog × Side × Side × Nat) :=
  match parseProgram r.program 0 Prog.empty with
  | some p => match p.src, p.dst, p.elem with
    | some a, some b, some e => some (p, a, b, e)
    | _, _, _ => none
  | none => none

/-- The port a RUN writes to, if it does. -/
def RunX.port (r : RunX) : Option Bool :=
  match r.prog with
  | some (_, _, d, _) => if d.space = 2 then some false else if d.space = 3 then some true else none
  | none => none

end Sys2Proof.Machine
end

