-- ==== Sys2Proof/Machine/Tasks.lean ====
section
/-! DEFINITION. The tasks that run on the cores: faulting a task (R151, R153), ending a task and a launch (R287),
aborting the step (R79, R295). -/

namespace Sys2Proof.Machine

/-! ### Tasks -/

/-- A phase in which a task occupies its core. -/
def TaskPhase.live : TaskPhase → Bool
  | .run | .waiting | .draining => true
  | _ => false

/-- The task that occupies logical core m. -/
def State.curTask (s : State) (m : Nat) : Option Task :=
  s.front.tasks.find? (fun t => t.core == m && t.phase.live)

/-- Replace the front end's tasks. -/
def State.setTasks (s : State) (l : List Task) : State := { s with front := { s.front with tasks := l } }

/-- Replace the front end's launches. -/
def State.setLaunches (s : State) (l : List Launch) : State := { s with front := { s.front with launches := l } }

/-- Change the task of an id. -/
def State.updTask (s : State) (id : Nat) (f : Task → Task) : State :=
  s.setTasks (s.front.tasks.map (fun t => if t.id = id then f t else t))

/-- Change the launch of an id. -/
def State.updLaunch (s : State) (id : Nat) (f : Launch → Launch) : State :=
  s.setLaunches (s.front.launches.map (fun l => if l.id = id then f l else l))

/-- The index of the descriptor that logical core m's task stands at. -/
def State.descOf (s : State) (m : Nat) : Nat := match s.curTask m with | some t => t.desc | none => 0

/-- CORE.STATE.TASK codes (R154). -/
def taskIdle : Nat := 0
def taskRun : Nat := 1
def taskWaiting : Nat := 2
def taskPreempting : Nat := 3
def taskSaved : Nat := 4
def taskAborted : Nat := 5

/-- Set CORE.STATE.TASK of logical core m, where it is presented. -/
def State.showTask (s : State) (m code : Nat) : State :=
  match s.physOf m with
  | some n => s.wf (F.CORE_STATE_TASK n) code
  | none => s

/-! ### Completions -/

/-- Bytes of a command entry (R279). -/
def entryField (e : BitVec 512) (o k : Nat) : Nat := fieldAt e.toNat o k

/-- Put a completion in line for its record's write, and count the command as completed (R296, R300); there are eight queues. -/
def State.complete (s : State) (c : Completion) : State :=
  let s : State := { s with front := { s.front with done := s.front.done ++ [c] } }
  if c.queue < 8 then s.wf (F.FRONT_Q_STATUS_ACTIVE c.queue) (s.rf (F.FRONT_Q_STATUS_ACTIVE c.queue) - 1) else s

/-- A completion with nothing to report. -/
def plainCompletion (s : State) (q : Nat) (e : BitVec 512) (status : Nat) : Completion :=
  ⟨q, e, status, 0, s.rf F.CHAIN_STEP_STEP, 0, 0, 0, 0⟩

/-- What the graph store holds of a graph that nothing has loaded. -/
def graphDflt : Nat → GraphX := fun _ => ⟨[], 0⟩

/-- The graph store's view of a graph. -/
def State.graph (s : State) (g : Nat) : GraphX := SMap.get graphDflt s.front.graphs g

/-- Put the graph store's view of a graph and show it in GRAPH.STATE and GRAPH.REFS (R300), which 4,096 graphs have. -/
def State.setGraph (s : State) (g : Nat) (x : GraphX) : State :=
  let s : State := { s with front := { s.front with graphs := SMap.set graphDflt s.front.graphs g x } }
  if 4095 < g then s
  else
    let s := s.wf (F.FRONT_GRAPH_STATE_HELD_M1 g) (x.versions.length - 1)
    match x.versions.find? (fun v => v.num == s.rf (F.FRONT_GRAPH_STATE_CURRENT g)) with
    | some v => s.wf (F.FRONT_GRAPH_REFS_COUNT g) (if s.flag (F.FRONT_GRAPH_STATE_VALID g) then v.refs else 0)
    | none => s.wf (F.FRONT_GRAPH_REFS_COUNT g) 0

/-- The pass or row of its descriptor that logical core m's task stands at (R150). -/
def State.passOf (s : State) (m : Nat) : Nat := match s.curTask m with | some t => t.pass | none => 0

/-- The version a launch is bound to. -/
def State.versionOf (s : State) (g v : Nat) : Option Version := (s.graph g).versions.find? (fun x => x.num == v)

/-- Where an image's descriptor array lies (R282). -/
def imgDescOff (g : List Byte) : Nat := leAt g 0x18 4

/-- Descriptor i of a task, as its version of the graph holds it (R282). -/
def State.taskDesc (s : State) (t : Task) (i : Nat) : Option (BitVec 256) :=
  ((s.front.launches.find? (fun l => l.id == t.launch)).bind (fun l => s.versionOf l.graph l.version)).map
    (fun v => BitVec.ofNat 256 (leAt v.image (imgDescOff v.image + 32 * (t.first + i)) 32))

/-- Whether the task unit of logical core m issues descriptor d now: its task runs, or waits to issue this same descriptor again, or drains to the end of a
chain (R150, R294). A core without a task has no task unit to hold a command back. -/
def State.issues (s : State) (m : Nat) (d : BitVec 256) : Bool :=
  match s.curTask m with
  | none => true
  | some t =>
    t.phase == .run || (t.phase == .waiting && t.wait == .retry d) ||
      (t.phase == .draining && (match s.physOf m with | some n => (s.core n).chain.isSome | none => false))

/-- Do what a descriptor does where the task unit issues it now. -/
def State.issue (s : State) (m : Nat) (d : BitVec 256) (body : State → State) : State := if s.issues m d then body s else s

/-- Drop one reference of a version (R285). -/
def State.dropRef (s : State) (g v : Nat) : State :=
  let x := s.graph g
  s.setGraph g { x with versions := x.versions.map (fun w => if w.num = v then { w with refs := w.refs - 1 } else w) }

/-- Complete a launch with a status (R287, R296): its constant buffer's stripes are freed (R16) and its version's reference dropped. -/
def State.completeLaunch (s : State) (l : Launch) (status : Nat) : State :=
  let s := s.freeOwner ⟨.constant, l.id⟩
  let s := s.dropRef l.graph l.version
  let s := s.setLaunches (s.front.launches.filter (fun x => x.id != l.id))
  let (core, cause, desc) := l.abort.getD (0, 0, 0)
  s.complete ⟨l.queue, l.entry, status, b2n l.incompleteMb * 2 + b2n (decide (0 < l.enqDropped)) * 4 + b2n l.drained * 8,
    s.rf F.CHAIN_STEP_STEP, l.graph, l.version, core + cause * 2 ^ 9, desc⟩

/-- A launch with no live task completes (R287): OK when no task aborted, STALLED when one ran out of its budget, else ABORTED. -/
def State.launchCheck (s : State) (id : Nat) : State :=
  match s.front.launches.find? (fun l => l.id == id) with
  | some l => if l.live = 0 then s.completeLaunch l (if l.stalled then 2 else if l.abort.isSome then 1 else 0) else s
  | none => s

/-- A task leaves the machine: its variance is reported (R327) and its launch counts it down (R287). -/
def State.dropTask (s : State) (t : Task) : State :=
  let s := if t.variance = 0 then s else s.event 0x0D00 srcHub t.launch t.core t.index t.variance
  let s := s.setTasks (s.front.tasks.filter (fun x => x.id != t.id))
  (s.updLaunch t.launch (fun l => { l with live := l.live - 1 })).launchCheck t.launch

/-! ### Faults -/

/-- The CORE.ERR bit of a cause (R154), where it has one. -/
def causeErr (n cause : Nat) : Option Fld :=
  if cause = 1 ∨ cause = 2 ∨ cause = 9 ∨ cause = 0xD then some (F.CORE_ERR_DECODE n)
  else if cause = 5 then some (F.CORE_ERR_POISON n)
  else if cause = 6 then some (F.CORE_ERR_ACC_PARITY n)
  else if cause = 7 then some (F.CORE_ERR_LATCH_PARITY n)
  else if cause = 8 then some (F.CORE_ERR_CHAIN n)
  else if cause = 0xC then some (F.CORE_ERR_TORN n)
  else if cause = 3 ∨ cause = 4 ∨ cause = 0xE then some (F.CORE_ERR_OPERAND n)
  else none

/-- The engines of physical core n stop: running RUNs, transfers, port bytes and a held tile are gone (R151, R181), and so are a GCLOSE of the task on it that waits
and the CGACCs of that task that are held. -/
def State.stopEngines (s : State) (n : Nat) : State :=
  let s := s.freeWhere (fun g => g.owner.kind == .agent && g.owner.key / 2 ^ 65 == n)
  let s := s.setCore n { s.core n with runs := [], transfers := [], portA := [], portB := [], chain := none }
  let m := s.logicalOf n
  let (waits, id) := match s.curTask m with | some t => (t.wait == TaskWait.close, t.id) | none => (false, 0)
  let s : State := { s with grad := { s.grad with closing := if waits then none else s.grad.closing }
                            charm := { s.charm with held := s.charm.held.filter (fun h => h.1 != m || h.2.1 != id) } }
  s.zero [F.STREAM_STATUS_OUTSTANDING n, F.STREAM_STATUS_RUNS n, F.CORE_STATE_CHAIN_HELD n, F.CORE_STATE_WRITEOUT n,
    F.CLASP_CORE_WAIT_VALID n]

/-- The P that an abort of physical core n shows (R151, R154): the first member of a chain in progress, else the abandoned pass. -/
def State.resumePoint (s : State) (n pass : Nat) : Nat := match (s.core n).chain with | some c => c.at0 | none => pass

/-- Abort the task of logical core m with a cause at pass P (R151, R153): CORE.ABORT names cause, descriptor and pass, the error bit sets,
CORE_ABORT is recorded, the launch keeps the first abort. -/
def State.faultAt (s : State) (m cause pass : Nat) : State :=
  let d := s.descOf m
  let s := match s.physOf m with
    | none => s
    | some n =>
      let pass := s.resumePoint n pass
      let s := s.stopEngines n
      let s := (s.wf (F.CORE_ABORT_CAUSE n) cause).wf (F.CORE_ABORT_DESC n) d
      let s := (s.wf (F.CORE_ABORT_PASS_P n) pass).wf (F.CORE_STATE_TASK n) taskAborted
      let s := match causeErr n cause with | some f => s.raise f | none => s
      let s := if cause = 6 ∨ cause = 7 then s.setCore n { s.core n with ueStep := (s.core n).ueStep + 1 } else s
      s.event 0x0400 (srcCore n) cause d pass m
  match s.curTask m with
  | none => s
  | some t =>
    let s := s.updLaunch t.launch (fun l => if l.abort.isNone then { l with abort := some (m, cause, d) } else l)
    s.dropTask t

/-- How the passes or rows of a descriptor end: all have run, one has faulted, or the descriptor stops at a boundary (R150). -/
inductive RunEnd where
  | done | failed | stopped
  deriving DecidableEq, Repr

/-- The task of logical core m stops within its descriptor, the next pass or row saved (R150). -/
def State.stopAt (s : State) (m pass : Nat) : State :=
  match s.curTask m with
  | some t => s.updTask t.id (fun t => { t with pass := pass })
  | none => s

/-- Abort the task of logical core m with a cause, no pass having begun. -/
def State.fault (s : State) (m cause : Nat) : State := s.faultAt m cause 0

/-- Bytes of memory become undefined: free bytes. -/
def State.tearAt (s : State) (a len : Nat) : State :=
  let (l, s) := s.freeBytes len
  s.wbs a l

/-- One element's destination becomes undefined: a byte range of the core's own store, of memory, or of an open window of the generation it was
sent under. -/
def State.tearPlace (s : State) (n elem : Nat) (x : Place) : State :=
  match x with
  | .store o => s.tearAt (storeBase n + o) elem
  | .port _ => s
  | .module a g =>
    match s.coreAt a with
    | none => s.tearAt a elem
    | some (k, o) =>
      match s.handleAt k o with
      | some h => if s.flag (F.HANDLE_A_WINDOW k h) && g == s.rf (F.HANDLE_D_GEN k h) then s.tearAt (storeBase k + o) elem else s
      | none => s

/-- The destinations of the RUNs that had begun are undefined after a stream fault (R181). -/
def State.tearRuns (s : State) (n : Nat) : State :=
  (s.core n).runs.foldl (fun (s : State) r =>
    match r.prog with
    | some (p, a, b, e) =>
      if r.issued = 0 then s
      else (List.range p.total).foldl (fun (s : State) k =>
        match s.element n p a b e k with
        | .ok (_, y) => s.tearPlace n e y
        | .error _ => s) s
    | none => s) s

/-- STREAM.FAULT names the cause, instruction, address and descriptor, and STREAM_FAULT is recorded (R181). -/
def State.noteStreamFault (s : State) (n cause instr addr desc : Nat) : State :=
  let s := (s.wf (F.STREAM_FAULT_CAUSE n) cause).wf (F.STREAM_FAULT_INSTR n) instr
  let s := (s.wpair (F.STREAM_FAULT_ADDR_LO_ADDR n) (F.STREAM_FAULT_ADDR_HI_ADDR n) addr).wf (F.STREAM_FAULT_DESC_DESC n) desc
  let s := (s.wflag (F.STREAM_STATUS_FAULTED n) true).raise (F.CSTORE_ERR_STREAM n)
  s.event 0x0506 (srcCore n) 0 0 0 0

/-- The cause of a stream read that met a stash container which does not decode: no stream fault, the task faults with POISON (R270). -/
def stashCause : Nat := 0x10

/-- Abort with cause STREAM at pass P (R151, R181): the data that outstanding reads return is discarded, writes already issued land, and what the task's RUNs
had begun to write is undefined. -/
def State.streamFaultAt (s : State) (m cause instr addr desc pass : Nat) : State :=
  match s.physOf m with
  | none => s
  | some n =>
    if cause = stashCause then ((s.countStash addr).tearRuns n).faultAt m 5 pass
    else ((s.noteStreamFault n cause instr addr desc).tearRuns n).faultAt m 0x0A pass

/-- A stream fault with no pass running. -/
def State.streamFault (s : State) (m cause instr addr desc : Nat) : State := s.streamFaultAt m cause instr addr desc 0

/-! ### Going on, and ending -/

/-- A stalled task has stopped: it ends drained or killed, and FRONT_STALL says which (R294). -/
def State.stallEnd (s : State) (t : Task) (killed : Bool) : State :=
  let s := s.bump (F.FRONT_CNT_COUNT (if killed then 3 else 2)) 1
  let s := (s.raise F.FRONT_ERR_STALL).event 0x0B03 srcHub t.core t.desc (b2n killed) 0
  let s := s.updLaunch t.launch (fun l => { l with stalled := true, drained := l.drained || !killed })
  if killed then (match s.physOf t.core with | some n => s.tearRuns n | none => s).fault t.core 0x0B
  else
    let s := match s.physOf t.core with
      | some n => ((s.stopEngines n).wf (F.CORE_ABORT_CAUSE n) 0).wf (F.CORE_STATE_TASK n) taskIdle
      | none => s
    s.dropTask t

/-- A task has completed its last descriptor (R287): one that holds a chain tile faults (R132); a persistent one waits for its next word
(R289); any other leaves. -/
def State.endTask (s : State) (t : Task) : State :=
  let held := match s.physOf t.core with | some n => (s.core n).chain.isSome | none => false
  if held then s.fault t.core 8
  else if t.persistent then
    (s.updTask t.id (fun t => { t with desc := 0, phase := .waiting, wait := .queue t.popQueue })).showTask t.core taskWaiting
  else (s.showTask t.core taskIdle).dropTask t

/-- A chain whose members have not all run stands in the way of the next boundary (R149, R150): a draining task goes on with it. -/
def CoreX.chainOpen (c : CoreX) : Bool := c.chain.isSome

/-- Members of a chain that were passed over have yet to run (R149). -/
def CoreX.chainOwes (c : CoreX) : Bool := match c.chain with | some x => !x.passed.isEmpty | none => false

/-- The task of logical core m ends once it has issued every descriptor, its RUNs are done, no CGACC of it is held and every member of a chain has run; a draining one ends once its
transfers are done and it stands at a boundary of R150. -/
def State.settleTask (s : State) (m : Nat) : State :=
  match s.curTask m, s.physOf m with
  | some t, some n =>
    if t.phase == .draining then
      (if (s.core n).transfers.isEmpty && (!(s.core n).chainOpen || decide (t.count ≤ t.desc)) then s.stallEnd t false else s)
    else if t.phase == .run && decide (t.count ≤ t.desc) && (s.core n).runs.isEmpty && s.charm.held.all (fun h => h.2.1 != t.id) && !(s.core n).chainOwes then s.endTask t
    else s
  | _, _ => s

/-- The first index from i on that the stream engine has not started ahead (R179). -/
def nextIndex (started : List Nat) : Nat → Nat → Nat
  | 0, i => i
  | k + 1, i => if started.contains i then nextIndex started k (i + 1) else i

/-- The task of logical core m goes on to its next descriptor. -/
def State.nextDesc (s : State) (m : Nat) : State :=
  match s.curTask m with
  | some t =>
    let i := nextIndex t.started t.started.length (t.desc + 1)
    let s := (s.updTask t.id (fun t => { t with desc := i, pass := 0, pushed := 0, started := t.started.filter (fun k => decide (i < k)), phase := if t.phase == .draining then .draining else .run, wait := .none }))
    (s.showTask m taskRun).settleTask m
  | none => s

/-- Count a variance occurrence of the task on logical core m (R326, R327). -/
def State.taskVariance (s : State) (code m key : Nat) : State :=
  let s := match s.curTask m with
    | some t => s.updTask t.id (fun t => { t with variance := min (t.variance + 1) (2 ^ 32 - 1) })
    | none => s
  s.variance code m key

/-! ### Aborting the step -/

/-- Hand a unit to a port's link to be sent when its turn comes (R356, R362). -/
def linkDflt : Nat → LinkX := fun _ => LinkX.reset
def State.link (s : State) (p : Nat) : LinkX := SMap.get linkDflt s.links p
def State.setLink (s : State) (p : Nat) (x : LinkX) : State := { s with links := SMap.set linkDflt s.links p x }

/-- Whether item 3 of R23 waits for a unit of a class (R23, R24, R239): a pipeline chunk, and a Bead of this module's arc, but for restore traffic. -/
def State.counts (s : State) (cls : Nat) (data : List Byte) : Bool :=
  cls == 1 || cls == 2 || cls == 5 || (cls == 3 && leAt data 3 1 != 4) ||
    (cls == 4 && leAt data 0x1D 1 == s.rf F.CHAIN_ARC_ARC_ID && leAt data 3 1 != 4)

/-- Queue a unit of a class on a port (R356), with the holder of the stripes that are free once its last byte has left. -/
def State.sendHeld (s : State) (p cls : Nat) (data : List Byte) (step : Nat) (gated : Bool) (holds : Option Owner) : State :=
  let x := s.link p
  s.setLink p { x with ready := x.ready ++ [(cls, ⟨data, step, gated, s.counts cls data, holds⟩)] }

/-- Queue a unit that holds no stripes. -/
def State.send (s : State) (p cls : Nat) (data : List Byte) (step : Nat) (gated : Bool) : State := s.sendHeld p cls data step gated none

/-- A Bead under a new STEP, HDR_CRC following (R33). -/
def restamp (u : List Byte) (step : Nat) : List Byte :=
  let h := u.take 0x2C ++ natLe step 4 ++ (u.drop 0x30).take 8
  h ++ natLe (crc32c h) 4 ++ u.drop 0x3C

/-- A control message (R364): its header and body, padded to whole 16 bytes. -/
def State.message (s : State) (ty dst step hop arc : Nat) (body : List Byte) : List Byte :=
  let b := body ++ List.replicate ((16 - body.length % 16) % 16) 0#8
  natLe ty 1 ++ natLe 0 1 ++ natLe (b.length / 16 + 1) 2 ++ natLe (s.rf F.SETUP_IDENT_MODULE_ID) 2 ++ natLe dst 2 ++
    natLe step 4 ++ natLe hop 1 ++ natLe arc 1 ++ natLe 0 2 ++ b

/-- Ports whose link is UP (R368). -/
def State.upPorts (s : State) : List Nat := (List.range 4).filter (fun p => s.rf (F.LINK_STATUS_STATE p) == 6)

/-- Send a control message of this module's own arc on a port, and count it (R372). -/
def State.sendCtrl (s : State) (p ty dst : Nat) (body : List Byte) : State :=
  let st := s.rf F.CHAIN_STEP_STEP
  (s.send p 0 (s.message ty dst st 0 (s.rf F.CHAIN_ARC_ARC_ID) body) st false).bump (F.LINK_CNT_COUNT p 11) 1

/-- Kill every task at once (R295): each aborts its engines, and each running launch completes STEP_ABORTED. -/
def State.killAll (s : State) : State :=
  let s := s.front.tasks.foldl (fun (s : State) t =>
    match s.physOf t.core with
    | some n => if t.phase == .ready then s else (s.stopEngines n).wf (F.CORE_STATE_TASK n) taskAborted
    | none => s) s
  let s := s.setTasks []
  s.front.launches.foldl (fun (s : State) l => s.completeLaunch l 0x0B) s

/-- FRONT.STATUS.STEP codes (R23, R300). -/
def stepRun : Nat := 0
def stepDrain : Nat := 1
def stepApply : Nat := 2
def stepAborted : Nat := 3
def stepHalted : Nat := 4

/-- Tasks enqueued after item 1 are discarded (R290): counted, recorded, and their launches count them down and report them. -/
def State.dropEnqueued (s : State) : State :=
  let l := s.front.enqueued.filter (·.2.2)
  let s : State := { s with front := { s.front with enqueued := [] } }
  (l.map (·.1)).eraseDups.foldl (fun (s : State) id =>
    let n := (l.filter (fun e => e.1 == id)).length
    let s := ((s.bump (F.FRONT_CNT_COUNT 5) n).raise F.FRONT_ERR_ENQ_DROPPED).event 0x0B04 srcHub id n 0 0
    s.updLaunch id (fun x => { x with live := x.live - n, enqDropped := x.enqDropped + n })) s

/-- The step aborts (R54, R79, R193, R295): STEP_ABORT is recorded with its cause as R365 numbers it, tasks die without a drain, launches complete, and
the ABORTED path of R23 begins. An abort while the step is aborted or halted changes nothing more. -/
def State.abortStep (s : State) (cause : Nat) : State :=
  if s.rf F.FRONT_STATUS_STEP = stepAborted ∨ s.rf F.FRONT_STATUS_STEP = stepHalted then s
  else
    let s := s.event 0x000C srcHub cause 0 0 0
    let s := s.dropEnqueued.killAll
    let s : State := { s with front := { s.front with undispatched := [] } }
    s.wf F.FRONT_STATUS_STEP stepAborted

/-- Send the step-abort notice with its cause on every port that is up (R79, R365), unless one has been sent or forwarded for this
attempt of the step. -/
def State.abortNotice (s : State) (cause : Nat) : State :=
  if s.chain.noticeSent then s
  else
    let s : State := { s with chain := { s.chain with noticeSent := true } }
    s.upPorts.foldl (fun (s : State) p => s.sendCtrl p 0x08 0xFFFF (natLe cause 1)) s

/-- The module raises an abort of its own (R79): it aborts the step and sends its notice. -/
def State.raiseAbort (s : State) (cause : Nat) : State := (s.abortStep cause).abortNotice cause

/-- A new attempt of a step: the notice of the last is forgotten (R79). -/
def State.freshAttempt (s : State) : State := { s with chain := { s.chain with noticeSent := false } }

end Sys2Proof.Machine
end

