-- ==== Sys2Proof/Machine/Arc.lean ====
section
/-! DEFINITION. The arc as it stands, its folds and proxies, and the control messages that travel along it (R30, R31, R41, R54 to R56,
R79, R364 to R366). -/

namespace Sys2Proof.Machine

/-! ### The shape of the arc -/

/-- The positions of this module's arc, eastward from its first (R31). -/
def State.arcPositions (s : State) : List Nat :=
  (List.range (s.rf F.CHAIN_ARC_LEN)).map (fun i => (s.rf F.CHAIN_ARC_FIRST + i) % 32)

/-- The members of the arc as it now stands: the positions of the arc but those a fold or a version removed (R41, R54). -/
def State.members (s : State) : List Nat := s.arcPositions.filter (fun p => !s.chain.out.contains p)

/-- Whether a module ID is a member of this module's arc as it stands. -/
def State.isMember (s : State) (id : Nat) : Bool :=
  id / 32 == s.rf F.SETUP_IDENT_STAGE && s.members.contains (id % 32)

/-- Whether the Setting's arc is closed and its transit was not refused (R31, R52). -/
def State.ring (s : State) : Bool := s.flag F.CHAIN_ARC_CLOSED && !s.chain.refused

/-- Whether the arc as it stands is closed: a ring that lacks no position (R55). -/
def State.closedNow (s : State) : Bool := s.ring && (s.arcPositions.all (fun p => !s.chain.out.contains p))

/-- The arc's positions in line order: a ring that lacks positions begins just east of a lacking one (R55). -/
def State.arcLine (s : State) : List Nat :=
  let a := s.arcPositions
  if s.ring then
    match a.findIdx? (fun p => s.chain.out.contains p) with
    | some k => a.drop (k + 1) ++ a.take (k + 1)
    | none => a
  else a

/-- The runs of a list between the positions that are out. -/
def runsOf (out : List Nat) : List Nat → List Nat → List (List Nat)
  | [], cur => if cur.isEmpty then [] else [cur]
  | p :: ps, cur =>
    if out.contains p then (if cur.isEmpty then runsOf out ps [] else cur :: runsOf out ps [])
    else runsOf out ps (cur ++ [p])

/-- The pieces of the arc: one, unless a line has lost an interior member (R55). -/
def State.pieces (s : State) : List (List Nat) := runsOf s.chain.out s.arcLine []

/-- This module's position. -/
def State.pos (s : State) : Nat := s.rf F.SETUP_IDENT_POS

/-- The piece that holds this module, from west to east. -/
def State.piece (s : State) : List Nat := (s.pieces.find? (fun l => l.contains s.pos)).getD []

/-- L: the members of the arc as this module sees it. -/
def State.arcLen (s : State) : Nat := s.piece.length

/-- Place of a position in the piece, from the west. -/
def State.rank (s : State) (p : Nat) : Nat := s.piece.findIdx (fun q => q == p)

/-- The position a Chain port faces (R30): 0 west, 1 east. -/
def State.faces (s : State) (port : Nat) : Nat := if port = 0 then (s.pos + 31) % 32 else (s.pos + 1) % 32

/-- The next hop of a message to a member of the arc, by the shorter path; east where both are equal (R311). -/
def State.chainPort (s : State) (pos : Nat) : Nat :=
  let l := s.arcLen
  let me := s.rank s.pos
  if s.closedNow then
    let e := (s.rank pos + l - me) % l
    if e ≤ l - e then 1 else 0
  else if me < s.rank pos then 1 else 0

/-- The Chain ports in the scope of an ARC or SPAN flood: up, enabled, and not fold ends (R364). -/
def State.arcPorts (s : State) : List Nat :=
  (List.range 2).filter (fun p => s.rf (F.LINK_STATUS_STATE p) == 6 && s.flag (F.CHAIN_CTRL_EN p) && !s.flag (F.CHAIN_STATUS_END p))

/-- The pipeline ports that are up. -/
def State.pipePorts (s : State) : List Nat := [2, 3].filter (fun p => s.rf (F.LINK_STATUS_STATE p) == 6)

/-! ### Control messages (R364) -/

/-- TYPE, SRC, DST, STEP and HOP of a message. -/
def msgType (m : List Byte) : Nat := leAt m 0 1
def msgSrc (m : List Byte) : Nat := leAt m 4 2
def msgDst (m : List Byte) : Nat := leAt m 6 2
def msgStep (m : List Byte) : Nat := leAt m 8 4
def msgHop (m : List Byte) : Nat := leAt m 12 1

/-- A message one hop on (R364). -/
def msgOn (m : List Byte) : List Byte := m.take 12 ++ natLe (msgHop m + 1) 1 ++ m.drop 13

/-- The message with an arc ID in ARC. -/
def msgArc (m : List Byte) (arc : Nat) : List Byte := m.take 13 ++ natLe arc 1 ++ m.drop 14

/-- Queue a message's bytes on a port, and count it (R372). -/
def State.sendMsg (s : State) (p cls : Nat) (m : List Byte) : State :=
  (s.send p cls m (msgStep m) false).bump (F.LINK_CNT_COUNT p 11) 1

/-- A message is dropped, counted and recorded with port and type; the Swiec event code is none (R364, R373). -/
def State.dropMsg (s : State) (p : Nat) (m : List Byte) : State :=
  (s.bump (F.LINK_CNT_COUNT p 13) 1).event 0x0F07 (srcPort p) p 0 (msgType m) 0

/-- Whether a message is dropped (R364): of another arc on a Chain port, or past 127 hops. EXCHANGE is compared outside UP whatever its
arc, since R52 has neighbours of two arcs compare their shares: DEDUCED. -/
def State.msgRefused (s : State) (p : Nat) (m : List Byte) : Bool :=
  (decide (p < 2) && leAt m 13 1 != s.rf F.CHAIN_ARC_ARC_ID && !(msgType m == 1 && s.rf (F.LINK_STATUS_STATE p) != 6)) ||
    decide (127 < msgHop m)

/-- Take the unit that a command hands in out of those the link handed on, if it is there. -/
def State.takeUnit (s : State) (p cls : Nat) (u : List Byte) : State :=
  s.setLink p { s.link p with handedOn := (s.link p).handedOn.erase (cls, u) }

/-- A control message reaches this module (R364): counted, then dropped or acted on. -/
def State.messageIn (s : State) (p : Nat) (m : List Byte) (run : State → State) : State :=
  let s := (s.takeUnit p 0 m).bump (F.LINK_CNT_COUNT p 12) 1
  if s.msgRefused p m then s.dropMsg p m else run s

/-- The port by which something leaves that arrived on a Chain port: the other one, or the same where the other is a fold end (R44,
R364). -/
def State.onward (s : State) (p : Nat) : Nat := if s.flag (F.CHAIN_STATUS_END (1 - p)) then p else 1 - p

/-- A DST message that names another module goes on (R364). -/
def State.forwardDst (s : State) (p : Nat) (m : List Byte) : State := s.sendMsg (s.onward p) 0 (msgOn m)

/-- Forward a flood on the given ports; one that came by a pipeline port takes this arc's ID on Chain ports (R364). -/
def State.forwardFlood (s : State) (p : Nat) (ports : List Nat) (m : List Byte) : State :=
  (ports.filter (fun q => q != p)).foldl (fun (s : State) q =>
    let on := msgOn m
    s.sendMsg q 0 (if 2 ≤ p ∧ q < 2 then msgArc on (s.rf F.CHAIN_ARC_ARC_ID) else on)) s

/-! ### EXCHANGE and the member's state (R366) -/

/-- The highest Swiec version a port advertises (R366, R367). -/
def State.swiecHigh (s : State) (p : Nat) : Nat :=
  let top := s.rf (F.LINK_CAP_MAJOR p) * 256 + s.rf (F.LINK_CAP_MINOR_MAX p)
  let pin := s.rf (F.LINK_CFG_PIN p)
  if pin = 0 then top else min pin top

/-- The lowest Swiec version a port advertises. -/
def State.swiecLow (s : State) (p : Nat) : Nat := s.rf (F.LINK_CAP_MAJOR p) * 256 + s.rf (F.LINK_CAP_MINOR_MIN p)

/-- The lowest and highest Bead-format versions, the highest after any pin (R40). -/
def State.beadLow (s : State) : Nat := s.rf (F.CHAIN_CAP_MAJOR 0) * 256 + s.rf (F.CHAIN_CAP_MINOR_MIN 0)
def State.beadHigh (s : State) : Nat :=
  let top := s.rf (F.CHAIN_CAP_MAJOR 0) * 256 + s.rf (F.CHAIN_CAP_MINOR_MAX 0)
  let pin := s.rf F.CHAIN_BEAD_VER_PIN
  if pin = 0 then top else min pin top

/-- Whether a Chain port of this closed arc faces out of the arc, where its closing traffic travels as transit (R31, R52). -/
def State.closingPort (s : State) (p : Nat) : Bool :=
  s.flag F.CHAIN_ARC_CLOSED && decide (p < 2) && decide (1 < s.rf F.CHAIN_ARC_LEN) && !s.arcPositions.contains (s.faces p)

/-- The transiting arc of a port: this module's own where it closes its arc there. -/
def State.transitArc (s : State) (p : Nat) : Nat :=
  if s.closingPort p then s.rf F.CHAIN_ARC_ARC_ID else Config.transitArc p % 32

/-- The body of EXCHANGE (R366). -/
def State.exchangeBody (s : State) (p : Nat) : List Byte :=
  let share := if p < 2 then s.rf (F.CHAIN_TRANSIT_SHARE p) else 0
  natLe (s.swiecLow p) 2 ++ natLe (s.swiecHigh p) 2 ++ natLe p 1 ++ natLe s.pos 1 ++ natLe (s.rf F.SETUP_IDENT_STAGE) 1 ++
    natLe (s.rf F.CHAIN_MEMBER_STATE) 1 ++ natLe s.beadLow 2 ++ natLe s.beadHigh 2 ++ natLe (s.rf F.CHAIN_ARC_ARC_ID) 1 ++
    natLe (s.rf F.CHAIN_ARC_FIRST) 1 ++ natLe (s.rf F.CHAIN_ARC_LEN) 1 ++
    natLe (s.rf F.CHAIN_ARC_CLOSED + 2 * s.rf F.CHAIN_ARC_BOTH_DIR) 1 ++ natLe (if share = 0 then 0 else s.transitArc p) 1 ++
    natLe share 1 ++ natLe 0 2 ++ natLe (s.rf F.LOCKET_FW_VERSION_VERSION) 4 ++ natLe s.locket.serial.toNat 8 ++
    natLe (s.rf (F.LINK_LANES_RX_MASK p)) 4 ++ natLe 0 12

/-- Send EXCHANGE on a port. -/
def State.sendExchange (s : State) (p : Nat) : State := s.sendCtrl p 0x01 0xFFFF (s.exchangeBody p)

/-- CHAIN.MEMBER.STATE codes (R60). -/
def memOut : Nat := 0
def memNegotiating : Nat := 1
def memMember : Nat := 2
def memJoinWait : Nat := 3
def memRestoring : Nat := 4
def memHalted : Nat := 5

/-- Set CHAIN.MEMBER.STATE; a change is reported by EXCHANGE on each Chain port that is UP (R366). -/
def State.setMember (s : State) (v : Nat) : State :=
  if s.rf F.CHAIN_MEMBER_STATE = v then s
  else
    let s := s.wf F.CHAIN_MEMBER_STATE v
    (s.upPorts.filter (fun p => decide (p < 2))).foldl State.sendExchange s

/-- STATUS.END of both ports and MEMBER.STATE follow the shape (R44, R55): a line split in two is HALTED, and one made whole is MEMBER
again. -/
def State.showArc (s : State) : State :=
  let l := s.piece
  let line := !s.closedNow && !l.isEmpty
  let s := s.wflag (F.CHAIN_STATUS_END 0) (line && l.head? == some s.pos)
  let s := s.wflag (F.CHAIN_STATUS_END 1) (line && l.getLast? == some s.pos)
  let st := s.rf F.CHAIN_MEMBER_STATE
  if st = memMember ∨ st = memHalted then s.setMember (if 1 < s.pieces.length then memHalted else memMember) else s

/-! ### A missing module (R54 to R57) -/

/-- The Cameo holder of a position (R56): the next member eastward, the west end for the east end, as the arc stood with the given
positions out. -/
def State.holderOf (s : State) (out : List Nat) (p : Nat) : Option Nat :=
  let a := s.arcPositions
  let k := a.findIdx (fun q => q == p)
  ((a.drop (k + 1) ++ a.take k).find? (fun q => !out.contains q))

/-- The Cameo holder of a lost position becomes its proxy (R56); last is the last completed step. -/
def State.takeProxy (s : State) (before : List Nat) (p last : Nat) : State :=
  if s.holderOf before p = some s.pos then
    let s := (s.wf F.CHAIN_PROXY_ACTIVE 1).wf F.CHAIN_PROXY_FOR_POS p
    let s := s.wf F.CHAIN_PROXY_STEP_CAMEO_STEP (s.rf F.HEALTH_HELD_STEP_STEP)
    s.wflag F.CHAIN_PROXY_CAMEO_CURRENT (s.flag F.HEALTH_CAMEO_STATUS_HELD_VALID && s.rf F.HEALTH_HELD_STEP_STEP == last)
  else s

/-- Positions leave the arc: the shape is derived again and proxies take over. -/
def State.lose (s : State) (lost : List Nat) (last : Nat) : State :=
  let before := s.chain.out
  let new := lost.filter (fun p => s.arcPositions.contains p && !before.contains p && p != s.pos)
  let s : State := { s with chain := { s.chain with out := before ++ new } }
  new.foldl (fun (s : State) p => s.takeProxy before p last) s.showArc

/-- The bit map of the positions that are out. -/
def State.outBits (s : State) : Nat := (s.chain.out.map (fun p => 2 ^ p)).sum

/-- Send a fold notice along the arc, away from the port that lost its neighbour (R54, R365). -/
def State.sendFold (s : State) (from0 : Nat) : State :=
  let body := natLe (s.piece.head?.getD 0) 1 ++ natLe (s.piece.getLast?.getD 0) 1 ++ natLe 0 2 ++ natLe s.outBits 4
  (s.arcPorts.filter (fun p => p != from0)).foldl (fun (s : State) p => s.sendCtrl p 0x07 0xFFFF body) s

/-- The Chain layer learns that a port's link is down (R54). A port that already faced a position folded out does nothing further, and
neither does one whose link carried no traffic of this arc. -/
def State.chainDown (s : State) (p : Nat) : State :=
  let nb := s.faces p
  let st := s.rf F.CHAIN_MEMBER_STATE
  if st ≠ memMember ∧ st ≠ memHalted then s
  else if s.arcPositions.contains nb ∧ nb ≠ s.pos ∧ !s.flag (F.CHAIN_STATUS_END p) then
    if s.chain.out.contains nb then s
    else
      let s := (s.raise (F.CHAIN_ERR_NBR_LOST p)).event 0x010A (srcPort p) nb 0 0 0
      ((s.lose [nb] (s.rf F.CHAIN_STEP_STEP - 1)).sendFold p).raiseAbort 1
  else if s.closingPort p ∧ s.closedNow then
    let s := (s.raise (F.CHAIN_ERR_NBR_LOST p)).event 0x010A (srcPort p) nb 0 0 0
    let s : State := { s with chain := { s.chain with refused := true } }
    (s.showArc.sendFold p).raiseAbort 1
  else s

/-- PIPE.STATUS.COLUMN_OUT shows the same value in both instances (R81). -/
def State.columnOut (s : State) (b : Bool) : State :=
  (s.wflag (F.PIPE_STATUS_COLUMN_OUT 0) b).wflag (F.PIPE_STATUS_COLUMN_OUT 1) b

/-- The enable of a pipeline port. -/
def pipeEn (p : Nat) : Fld := if p = 2 then F.PIPE_CTRL_EN_UP else F.PIPE_CTRL_EN_DN

/-- The pipeline layer learns that an enabled port's link is down (R79). -/
def State.pipeDown (s : State) (p : Nat) : State :=
  if s.flag (pipeEn p) || s.pipe.planned.contains p then
    let s := (s.raise F.PIPE_ERR_NBR_LOST).event 0x0208 (srcPort p) p 0 0 0
    (s.columnOut true).raiseAbort 2
  else s

/-- FOLD_NOTICE (R54, R364): every member forwards it along the arc, takes the lost positions and derives its shape again. A notice that names no lost position
tells of a refused transit (R52). It does not abort the step itself: a fold of R54 aborts it by the step-abort notice that its sender floods with it, on the
path of R79, and a planned fold (R57) sends none. DEDUCED. -/
def execFoldNotice (p : Nat) (m : List Byte) (s : State) : Res :=
  .next (s.messageIn p m (fun s =>
    let s := s.forwardFlood p s.arcPorts m
    let lost := (List.range 32).filter (fun q => bit (leAt m 0x14 4) q)
    let step := s.rf F.FRONT_STATUS_STEP
    let s : State := if lost.isEmpty then { s with chain := { s.chain with refused := true } } else s
    (s.lose lost (if step = stepRun then s.rf F.CHAIN_STEP_STEP - 1 else s.rf F.CHAIN_STEP_STEP)).showArc))

/-- STEP_ABORT (R79): a notice for the current step aborts it and goes on once; every other is dropped. -/
def execStepAbort (p : Nat) (m : List Byte) (s : State) : Res :=
  .next (s.messageIn p m (fun s =>
    if msgStep m ≠ s.rf F.CHAIN_STEP_STEP ∨ s.chain.noticeSent then s
    else
      let c := leAt m 0x10 1
      let s : State := { s with chain := { s.chain with noticeSent := true } }
      (s.forwardFlood p s.upPorts m).abortStep (if 1 ≤ c ∧ c ≤ 6 then c else 0)))

end Sys2Proof.Machine
end

