-- ==== Sys2Proof/Machine/Num.lean ====
section
/-! DEFINITION. Exact numbers and their rounding: floating-point formats, the two roundings, FP32 arithmetic, and the correctly rounded
functions of the transcendental path (R85 to R87, R95, R100, R146). -/

namespace Sys2Proof.Machine

/-- A number that a code stands for: NaN, an infinity, a signed zero, or a non-zero dyadic (-1)^neg * m * 2^e. -/
inductive Num where
  | nan
  | inf (neg : Bool)
  | zero (neg : Bool)
  | fin (neg : Bool) (m : Nat) (e : Int)
  deriving DecidableEq, Repr

/-- x * 2^k where k is not negative, x / 2^-k rounded down where it is. -/
def shiftZ (x : Nat) (k : Int) : Nat := if 0 ≤ k then x * 2 ^ k.toNat else x / 2 ^ (-k).toNat

/-- m * 2^e with its sign; zero where m is 0. -/
def mkNum (neg : Bool) (m : Nat) (e : Int) : Num := if m = 0 then .zero neg else .fin neg m e

namespace Num

/-- Scale by a power of two. -/
def scale (x : Num) (k : Int) : Num := match x with | .fin s m e => .fin s m (e + k) | y => y

/-- Change the sign. -/
def neg (x : Num) : Num :=
  match x with | .nan => .nan | .inf s => .inf !s | .zero s => .zero !s | .fin s m e => .fin (!s) m e

/-- The magnitude. -/
def abs (x : Num) : Num :=
  match x with | .nan => .nan | .inf _ => .inf false | .zero _ => .zero false | .fin _ m e => .fin false m e

/-- The sign bit; a NaN has none. -/
def isNeg (x : Num) : Bool := match x with | .nan => false | .inf s => s | .zero s => s | .fin s _ _ => s

/-- Whether the number is finite. -/
def finite (x : Num) : Bool := match x with | .nan => false | .inf _ => false | _ => true

/-- The integer that a finite number is in units of 2^e. -/
def units (x : Num) (e : Int) : Int :=
  match x with
  | .fin s m k => let v := ((shiftZ m (k - e) : Nat) : Int); if s then -v else v
  | _ => 0

/-- The exponent of the unit of a number. -/
def unit (x : Num) : Int := match x with | .fin _ _ e => e | _ => 0

/-- The exact product (R87). -/
def mul (x y : Num) : Num :=
  match x, y with
  | .nan, _ => .nan
  | _, .nan => .nan
  | .inf _, .zero _ => .nan
  | .zero _, .inf _ => .nan
  | .inf a, y => .inf (a != y.isNeg)
  | x, .inf b => .inf (x.isNeg != b)
  | .zero a, y => .zero (a != y.isNeg)
  | x, .zero b => .zero (x.isNeg != b)
  | .fin a m e, .fin b n f => .fin (a != b) (m * n) (e + f)

/-- A signed integer in units of 2^e. -/
def ofInt (v e : Int) : Num := if v = 0 then .zero false else .fin (decide (v < 0)) v.natAbs e

/-- The exact sum (R87): zeros of one sign keep it, any other zero sum is +0. -/
def add (x y : Num) : Num :=
  match x, y with
  | .nan, _ => .nan
  | _, .nan => .nan
  | .inf a, .inf b => if a = b then .inf a else .nan
  | .inf a, _ => .inf a
  | _, .inf b => .inf b
  | .zero a, .zero b => .zero (a && b)
  | .zero _, y => y
  | x, .zero _ => x
  | x, y => let e := min x.unit y.unit; ofInt (x.units e + y.units e) e

/-- The floor of log2 of a non-zero magnitude. -/
def log2 (x : Num) : Int := match x with | .fin _ m e => (Nat.log2 m : Int) + e | _ => 0

/-- Whether x < y, for numbers that are not NaN. -/
def lt (x y : Num) : Bool :=
  match x, y with
  | .nan, _ => false
  | _, .nan => false
  | .inf a, .inf b => a && !b
  | .inf a, _ => a
  | _, .inf b => !b
  | x, y => let e := min x.unit y.unit; decide (x.units e < y.units e)

/-- Whether the number is zero. -/
def isZero (x : Num) : Bool := match x with | .zero _ => true | _ => false

end Num

/-! ### Rounding to a grid (R95) -/

/-- The rounding of a conversion: to nearest even, or stochastic with the 24-bit number x. -/
inductive Rnd where
  | nearest
  | stochastic (x : Nat)
  deriving DecidableEq, Repr

/-- Round n / d to an integer. -/
def roundQ (r : Rnd) (neg : Bool) (n d : Nat) : Nat :=
  let k := n / d
  let rem := n % d
  if rem = 0 then k
  else match r with
    | .nearest => if d < 2 * rem ∨ (2 * rem = d ∧ k % 2 = 1) then k + 1 else k
    | .stochastic x =>
      let part := if neg then d - rem else rem
      let toB := decide (x < part * 2 ^ 24 / d)
      if neg then (if toB then k else k + 1) else (if toB then k + 1 else k)

/-- Round m * 2^e to a whole number of units of 2^q. -/
def roundUnits (r : Rnd) (neg : Bool) (m : Nat) (e q : Int) : Nat :=
  if q ≤ e then roundQ r neg (m * 2 ^ (e - q).toNat) 1 else roundQ r neg m (2 ^ (q - e).toNat)

/-- Round m * 2^e / n to an integer. -/
def roundRatio (r : Rnd) (neg : Bool) (m : Nat) (e : Int) (n : Nat) : Nat :=
  if 0 ≤ e then roundQ r neg (m * 2 ^ e.toNat) n else roundQ r neg m (n * 2 ^ (-e).toNat)

/-! ### Floating-point formats (R85) -/

/-- A floating-point format: exponent and mantissa bits, bias, largest finite code, and whether the top exponent holds infinities and
NaNs. -/
structure Fp where
  eb : Nat
  mb : Nat
  bias : Nat
  top : Nat
  ieee : Bool
  nan : Option Nat
  deriving DecidableEq, Repr

def fpF32 : Fp := ⟨8, 23, 127, 0x7F7FFFFF, true, some 0x7FC00000⟩
def fpBf16 : Fp := ⟨8, 7, 127, 0x7F7F, true, some 0x7FC0⟩
def fpF16 : Fp := ⟨5, 10, 15, 0x7BFF, true, some 0x7E00⟩
def fpE4m3 : Fp := ⟨4, 3, 7, 0x7E, false, some 0x7F⟩
def fpE5m2 : Fp := ⟨5, 2, 15, 0x7B, true, some 0x7E⟩
def fpE3m2 : Fp := ⟨3, 2, 3, 0x1F, false, none⟩
def fpE2m3 : Fp := ⟨2, 3, 1, 0x1F, false, none⟩
def fpE2m1 : Fp := ⟨2, 1, 1, 0x7, false, none⟩
def fpF64 : Fp := ⟨11, 52, 1023, 0x7FEFFFFFFFFFFFFF, true, some 0x7FF8000000000000⟩

/-- The exponent of the subnormal unit. -/
def Fp.qmin (f : Fp) : Int := 1 - (f.bias : Int) - f.mb

/-- The number that a code stands for (R85). -/
def Fp.decode (f : Fp) (c : Nat) : Num :=
  let s := bit c (f.eb + f.mb)
  let e := bits c f.mb f.eb
  let m := bits c 0 f.mb
  if f.ieee ∧ e = 2 ^ f.eb - 1 then (if m = 0 then .inf s else .nan)
  else if f.nan = some (c % 2 ^ (f.eb + f.mb)) then .nan
  else if e = 0 then mkNum s m f.qmin
  else .fin s (2 ^ f.mb + m) ((e : Int) - f.bias - f.mb)

/-- The code of k units of 2^q, where k holds at most mb + 1 bits or is exactly 2^(mb + 1); it may exceed the largest finite code. -/
def Fp.pack (f : Fp) (k : Nat) (q : Int) : Nat :=
  if k < 2 ^ f.mb then k
  else ((q - f.qmin).toNat + 1) * 2 ^ f.mb + (k - 2 ^ f.mb)

/-- Round a non-zero magnitude to the format's grid: its code without the sign, which exceeds the largest finite code on overflow. -/
def Fp.roundMag (f : Fp) (r : Rnd) (neg : Bool) (m : Nat) (e : Int) : Nat :=
  let q := max ((Nat.log2 m : Int) + e - f.mb) f.qmin
  let k := roundUnits r neg m e q
  if k = 2 ^ (f.mb + 1) then f.pack (2 ^ f.mb) (q + 1) else f.pack k q

/-- The sign bit of a format. -/
def Fp.signBit (f : Fp) (neg : Bool) : Nat := if neg then 2 ^ (f.eb + f.mb) else 0

/-- Infinity's code. -/
def Fp.infCode (f : Fp) : Nat := (2 ^ f.eb - 1) * 2 ^ f.mb

/-! ### FP32 arithmetic (R87, R100) -/

/-- The number of an FP32 word. -/
def f32 (w : Word) : Num := fpF32.decode w.toNat

/-- A number rounded to FP32 by round to nearest even: overflow gives an infinity, every NaN is the canonical one. -/
def toF32 (x : Num) : Word :=
  match x with
  | .nan => 0x7FC00000
  | .inf s => BitVec.ofNat 32 (fpF32.infCode + fpF32.signBit s)
  | .zero s => BitVec.ofNat 32 (fpF32.signBit s)
  | .fin s m e =>
    let c := fpF32.roundMag .nearest s m e
    BitVec.ofNat 32 ((if fpF32.top < c then fpF32.infCode else c) + fpF32.signBit s)

/-- A number rounded to FP64 bits. -/
def toF64 (x : Num) : Nat :=
  match x with
  | .nan => 0x7FF8000000000000
  | .inf s => fpF64.infCode + fpF64.signBit s
  | .zero s => fpF64.signBit s
  | .fin s m e =>
    let c := fpF64.roundMag .nearest s m e
    (if fpF64.top < c then fpF64.infCode else c) + fpF64.signBit s

def fAdd (a b : Word) : Word := toF32 ((f32 a).add (f32 b))
def fSub (a b : Word) : Word := toF32 ((f32 a).add (f32 b).neg)
def fMul (a b : Word) : Word := toF32 ((f32 a).mul (f32 b))
def fFma (a b c : Word) : Word := toF32 (((f32 a).mul (f32 b)).add (f32 c))
def fNeg (a : Word) : Word := a ^^^ 0x80000000
def fAbs (a : Word) : Word := a &&& 0x7FFFFFFF
def f32Zero : Word := 0
def f32One : Word := 0x3F800000
def f32Nan : Word := 0x7FC00000

/-- The quotient of two positive dyadics as a dyadic of at least k bits with its lowest bit set where it is not exact: it rounds as the exact
quotient does. -/
def divDy (k m : Nat) (e : Int) (n : Nat) (f : Int) : Nat × Int :=
  let sh := k + Nat.log2 n + 1
  let q := m * 2 ^ sh / n
  let r := m * 2 ^ sh % n
  (2 * q + (if r = 0 then 0 else 1), e - f - sh - 1)

/-- The exact quotient of two numbers, ready to be rounded to FP32 or FP64 (R87). -/
def Num.div (x y : Num) : Num :=
  match x, y with
  | .nan, _ => .nan
  | _, .nan => .nan
  | .inf _, .inf _ => .nan
  | .zero _, .zero _ => .nan
  | .inf a, y => .inf (a != y.isNeg)
  | x, .inf b => .zero (x.isNeg != b)
  | .zero a, y => .zero (a != y.isNeg)
  | x, .zero b => .inf (x.isNeg != b)
  | .fin a m e, .fin b n f => let d := divDy 120 m e n f; .fin (a != b) d.1 d.2

/-- The square root of a positive dyadic, its lowest bit set where it is not exact. -/
def sqrtDy (m : Nat) (e : Int) : Nat × Int :=
  let (m, e) := if e % 2 = 0 then (m, e) else (2 * m, e - 1)
  let n := m * 2 ^ 240
  let r := Nat.sqrt n
  (2 * r + (if r * r = n then 0 else 1), e / 2 - 121)

/-- The square root of a number (R146). -/
def Num.sqrt (x : Num) : Num :=
  match x with
  | .nan => .nan
  | .zero s => .zero s
  | .inf s => if s then .nan else .inf false
  | .fin s m e => if s then .nan else let d := sqrtDy m e; .fin false d.1 d.2

/-- 1 / sqrt x (R146). -/
def Num.rsqrt (x : Num) : Num :=
  match x with
  | .nan => .nan
  | .zero s => .inf s
  | .inf s => if s then .nan else .zero false
  | .fin s m e =>
    if s then .nan
    else
      let (m, e) := if e % 2 = 0 then (m, e) else (2 * m, e - 1)
      let n := 2 ^ (2 * Nat.log2 m + 240)
      let r := Nat.sqrt (n / m)
      .fin false (2 * r + (if r * r * m = n then 0 else 1)) (-(e / 2) - (Nat.log2 m + 120) - 1)

/-! ### Fixed-point series for the transcendental path (R146)

A value is an integer in units of 2^-P. P leaves several hundred bits beyond the smallest FP32 result, more than the hardest case
of FP32 needs, so that rounding the approximation is rounding the exact value. -/

/-- The fixed point: 768 bits after the point. -/
def fxP : Nat := 768
def fxOne : Int := 2 ^ fxP
def fxMul (a b : Int) : Int := a * b / fxOne
def fxDiv (a b : Int) : Int := a * fxOne / b

/-- Sum of a series: each term comes from the last by a factor and a divisor. -/
def fxSeries (step : Int → Nat → Int) : Nat → Nat → Int → Int
  | 0, _, _ => 0
  | k + 1, n, t => t + fxSeries step k (n + 1) (step t n)

/-- e^r for a small r. -/
def fxExpSmall (r : Int) : Int := fxSeries (fun t n => fxMul t r / ((n : Int) + 1)) 160 0 fxOne

/-- atanh z for |z| up to 1/3. -/
def fxAtanh (z : Int) : Int :=
  let z2 := fxMul z z
  let rec go : Nat → Nat → Int → Int
    | 0, _, _ => 0
    | k + 1, n, p => p / (2 * (n : Int) + 1) + go k (n + 1) (fxMul p z2)
  go 260 0 z

/-- ln 2. -/
def fxLn2 : Int := 2 * fxAtanh (fxOne / 3)

/-- arctan of 1/n. -/
def fxAtanInv (n : Int) : Int :=
  let rec go : Nat → Nat → Int → Int
    | 0, _, _ => 0
    | k + 1, i, p => (if i % 2 = 0 then p else -p) / (2 * (i : Int) + 1) + go k (i + 1) (p / (n * n))
  go 360 0 (fxOne / n)

/-- pi, by Machin's formula. -/
def fxPi : Int := 4 * (4 * fxAtanInv 5 - fxAtanInv 239)

/-- A number as a fixed-point integer, rounded down. -/
def Num.fx (x : Num) : Int :=
  match x with
  | .fin s m e => let v := ((shiftZ m (e + fxP) : Nat) : Int); if s then -v else v
  | _ => 0

/-- A fixed-point value times 2^n as a number that is not exact. -/
def fxNum (v : Int) (n : Int) : Num :=
  if v = 0 then .zero false else .fin (decide (v < 0)) (2 * v.natAbs + 1) (n - fxP - 1)

/-- 2^y for a fixed-point y of moderate size: a fixed-point value in [1, 2) or so, and the power of two. -/
def fxExp2 (y : Int) : Int × Int := (fxExpSmall (fxMul (y % fxOne) fxLn2), y / fxOne)

/-- e^x as a fixed-point value and a power of two. -/
def fxExp (x : Int) : Int × Int := (fxExpSmall (x % fxLn2), x / fxLn2)

/-- The magnitude at which every exponential has over- or underflowed. -/
def expLimit : Num := .fin false 1 10

/-- ln m * 2^e for a positive dyadic. -/
def fxLn (m : Nat) (e : Int) : Int :=
  let k := Nat.log2 m
  let y : Int := ((shiftZ m ((fxP : Int) - k) : Nat) : Int)
  2 * fxAtanh (fxDiv (y - fxOne) (y + fxOne)) + ((k : Int) + e) * fxLn2

/-- A tiny non-zero number: it rounds to zero with its sign. -/
def tiny (neg : Bool) : Num := .fin neg 1 (-2000)

/-- An overflow: it rounds to infinity. -/
def huge (neg : Bool) : Num := .fin neg 1 2000

/-- 2^x. -/
def Num.exp2 (x : Num) : Num :=
  match x with
  | .nan => .nan
  | .inf s => if s then .zero false else .inf false
  | .zero _ => .fin false 1 0
  | .fin s _ e =>
    if expLimit.lt x.abs then (if s then tiny false else huge false)
    else if 0 ≤ e ∨ x.fx % fxOne = 0 ∧ -(fxP : Int) ≤ e then .fin false 1 (x.fx / fxOne)
    else let (v, n) := fxExp2 x.fx; fxNum v n

/-- e^x. -/
def Num.exp (x : Num) : Num :=
  match x with
  | .nan => .nan
  | .inf s => if s then .zero false else .inf false
  | .zero _ => .fin false 1 0
  | .fin s _ _ => if expLimit.lt x.abs then (if s then tiny false else huge false) else let (v, n) := fxExp x.fx; fxNum v n

/-- ln x. -/
def Num.ln (x : Num) : Num :=
  match x with
  | .nan => .nan
  | .zero _ => .inf true
  | .inf s => if s then .nan else .inf false
  | .fin s m e => if s then .nan else if m = 2 ^ Nat.log2 m ∧ (Nat.log2 m : Int) + e = 0 then .zero false else fxNum (fxLn m e) 0

/-- log2 x. -/
def Num.lg (x : Num) : Num :=
  match x with
  | .nan => .nan
  | .zero _ => .inf true
  | .inf s => if s then .nan else .inf false
  | .fin s m e =>
    if s then .nan
    else if m = 2 ^ Nat.log2 m then Num.ofInt ((Nat.log2 m : Int) + e) 0
    else fxNum (fxDiv (fxLn m e) fxLn2) 0

/-- e^x / (1 + e^x) as a number, for a finite x of moderate size, times another. -/
def sigTimes (x : Num) (by0 : Num) : Num :=
  let (v, n) := fxExp x.fx
  let e := fxNum v n
  let one := Num.fin false 1 0
  (by0.mul e).div (one.add e)

/-- 1 / (1 + e^-x). -/
def Num.sigmoid (x : Num) : Num :=
  match x with
  | .nan => .nan
  | .inf s => if s then .zero false else .fin false 1 0
  | .zero _ => .fin false 1 (-1)
  | .fin s _ _ => if expLimit.lt x.abs then (if s then tiny false else .fin false 1 0) else sigTimes x (.fin false 1 0)

/-- x / (1 + e^-x). -/
def Num.silu (x : Num) : Num :=
  match x with
  | .nan => .nan
  | .inf s => if s then .zero true else .inf false
  | .zero s => .zero s
  | .fin s _ _ => if expLimit.lt x.abs then (if s then tiny true else x) else sigTimes x x

/-- tanh x. -/
def Num.tanh (x : Num) : Num :=
  match x with
  | .nan => .nan
  | .inf s => .fin s 1 0
  | .zero s => .zero s
  | .fin s _ _ =>
    if expLimit.lt x.abs then .fin s 1 0
    else
      let (v, n) := fxExp (2 * x.fx)
      let e := fxNum v n
      let one := Num.fin false 1 0
      (e.add (one.neg)).div (e.add one)

/-- sqrt (2 pi). -/
def fxSqrt2Pi : Int := ((Nat.sqrt (2 * fxPi * fxOne).toNat : Nat) : Int)

/-- The normal distribution function at a fixed-point y not below 0: 1/2 + phi(y) (y + y^3/3 + y^5/15 + ...). -/
def fxPhi (y : Int) : Int :=
  let y2 := fxMul y y
  let sum := fxSeries (fun t n => fxMul t y2 / (2 * (n : Int) + 3)) 1200 0 y
  let (v, n) := fxExp (-(y2 / 2))
  let dens := fxDiv (v / 2 ^ (-n).toNat) fxSqrt2Pi
  fxOne / 2 + fxMul dens sum

/-- x * Phi(x). -/
def Num.gelu (x : Num) : Num :=
  match x with
  | .nan => .nan
  | .inf s => if s then .zero true else .inf false
  | .zero s => .zero s
  | .fin s _ _ =>
    if (Num.fin false 1 4).lt x.abs then (if s then tiny true else x)
    else
      let p := fxPhi x.abs.fx
      x.mul (fxNum (if s then fxOne - p else p) 0)

/-- sin r for a fixed-point r. -/
def fxSin (r : Int) : Int :=
  let r2 := fxMul r r
  fxSeries (fun t n => -(fxMul t r2) / ((2 * (n : Int) + 2) * (2 * n + 3))) 120 0 r

/-- cos r for a fixed-point r. -/
def fxCos (r : Int) : Int :=
  let r2 := fxMul r r
  fxSeries (fun t n => -(fxMul t r2) / ((2 * (n : Int) + 1) * (2 * n + 2))) 120 0 fxOne

/-- sin of x plus k quarter turns. -/
def trig (x : Num) (k : Int) : Num :=
  let half := fxPi / 2
  let y := x.fx
  let q := y / half
  let r := y - q * half
  match ((q + k) % 4).toNat with
  | 0 => fxNum (fxSin r) 0
  | 1 => fxNum (fxCos r) 0
  | 2 => fxNum (-(fxSin r)) 0
  | _ => fxNum (-(fxCos r)) 0

/-- sin x. -/
def Num.sin (x : Num) : Num :=
  match x with
  | .nan => .nan
  | .inf _ => .nan
  | .zero s => .zero s
  | x => trig x 0

/-- cos x. -/
def Num.cos (x : Num) : Num :=
  match x with
  | .nan => .nan
  | .inf _ => .nan
  | .zero _ => .fin false 1 0
  | x => trig x 1

end Sys2Proof.Machine
end

