-- ==== Sys2Proof/Machine/Elem.lean ====
section
/-! DEFINITION. Element formats: codes in memory, values, conversions and block encoders, and the Glint generator (R82 to R84, R89 to R105). -/

namespace Sys2Proof.Machine

/-! ### The Glint generator (R101 to R103) -/

/-- One loop pass of the generator. -/
def glintPass (k0 k1 : Word) (n : Nat) (x : Word × Word × Word × Word) : Word × Word × Word × Word :=
  let (x0, x1, x2, x3) := x
  let key := if n % 2 = 0 then k0 else k1
  let x0 := x0 + x1 + key + BitVec.ofNat 32 (n * 0x9E3779B9)
  let x3 := (x3 ^^^ x0).rotateLeft 11
  let x2 := x2 + x3
  let x1 := (x1 ^^^ x2).rotateLeft 19
  (x0, x1, x2, x3)

/-- The Glint word (R102). -/
def glint (seed : BitVec 64) (stream : BitVec 16) (tensor : Word) (index : Nat) (step : Word) (purpose : Nat) : Word :=
  let k0 : Word := BitVec.ofNat 32 seed.toNat
  let k1 : Word := BitVec.ofNat 32 (seed.toNat / 2 ^ 32)
  let x1 : Word := BitVec.ofNat 32 (index / 2 ^ 32 % 256 + 256 * (purpose % 256) + 2 ^ 16 * stream.toNat)
  let x := (List.range 6).foldl (fun a n => glintPass k0 k1 n a) (BitVec.ofNat 32 index, x1, tensor, step)
  x.2.1 + x.2.2.2

/-- The 24-bit number x of a Glint word (R95). -/
def glintX (w : Word) : Nat := w.toNat / 256

/-! ### Formats (R82) -/

/-- Bits of an element; T2 packs five values in a byte and has none. -/
def elemBits (f : Nat) : Nat := nth [32, 16, 16, 8, 8, 8, 8, 6, 6, 4, 4, 3, 0, 4] f 0

/-- Whether a code is assigned. -/
def fmtOk (f : Nat) : Bool := decide (f ≤ 0x0D)

/-- Elements of a block; 0 for formats without blocks. -/
def blockLen (f : Nat) : Nat := if (5 ≤ f ∧ f ≤ 9) ∨ f = 0x0B then 32 else if f = 0x0C then 64 else 0

/-- Bytes of a scale record (R84). -/
def recBytes (f : Nat) : Nat := if f = 0x0B then 3 else if f = 0x0C then 2 else if blockLen f = 0 then 0 else 1

/-- Bytes of the element area of n elements (R84). -/
def areaBytes (f n : Nat) : Nat := if f = 0x0C then ceilDiv n 5 else ceilDiv (n * elemBits f) 8

/-- Where the scale records lie (R84, R108). -/
def scaleOff (f n : Nat) : Nat := roundUp (areaBytes f n) 32

/-- Blocks of n elements. -/
def blocksOf (f n : Nat) : Nat := if blockLen f = 0 then 0 else ceilDiv n (blockLen f)

/-- Bytes of a whole tensor of n elements: its element area, and its scale records after it. -/
def tensorBytes (f n : Nat) : Nat := if blockLen f = 0 then areaBytes f n else scaleOff f n + blocksOf f n * recBytes f

/-- The floating-point layout of a format's elements. -/
def elemFp (f : Nat) : Option Fp :=
  match f with
  | 0 => some fpF32 | 1 => some fpBf16 | 2 => some fpF16 | 3 => some fpE4m3 | 4 => some fpE5m2 | 5 => some fpE4m3 | 6 => some fpE5m2
  | 7 => some fpE3m2 | 8 => some fpE2m3 | 9 => some fpE2m1 | 0x0D => some fpE2m1 | _ => none

/-- The code of element i of a packed array, read through a byte function (R83, R91). A T2 byte above 242 is five zeros. -/
def codeAt (get : Nat → Byte) (f i : Nat) : Nat :=
  if f = 0x0C then
    let b := (get (i / 5)).toNat
    if 242 < b then 1 else b / 3 ^ (i % 5) % 3
  else
    let w := elemBits f
    let o := w * i
    (leNat ((List.range 5).map (fun k => get (o / 8 + k)))) / 2 ^ (o % 8) % 2 ^ w

/-- Whether element i of a T2 array lies in an invalid byte (R91). -/
def t2Invalid (get : Nat → Byte) (i : Nat) : Bool := decide (242 < (get (i / 5)).toNat)

/-- The value of a code under its scale record and the exponent k (R88 to R92); j is the element's place in its block. -/
def codeValue (f code rec0 j : Nat) (k : Int) : Num :=
  match elemFp f with
  | some fp =>
    if blockLen f = 0 then (fp.decode code).scale k
    else if rec0 = 255 then .nan
    else (fp.decode code).scale ((rec0 : Int) - 127 + k)
  | none =>
    if f = 0x0A then Num.ofInt (if code < 8 then (code : Int) else (code : Int) - 16) k
    else if f = 0x0B then
      let c := rec0 % 256
      let sub := bits rec0 (8 + 4 * (j / 8)) 4
      let q : Int := if code < 4 then (code : Int) else (code : Int) - 8
      if c = 255 then .nan else Num.ofInt (q * (16 + sub)) ((c : Int) - 127 - 4 + k)
    else ((Num.ofInt ((code : Int) - 1) 0).mul (fpBf16.decode rec0)).scale k

/-- The value of element i of a tensor of n elements read through a byte function (R84, R92). -/
def tensorValue (get : Nat → Byte) (f n : Nat) (k : Int) (i : Nat) : Num :=
  let bl := blockLen f
  let rec0 := if bl = 0 then 0 else leNat ((List.range (recBytes f)).map (fun j => get (scaleOff f n + i / bl * recBytes f + j)))
  codeValue f (codeAt get f i) rec0 (if bl = 0 then 0 else i % bl) k

/-! ### Conversions (R94 to R96) -/

/-- What a conversion counts (R109): overflows and clamps, underflows to zero, non-finite inputs, blocks with a scale too high or too low,
blocks given a NaN scale. -/
structure Tally where
  ovf : Nat
  unf : Nat
  nf : Nat
  scHi : Nat
  scLo : Nat
  nanScale : Nat
  deriving DecidableEq, Repr

def Tally.zero : Tally := ⟨0, 0, 0, 0, 0, 0⟩
def Tally.add (a b : Tally) : Tally := ⟨a.ovf + b.ovf, a.unf + b.unf, a.nf + b.nf, a.scHi + b.scHi, a.scLo + b.scLo, a.nanScale + b.nanScale⟩

/-- Convert one number to a format without blocks: its code and what it counts. -/
def convert (f : Nat) (sat : Bool) (r : Rnd) (x : Num) : Nat × Tally :=
  match elemFp f with
  | none =>
    match x with
    | .zero _ => (0, .zero)
    | .fin s m e =>
      let k := roundUnits r s m e 0
      let v := min k 7
      (if s then (16 - v) % 16 else v, ⟨if 7 < k then 1 else 0, if k = 0 then 1 else 0, 0, 0, 0, 0⟩)
    | _ => (0, ⟨0, 0, 1, 0, 0, 0⟩)
  | some fp =>
    match x with
    | .zero s => (fp.signBit s, .zero)
    | .nan => (fp.nan.getD 0, ⟨0, 0, 1, 0, 0, 0⟩)
    | .inf s => ((if fp.ieee then fp.infCode + fp.signBit s else fp.nan.getD 0), ⟨0, 0, 1, 0, 0, 0⟩)
    | .fin s m e =>
      let c := fp.roundMag r s m e
      if fp.top < c then
        ((if f = 0 then fp.infCode + fp.signBit s
          else if sat ∨ fp.nan.isNone then fp.top + fp.signBit s
          else if fp.ieee then fp.infCode + fp.signBit s
          else fp.nan.getD 0), ⟨1, 0, 0, 0, 0, 0⟩)
      else (c + fp.signBit s, ⟨0, if c = 0 then 1 else 0, 0, 0, 0, 0⟩)

/-- An element widened to FP32 (R93): beyond the FP32 range it becomes infinity, below it a subnormal or zero. -/
def widen (x : Num) : Num := f32 (toF32 x)

/-- What a widening counts (R93, R109): an overflow where a finite value becomes infinite, an underflow where a non-zero one becomes zero. -/
def widenTally (xs : List Num) : Tally :=
  ⟨(xs.filter (fun x => x.finite && !(widen x).finite)).length, (xs.filter (fun x => x.finite && !x.isZero && (widen x).isZero)).length, 0, 0, 0, 0⟩

/-- emax of an MX element format (R97). -/
def emaxOf (f : Nat) : Int := if f = 5 then 8 else if f = 6 then 15 else if f = 7 then 4 else 2

/-- The largest magnitude of a list, as a number. -/
def amaxOf (l : List Num) : Num := l.foldl (fun a x => if a.lt x.abs then x.abs else a) (.zero false)

/-- Encode an MX block (R97): scale, codes. -/
def encodeMx (f : Nat) (r : Nat → Rnd) (x : List Num) : Nat × List Nat × Tally :=
  let fp := (elemFp f).getD fpE2m1
  let nf := (x.filter (fun v => !v.finite)).length
  if nf ≠ 0 then (0xFF, x.map (fun _ => 0), ⟨0, 0, nf, 0, 0, 1⟩)
  else
    let a := amaxOf x
    if a.isZero then (0x7F, x.map (fun _ => 0), .zero)
    else
      let c := a.log2 - emaxOf f + 127
      let cc := min 254 (max 0 c)
      let one := fun (v : Num) (i : Nat) =>
        match v with
        | .fin s m e =>
          let k := fp.roundMag (r i) s m (e - (cc - 127))
          (min k fp.top + fp.signBit s, if fp.top < k then 1 else 0, if k = 0 then 1 else 0)
        | .zero s => (fp.signBit s, 0, 0)
        | _ => (0, 0, 0)
      let out := (x.zip (List.range x.length)).map (fun p => one p.1 p.2)
      (cc.toNat, out.map (·.1), ⟨(out.map (·.2.1)).sum, (out.map (·.2.2)).sum, 0, if 254 < c then 1 else 0, if c < 0 then 1 else 0, 0⟩)

/-- x / (n * 2^f) rounded to an integer and clamped to m: the signed value, whether it was clamped, whether it vanished. -/
def roundBy (r : Rnd) (x : Num) (n : Nat) (f : Int) (m : Nat) : Int × Nat × Nat :=
  match x with
  | .fin s k e =>
    let q := roundRatio r s k (e - f) n
    let v : Int := ((min q m : Nat) : Int)
    (if s then -v else v, if m < q then 1 else 0, if q = 0 then 1 else 0)
  | _ => (0, 0, 0)

/-- Encode a Q3 block (R98): the 24-bit scale record, codes. -/
def encodeQ3 (r : Nat → Rnd) (x : List Num) : Nat × List Nat × Tally :=
  let nf := (x.filter (fun v => !v.finite)).length
  if nf ≠ 0 then (0xFF, x.map (fun _ => 0), ⟨0, 0, nf, 0, 0, 1⟩)
  else
    let a := amaxOf x
    if a.isZero then (0x7F, x.map (fun _ => 0), .zero)
    else
      let e : Int := max (a.log2 - 1) (-127)
      let sub := fun g =>
        let gm := amaxOf ((x.drop (8 * g)).take 8)
        ((List.range 16).find? (fun s => !(Num.fin false (3 * (16 + s)) (e - 4)).lt gm)).getD 15
      let subs := (List.range 4).map sub
      let out := (x.zip (List.range x.length)).map (fun p => roundBy (r p.2) p.1 (16 + nth subs (p.2 / 8) 0) (e - 4) 3)
      let rec0 := (e + 127).toNat + 2 ^ 8 * nth subs 0 0 + 2 ^ 12 * nth subs 1 0 + 2 ^ 16 * nth subs 2 0 + 2 ^ 20 * nth subs 3 0
      (rec0, out.map (fun o => (o.1 % 8).toNat), ⟨(out.map (·.2.1)).sum, (out.map (·.2.2)).sum, 0, 0, if a.log2 - 1 < -127 then 1 else 0, 0⟩)

/-- Encode a T2 block (R99): the BF16 scale, digits. -/
def encodeT2 (r : Nat → Rnd) (x : List Num) : Nat × List Nat × Tally :=
  let nf := (x.filter (fun v => !v.finite)).length
  if nf ≠ 0 then (0x7FC0, x.map (fun _ => 1), ⟨0, 0, nf, 0, 0, 1⟩)
  else
    let acc := x.foldl (fun a v => toF32 ((f32 a).add (v.abs.scale (-6)))) f32Zero
    let (sc, t) := convert 1 true .nearest (f32 acc)
    match fpBf16.decode sc with
    | .fin _ n f =>
      let out := (x.zip (List.range x.length)).map (fun p => roundBy (r p.2) p.1 n f 1)
      (sc, out.map (fun o => (o.1 + 1).toNat), ⟨(out.map (·.2.1)).sum, (out.map (·.2.2)).sum, 0, t.ovf, 0, 0⟩)
    | _ => (sc, x.map (fun _ => 1), ⟨0, (x.filter (fun v => !v.isZero)).length, 0, 0, 0, 0⟩)

/-- Encode one block, padded with +0 to its full length (R84): the scale record, and the codes of the real elements. -/
def encodeBlockOf (f : Nat) (r : Nat → Rnd) (x : List Num) : Nat × List Nat × Tally :=
  let full := x ++ List.replicate (blockLen f - x.length) (.zero false)
  let (s, c, t) := if f = 0x0B then encodeQ3 r full else if f = 0x0C then encodeT2 r full else encodeMx f r full
  (s, c.take x.length, t)

/-- Convert a run of numbers that begins at a block boundary: the scale records and the codes. The run's element i draws rnd i. -/
def convertRun (f : Nat) (sat : Bool) (r : Nat → Rnd) : Nat → Nat → List Num → List Nat × List Nat × Tally
  | 0, _, _ => ([], [], .zero)
  | _, _, [] => ([], [], .zero)
  | n + 1, i, x :: xs =>
    if blockLen f = 0 then
      let (c, t) := convert f sat (r i) x
      let (ss, cs, ts) := convertRun f sat r n (i + 1) xs
      (ss, c :: cs, t.add ts)
    else
      let bl := blockLen f
      let (s, c, t) := encodeBlockOf f (fun j => r (i + j)) ((x :: xs).take bl)
      let (ss, cs, ts) := convertRun f sat r n (i + bl) ((x :: xs).drop bl)
      (s :: ss, c ++ cs, t.add ts)

/-! ### Packing (R83, R84, R91) -/

/-- Pack codes of w bits into bytes: a little-endian bit stream. -/
def packCodes (w : Nat) (cs : List Nat) : List Byte :=
  natLe (cs.foldr (fun c a => c % 2 ^ w + 2 ^ w * a) 0) (ceilDiv (cs.length * w) 8)

/-- Pack T2 digits, five to a byte, missing ones 1. -/
def packT2 : Nat → List Nat → List Byte
  | 0, _ => []
  | _, [] => []
  | k + 1, l =>
    let d := fun i => nth l i 1
    BitVec.ofNat 8 (d 0 + 3 * d 1 + 9 * d 2 + 27 * d 3 + 81 * d 4) :: packT2 k (l.drop 5)

/-- The element area of a tensor's codes. -/
def packArea (f : Nat) (cs : List Nat) : List Byte := if f = 0x0C then packT2 cs.length cs else packCodes (elemBits f) cs

/-- A whole tensor: element area, zeros up to SCALE_OFF, scale records. -/
def packTensor (f : Nat) (recs cs : List Nat) : List Byte :=
  let area := packArea f cs
  if blockLen f = 0 then area
  else area ++ List.replicate (scaleOff f cs.length - area.length) 0#8 ++ (recs.map (fun r => natLe r (recBytes f))).flatten

/-- Convert a tensor of numbers whole (R84, R94 to R99). -/
def convertTensor (f : Nat) (sat : Bool) (r : Nat → Rnd) (x : List Num) : List Byte × Tally :=
  let (recs, cs, t) := convertRun f sat r x.length 0 x
  (packTensor f recs cs, t)

/-- The numbers of a tensor of n elements held as bytes. -/
def tensorNums (f n : Nat) (k : Int) (b : List Byte) : List Num :=
  let get := fun i => nth b i 0#8
  (List.range n).map (tensorValue get f n k)

/-! ### Sums (R100, R147) -/

/-- Add adjacent pairs. -/
def pairUp : List Word → List Word
  | a :: b :: l => fAdd a b :: pairUp l
  | l => l

/-- The pairwise tree over a list whose length is a power of two. -/
def treeSum : Nat → List Word → Word
  | 0, l => l.headD f32Zero
  | k + 1, l => match l with | [] => f32Zero | [a] => a | l => treeSum k (pairUp l)

/-- The tree over n leaves, missing leaves +0. -/
def treeOf (n : Nat) (l : List Word) : Word := treeSum 8 (l ++ List.replicate (n - l.length) f32Zero)

end Sys2Proof.Machine
end

