-- ==== Sys2Proof/Machine/Flags.lean ====
section
/-! DEFINITION. What arithmetic reports beside its results: the counters of managed tensors, error samples, norms and non-finite counts (R109 to R113,
R142, R229 to R236). -/

namespace Sys2Proof.Machine

/-! ### A managed entry's window (R106 to R113) -/

/-- An empty window. -/
def FmtWin.zero : FmtWin := ⟨0, 0, 0, 0, 0, 0, 0, 0, 0, List.replicate 64 0⟩

/-- The open window of an entry. -/
def State.win (s : State) (e : Nat) : FmtWin := SMap.get (fun _ => FmtWin.zero) s.fmt.wins e

/-- Put an entry's window. -/
def State.setWin (s : State) (e : Nat) (w : FmtWin) : State :=
  { s with fmt := { s.fmt with wins := SMap.set (fun _ => FmtWin.zero) s.fmt.wins e w } }

/-- The larger of two FP32 magnitudes. -/
def maxMag (a b : Word) : Word := if a.toNat < b.toNat then b else a

/-- The magnitude of a number as an FP32 word, for AMAX. -/
def magWord (x : Num) : Word := if x.finite then toF32 x.abs else 0

/-- Add to a total of an entry since Setting load: SAMPLES, OVF, UNF, NF, SC_HI, SC_LO, INVALID, NOREF (R121). -/
def State.entTotal (s : State) (e i n : Nat) : State := s.bump (F.FMT_ENT_CNT_COUNT i e) n

/-- A step that evaluates (R78, R246): its first SLOT_OPEN had EVAL. -/
def State.evaluates (s : State) : Bool := s.pipe.evalStep == some true

/-- Count in an entry's window and totals: an evaluation step adds nothing to either (R114, R246). -/
def State.counting (s : State) (f : State → State) : State := if s.evaluates then s else f s

/-- Count a conversion of a managed tensor (R109): the tally and the inputs' AMAX, before any tensor exponent. -/
def State.countConv (s : State) (e : Nat) (t : Tally) (xs : List Num) : State := s.counting fun s =>
  let w := s.win e
  let w : FmtWin := { w with ovf := w.ovf + t.ovf, unf := w.unf + t.unf, nf := w.nf + t.nf, scHi := w.scHi + t.scHi, scLo := w.scLo + t.scLo
                             amax := xs.foldl (fun a x => maxMag a (magWord x)) w.amax }
  let s := ((((s.setWin e w).entTotal e 1 t.ovf).entTotal e 2 t.unf).entTotal e 3 t.nf).entTotal e 4 t.scHi
  s.entTotal e 5 t.scLo

/-- A NaN block scale that an encoder writes is flagged and recorded at the rate limit of its code (R121, R122). -/
def State.nanScale (s : State) (t : Tally) (e : Nat) : State :=
  if t.nanScale = 0 then s else (s.raise F.FMT_ERR_SCALE_NAN).event 0x0308 srcHub e 0 0 0

/-- Invalid T2 bytes read for an operand (R91, R109). -/
def State.invalidT2 (s : State) (e : Option Nat) (n : Nat) : State :=
  if n = 0 then s
  else
    let s := (s.raise F.FMT_ERR_INVALID).event 0x0307 srcHub (e.getD 0) n 0 0
    match e with
    | none => s
    | some e => s.counting fun s => (s.setWin e { s.win e with invalid := (s.win e).invalid + n }).entTotal e 6 n

/-- The bin of an error sample (R112). Where both sums are infinite their ratio is no number, which the rule's pseudocode does not treat: bin 0, the
largest error (DESIGN CHOICE). -/
def errorBin (y z : List Num) : Nat :=
  let d2 := (y.zip z).foldl (fun a p => let d := p.1.add p.2.neg; fAdd a (toF32 (d.mul d))) f32Zero
  let s2 := z.foldl (fun a v => fAdd a (toF32 (v.mul v))) f32Zero
  if f32 d2 = .nan ∨ f32 s2 = .nan then 0
  else if (f32 d2).isZero then 63
  else if (f32 s2).isZero then 0
  else
    match f32 (toF32 ((f32 d2).div (f32 s2))) with
    | .fin _ m e =>
      let r := Num.fin false m e
      if !(r.lt (.fin false 1 0)) then 0
      else
        let lo := r.log2
        let neg := if m = 2 ^ Nat.log2 m then -lo else -lo - 1
        min 63 (neg.toNat / 2)
    | .zero _ => 63
    | .inf _ => 0
    | .nan => 0

/-- Add an error sample to an entry (R112). -/
def State.sample (s : State) (e bin : Nat) : State := s.counting fun s =>
  let w := s.win e
  let s := s.setWin e { w with samples := w.samples + 1, hist := setNth w.hist bin (nth w.hist bin 0 + 1) }
  (s.entTotal e 0 1).bump (F.FMT_HIST_COUNT (64 * e + bin)) 1

/-- A pass with no wider reference operand (R111). -/
def State.noRef (s : State) (e : Nat) : State := s.counting fun s =>
  let w := s.win e
  (s.setWin e { w with noref := w.noref + 1 }).entTotal e 7 1

/-! ### Exact sums of squares (R229) -/

/-- The square of a finite number in units of 2^-1200. -/
def squareUnits (x : Num) : Nat := match x with | .fin _ m e => shiftZ (m * m) (2 * e + 1200) | _ => 0

/-- Add a value's square; a non-finite one is counted. -/
def SqAcc.add (a : SqAcc) (x : Num) : SqAcc := if x.finite then { a with sum := a.sum + squareUnits x } else { a with nf := a.nf + 1 }

/-- The sum rounded once to FP64 (R229). -/
def SqAcc.f64 (a : SqAcc) : Nat := toF64 (mkNum false a.sum (-1200))

/-- Add squares to an accumulator of a keyed list. -/
def addSquares (l : List (Nat × SqAcc)) (k : Nat) (xs : List Num) : List (Nat × SqAcc) :=
  SMap.set (fun _ => ⟨0, 0⟩) l k (xs.foldl SqAcc.add (SMap.get (fun _ => ⟨0, 0⟩) l k))

/-- Count non-finite values of a class (R235, R236). A class of 0, 1, 2, 4 or 6 sets NF_LOCAL and is recorded once per step; class 5
sets only the error bit; class 3 has its own consequences. -/
def State.countClass (s : State) (c n : Nat) : State :=
  if n = 0 then s
  else
    let v := SMap.get (fun _ => 0) s.health.classes c + n
    let first := !s.health.classNoted.contains c
    let s : State := { s with health := { s.health with classes := SMap.set (fun _ => 0) s.health.classes c v } }
    if c = 3 then s
    else
      let s := s.raise F.HEALTH_ERR_NF_LOCAL
      let s := if c = 5 then s else s.wf F.HEALTH_VERDICT_NF_LOCAL 1
      let s := if c ≠ 5 ∧ s.flag F.HEALTH_CFG_HOLD_ON_NF then s.wf F.HEALTH_VERDICT_HOLD 1 else s
      if first then
        let s : State := { s with health := { s.health with classNoted := c :: s.health.classNoted } }
        s.event 0x0801 srcHub (s.rf F.CHAIN_STEP_STEP) c v 0
      else s

/-- NORM_EN (R142, R231): results' squares go to an activation slot; an invalid slot adds nothing and is recorded once per step, with
the step, the slot and the task's logical core (R248). -/
def State.addNorm (s : State) (m slot : Nat) (xs : List Num) : State :=
  if s.flag (F.HEALTH_ASLOT_CFG_VALID slot) then
    let s : State := { s with health := { s.health with acts := addSquares s.health.acts slot xs } }
    s.countClass (s.rf (F.HEALTH_ASLOT_CFG_CLASS slot)) (xs.filter (fun x => !x.finite)).length
  else if s.health.noted.contains slot then s
  else
    let s : State := { s with health := { s.health with noted := slot :: s.health.noted } }
    s.event 0x0802 srcHub (s.rf F.CHAIN_STEP_STEP) slot m 0

end Sys2Proof.Machine
end

