-- ==== Sys2Proof/Machine/Clasp.lean ====
section
/-! DEFINITION. Clasps: signals, waits, barriers, span arrivals, watches (chapter 14). -/

namespace Sys2Proof.Machine

/-! ### The value of a Clasp -/

/-- The value of module Clasp n. -/
def State.claspValue (s : State) (n : Nat) : Nat := s.rf (F.CLASP_VALUE_VALUE n)

/-- Whether any flag of Clasp n is set (R307). -/
def State.claspFlagged (s : State) (n : Nat) : Bool :=
  s.flag (F.CLASP_FLAG_OVF n) || s.flag (F.CLASP_FLAG_UNF n) || s.flag (F.CLASP_FLAG_MIS n)

/-- A flag of a Clasp sets: the matching CLASP.ERR bit, and CLASP_FLAG with the number and the source (R307). -/
def State.claspFlag (s : State) (f e : Fld) (n source : Nat) : State :=
  ((s.wf f 1).raise e).event 0x0C00 srcHub n source 0 0

/-- Misuse of Clasp n (R307): nothing is applied, MIS sets, CLASP_MISUSE is recorded. -/
def State.claspMisuse (s : State) (n source : Nat) : State :=
  (s.claspFlag (F.CLASP_FLAG_MIS n) F.CLASP_ERR_MIS n source).event 0x0C01 srcHub n source 0 0

/-- The die group that holds a die Clasp: die and group (R303). -/
def groupOf (n : Nat) : Option (Nat × Nat) :=
  if 4096 ≤ n ∧ n < 65536 then some ((n - 4096) / 3840, (n - 4096) % 3840 / 256) else none

/-- The logical core that hosts Clasp n as a core-local Clasp, where one does (R303). -/
def State.claspHost (s : State) (n : Nat) : Option Nat :=
  match groupOf n with
  | some (d, g) => let h := s.rf (F.CLASP_GROUP_HOST g d); if h = 0x1FF then none else some h
  | none => none

/-! ### Releasing waiters -/

/-- Physical core n stops lending (R317). -/
def State.unlend (s : State) (n : Nat) : State :=
  if (s.core n).lending then
    (s.setCore n { s.core n with lending := false }).wf F.POWER_LEND_CORES (s.rf F.POWER_LEND_CORES - 1)
  else s

/-- A task that waited goes on (R306): its core runs, stops lending (R317), and CORE_WAIT empties. -/
def State.releaseTask (s : State) (t : Task) : State :=
  let s := match s.physOf t.core with
    | none => s
    | some n => (s.wf (F.CLASP_CORE_WAIT_VALID n) 0).unlend n
  s.nextDesc t.core

/-- The tasks that wait on Clasp n and whose target its value meets. -/
def State.ready (s : State) (n : Nat) (acquire : Bool) : List Task :=
  s.front.tasks.filter (fun t => t.phase == .waiting && (match t.wait with
    | .clasp k target acq _ => k == n && acq == acquire && decide (target ≤ s.claspValue n)
    | _ => false))

/-- The target a task waits for. -/
def Task.target (t : Task) : Nat := match t.wait with | .clasp _ target _ _ => target | _ => 0

/-- Whether a grant of this ACQUIRE is a variance source (R308): another ACQUIRE's target was met before it and is not met after. -/
def State.acquireTie (s : State) (n : Nat) (t : Task) : Bool :=
  (s.ready n true).any (fun u => u.id != t.id && decide (s.claspValue n - t.target < u.target))

/-- Grant one ACQUIRE (R306, R308): the target is subtracted in one action with the test. Which of several waits is granted is not
defined, so a free number picks it. -/
def State.grantOne (s : State) (n : Nat) : Option State :=
  let l := s.ready n true
  if l.isEmpty || s.claspFlagged n then none
  else
    let (k, s1) := s.freeBelow l.length
    match l[k]? with
    | none => none
    | some t =>
      let s1 := if s.acquireTie n t then s1.taskVariance 0x03 t.core n else s1
      let s1 := s1.wf (F.CLASP_VALUE_VALUE n) (s.claspValue n - t.target)
      let s1 := s1.bump (F.CLASP_CNT_COUNT 2) 1
      some (s1.releaseTask t)

/-- Grant ACQUIREs while one can be granted. -/
def State.grantAll : Nat → Nat → State → State
  | 0, _, s => s
  | k + 1, n, s => match s.grantOne n with | some t => State.grantAll k n t | none => s

/-- Fire the watches whose Clasp meets its target with no flag set (R314). -/
def State.fireWatch (s : State) (w : Nat) : State :=
  let n := s.rf (F.CLASP_WATCH_NUM_NUM w)
  if s.flag (F.CLASP_WATCH_CFG_EN w) && decide (s.rf (F.CLASP_WATCH_TARGET_TARGET w) ≤ s.claspValue n) && !s.claspFlagged n then
    ((s.wf (F.CLASP_WATCH_CFG_FIRED w) 1).wf (F.CLASP_WATCH_CFG_EN w) 0).msix (s.rf (F.CLASP_WATCH_CFG_VEC w))
  else s

/-- After Clasp n changed: every WAIT its value meets is released, then ACQUIREs are granted, then watches fire (R302, R306, R314). While
a flag is set nothing is released (R307). -/
def State.claspSettle (s : State) (n : Nat) : State :=
  if s.claspFlagged n then s
  else
    let w := s.ready n false
    let s := w.foldl State.releaseTask s
    let s := s.bump (F.CLASP_CNT_COUNT 1) w.length
    let s := State.grantAll (s.ready n true).length n s
    (List.range 32).foldl (fun (s : State) k => if s.rf (F.CLASP_WATCH_NUM_NUM k) = n then s.fireWatch k else s) s

/-- Apply a signal to Clasp n (R307): additions saturate high and set OVF, subtractions saturate at 0 and set UNF. -/
def State.applySignal (s : State) (clasp amount : Nat) (neg : Bool) (source : Nat) : State :=
  let n := clasp % 65536
  let v := s.claspValue n
  let s := s.bump (F.CLASP_CNT_COUNT 0) 1
  let s :=
    if neg then
      if v < amount then (s.wf (F.CLASP_VALUE_VALUE n) 0).claspFlag (F.CLASP_FLAG_UNF n) F.CLASP_ERR_UNF n source
      else s.wf (F.CLASP_VALUE_VALUE n) (v - amount)
    else
      if 0xFFFFFFFF < v + amount then (s.wf (F.CLASP_VALUE_VALUE n) 0xFFFFFFFF).claspFlag (F.CLASP_FLAG_OVF n) F.CLASP_ERR_OVF n source
      else s.wf (F.CLASP_VALUE_VALUE n) (v + amount)
  s.claspSettle n

/-- A signal leaves for its Clasp (R302): it is applied by a CLASP_APPLY. -/
def State.emit (s : State) (g : Signal) : State := { s with clasp := { s.clasp with flying := s.clasp.flying ++ [g] } }

/-- CLASP_APPLY (R307): one of the signals on their way is applied. -/
def execClaspApply (i : Nat) (s : State) : Res :=
  .next (match s.clasp.flying[i]? with
    | none => s
    | some g =>
      let s : State := { s with clasp := { s.clasp with flying := s.clasp.flying.eraseIdx i } }
      s.applySignal g.clasp g.amount g.neg g.source)

/-! ### The CLASP descriptor (R305) -/

/-- k bytes of a descriptor at an offset. -/
def descField (d : BitVec 256) (o k : Nat) : Nat := fieldAt d.toNat o k

/-- The descriptor's header is well formed (R138): KIND as given, no reserved bit. -/
def descHeader (d : BitVec 256) (kind : Nat) : Bool :=
  bits (descField d 0 1) 0 4 == kind && bits (descField d 0 1) 6 2 == 0

/-- MAY_VARY and DEP of a descriptor (R138). -/
def descMayVary (d : BitVec 256) : Bool := bit (descField d 0 1) 4
def descDep (d : BitVec 256) : Bool := bit (descField d 0 1) 5

/-- Whether the bytes of a descriptor from o up to e, and not at e, are 0. -/
def descZero (d : BitVec 256) (o e : Nat) : Bool := descField d o (e - o) == 0

/-- Decode checks of the fields every CLASP operation shares (R305). -/
def claspDecode (d : BitVec 256) (op : Nat) : Bool :=
  descHeader d 3 && descField d 1 1 == op && descField d 4 4 < 65536 && descField d 3 1 == 0 && descZero d 0x1A 32

/-- SIGNAL's fields (R305): ATTACH, HELD and REMOTE exclude each other and NEG; each form's own fields stand, all others are 0. -/
def signalDecode (d : BitVec 256) : Bool :=
  let f := descField d 2 1
  let at0 := bit f 0; let hd := bit f 1; let rm := bit f 2; let ng := bit f 3
  claspDecode d 0 && f < 16 && decide (b2n at0 + b2n hd + b2n rm + b2n ng ≤ 1) &&
    (if at0 then 1 ≤ descField d 0xC 2 && descField d 0xC 2 ≤ 64 && descZero d 0xE 32
     else if hd then descField d 0xC 2 < 512 && descField d 0xE 1 < 64 && descField d 0xF 1 == 0 && descZero d 0x16 32
     else if rm then descZero d 0xC 0x18
     else descZero d 0xC 32)

/-- WAIT's, ACQUIRE's and ARRIVE's fields: no form bits, nothing past AMOUNT; ARRIVE has no AMOUNT. -/
def waitDecode (d : BitVec 256) (op : Nat) : Bool := claspDecode d op && descField d 2 1 == 0 && descZero d 0xC 32

/-- Send a Chain signal (R311): it carries the step. One that names this module itself is applied at home. -/
def State.chainSignal (s : State) (module clasp amount : Nat) : State :=
  if module = s.rf F.SETUP_IDENT_MODULE_ID then s.emit ⟨clasp, amount, false, module⟩
  else s.sendCtrl (s.chainPort (module % 32)) 0x09 module (natLe clasp 4 ++ natLe amount 4)

/-- Put a signal in the hold list of logical core m (R310); none where the list is full and the sender waits. A stale generation is
dropped on arrival. -/
def State.hold (s : State) (m : Nat) (h : Hold) : Option State :=
  match s.physOf m with
  | none => some s
  | some n =>
    if s.rf (F.HANDLE_D_GEN n h.handle) ≠ h.gen then
      some ((((s.raise F.CLASP_ERR_HOLD_DROP).bump (F.CLASP_CNT_COUNT 6) 1)).event 0x0C02 (srcCore n) m h.handle h.gen
        (s.rf (F.HANDLE_D_GEN n h.handle)))
    else if h.expect ≤ s.rf (F.HANDLE_ARR_ARR n h.handle) then some (s.emit h.signal)
    else if 16 ≤ (s.core n).holds.length then none
    else
      let s := s.setCore n { s.core n with holds := (s.core n).holds ++ [h] }
      some (s.wf (F.CLASP_CORE_HOLDS_COUNT n) (s.core n).holds.length)

/-- Release the held signals of a handle whose arrivals have come, and drop those whose generation has passed (R310). -/
def State.checkHolds (s : State) (n h : Nat) : State :=
  let gen := s.rf (F.HANDLE_D_GEN n h)
  let arr := s.rf (F.HANDLE_ARR_ARR n h)
  let mine := (s.core n).holds.filter (fun e => e.handle == h)
  let s := mine.foldl (fun (s : State) e =>
    if e.gen ≠ gen then
      ((s.raise F.CLASP_ERR_HOLD_DROP).bump (F.CLASP_CNT_COUNT 6) 1).event 0x0C02 (srcCore n) (s.logicalOf n) h e.gen gen
    else if e.expect ≤ arr then s.emit e.signal else s) s
  let keep := (s.core n).holds.filter (fun e => e.handle != h || (e.gen == gen && decide (arr < e.expect)))
  (s.setCore n { s.core n with holds := keep }).wf (F.CLASP_CORE_HOLDS_COUNT n) keep.length

/-- The task of logical core m waits: its core shows WAIT (R154). -/
def State.block (s : State) (m : Nat) (w : TaskWait) : State :=
  match s.curTask m with
  | none => s
  | some t => (s.updTask t.id (fun t => { t with phase := .waiting, wait := w })).showTask m taskWaiting

/-- CLASP_SIGNAL (R306, R309 to R311). ATTACH rides the RUN named by REL; where that RUN has already completed, its last packet has gone and
the signal leaves at once. -/
def execClaspSignal (m : Nat) (d : BitVec 256) (s : State) : Res :=
  .next (s.issue m d fun s => if !signalDecode d then s.fault m 1
    else
      let n := descField d 4 4
      let amt := descField d 8 4
      let f := descField d 2 1
      let sig : Signal := ⟨n, amt, bit f 3, m⟩
      if bit f 2 then
        let md := descField d 0x18 2
        if s.isMember md then (s.chainSignal md n amt).nextDesc m
        else (s.event 0x0C01 srcHub n m 0 0).fault m 1
      else if bit f 1 then
        match s.hold (descField d 0xC 2) ⟨descField d 0xE 1, descField d 0x10 4, descField d 0x14 2, sig⟩ with
        | some s => s.nextDesc m
        | none => s.block m (.retry d)
      else if bit f 0 then
        match s.physOf m with
        | none => s
        | some p =>
          let at0 := s.descOf m - descField d 0xC 2
          match (s.core p).runs.find? (fun r => r.desc == at0) with
          | none => (s.emit sig).nextDesc m
          | some r =>
            if bits (descField r.descriptor 1 1) 0 4 ≠ 0 then s.fault m 1
            else
              let rs := (s.core p).runs.map (fun x => if x.desc = at0 then { x with attached := some sig } else x)
              (s.setCore p { s.core p with runs := rs }).nextDesc m
      else (s.emit sig).nextDesc m)

/-- Start a WAIT or an ACQUIRE on Clasp n (R306, R307): done at once where the value meets the target with no flag set; else the task waits. -/
def State.startWait (s : State) (m n target : Nat) (acquire mayVary : Bool) : State :=
  let waiting := s.front.tasks.filter (fun t => t.phase == .waiting && (match t.wait with | .clasp k _ a _ => k == n && a | _ => false))
  let strict := waiting.any (fun t => match t.wait with | .clasp _ _ _ v => !v | _ => false)
  let foreign := match s.claspHost n with | some h => h != m | none => false
  if foreign || (acquire && (strict || (!mayVary && !waiting.isEmpty))) then (s.claspMisuse n m).fault m 1
  else if decide (target ≤ s.claspValue n) && !s.claspFlagged n then
    if acquire then
      let s := (s.wf (F.CLASP_VALUE_VALUE n) (s.claspValue n - target)).bump (F.CLASP_CNT_COUNT 2) 1
      s.nextDesc m
    else (s.bump (F.CLASP_CNT_COUNT 1) 1).nextDesc m
  else
    let s := s.block m (.clasp n target acquire mayVary)
    match s.physOf m with
    | none => s
    | some p => ((s.wf (F.CLASP_CORE_WAIT_NUM p) n).wf (F.CLASP_CORE_WAIT_VALID p) 1).wf (F.CLASP_CORE_TARGET_TARGET p) target

/-- CLASP_WAIT (R306). -/
def execClaspWait (m : Nat) (d : BitVec 256) (s : State) : Res :=
  .next (s.issue m d fun s => if waitDecode d 1 then s.startWait m (descField d 4 4) (descField d 8 4) false false else s.fault m 1)

/-- CLASP_ACQUIRE (R306, R308). -/
def execClaspAcquire (m : Nat) (d : BitVec 256) (s : State) : Res :=
  .next (s.issue m d fun s => if waitDecode d 2 then s.startWait m (descField d 4 4) (descField d 8 4) true (descMayVary d) else s.fault m 1)

/-- CLASP_ARRIVE (R306, R312): the Clasp is to gain 1. The tree's sums are timing only. -/
def execClaspArrive (m : Nat) (d : BitVec 256) (s : State) : Res :=
  .next (s.issue m d fun s => if waitDecode d 3 && descField d 8 4 == 0 then
      ((s.bump (F.CLASP_CNT_COUNT 3) 1).emit ⟨descField d 4 4, 1, false, m⟩).nextDesc m
    else s.fault m 1)

/-! ### Span arrivals (R313) -/

/-- How many modules a span holds: the members of the arc, in each of the N stages where it spans the job. -/
def State.spanSize (s : State) (job : Bool) : Nat :=
  s.members.length * (if job then s.rf F.PIPE_SCHED_N_M1 + 1 else 1)

/-- The span of an ID in this step, as kept so far. -/
def State.span (s : State) (id : Nat) (job : Bool) : Span :=
  (s.clasp.spans.find? (fun x => x.id == id)).getD ⟨id, job, [], none⟩

/-- Put a span. -/
def State.setSpan (s : State) (x : Span) : State :=
  { s with clasp := { s.clasp with spans := x :: s.clasp.spans.filter (fun y => y.id != x.id) } }

/-- A span barrier 1 to 15 that all members have reached signals this module's Clasp once (R313). -/
def State.spanCheck (s : State) (id : Nat) (job : Bool) : State :=
  let x := s.span id job
  match x.clasp with
  | some n =>
    if decide (0 < id) && decide (s.spanSize x.job ≤ x.arrived.length) then
      let s := s.trace 0x06 0xFF (2 * 256) (n + 2 ^ 32) 0 0
      ((s.bump (F.CLASP_CNT_COUNT 4) 1).emit ⟨n, 1, false, s.rf F.SETUP_IDENT_MODULE_ID⟩).setSpan { x with clasp := none }
    else s
  | none => s

/-- Send a span message on every port of its scope but one. -/
def State.spanFlood (s : State) (job : Bool) (body : List Byte) (except : Option Nat) : State :=
  let ports := (s.arcPorts ++ (if job then s.pipePorts else [])).filter (fun p => some p != except)
  ports.foldl (fun (s : State) p => s.sendCtrl p 0x0A 0xFFFF body) s

/-- CLASP_SPAN_ARRIVE (R305, R306, R313). A second arrival with the same span ID in a step is misuse (R307). -/
def execClaspSpanArrive (m : Nat) (d : BitVec 256) (s : State) : Res :=
  let id := descField d 8 4
  let job := bit (descField d 2 1) 4
  .next (s.issue m d fun s => if !(claspDecode d 4 && (descField d 2 1 == 0 || descField d 2 1 == 16) && descZero d 0xC 32 && 1 ≤ id && id < 16) then s.fault m 1
    else
      let x := s.span id job
      let me := s.rf F.SETUP_IDENT_MODULE_ID
      if x.arrived.contains me then (s.claspMisuse (descField d 4 4) m).fault m 1
      else
        let s := s.setSpan { x with job := job, arrived := me :: x.arrived, clasp := some (descField d 4 4) }
        let s := s.spanFlood job (natLe id 1 ++ natLe (b2n job) 1) none
        (s.spanCheck id job).nextDesc m)

/-! ### Signals from the Chain (R311) -/

/-- A misused Chain signal to an existing Clasp flags it; one to no Clasp sets ERR.MIS and is recorded (R307). -/
def State.chainMisuse (s : State) (n source : Nat) : State :=
  if n < 65536 then s.claspMisuse n source else (s.raise F.CLASP_ERR_MIS).event 0x0C01 srcHub n source 0 0

/-- CHAIN_SIGNAL (R311): applied, held for a later step, or dropped as stale; a message for another member goes on its way. -/
def execChainSignal (p : Nat) (m : List Byte) (s : State) : Res :=
  let src := msgSrc m
  let step := msgStep m
  let n := leAt m 0x10 4
  let amt := leAt m 0x14 4
  .next (s.messageIn p m (fun s =>
    let now := s.rf F.CHAIN_STEP_STEP
    if msgDst m ≠ s.rf F.SETUP_IDENT_MODULE_ID then s.forwardDst p m
    else
      let s := s.bump (F.CLASP_CNT_COUNT 5) 1
      if 65536 ≤ n ∨ !s.flag (F.CLASP_FLAG_CHAIN_OK n) ∨ !s.isMember src then s.chainMisuse n src
      else if step < now then s.raise F.CLASP_ERR_CHAIN_STALE
      else if step = now then
        (s.trace 0x06 p (1 * 256) (n + 2 ^ 32 * amt) 0 0).applySignal n amt false src
      else if 256 ≤ s.clasp.future.length then s.raise F.CLASP_ERR_CHAIN_STALE
      else { s with clasp := { s.clasp with future := s.clasp.future ++ [(step, n, amt, src)] } }))

/-- The Chain signals held for a step are applied once the step number has reached it (R311). -/
def State.applyFuture (s : State) : State :=
  let now := s.rf F.CHAIN_STEP_STEP
  let due := s.clasp.future.filter (fun f => f.1 == now)
  let s : State := { s with clasp := { s.clasp with future := s.clasp.future.filter (fun f => f.1 != now) } }
  due.foldl (fun (s : State) f => s.applySignal f.2.1 f.2.2.1 false f.2.2.2) s

/-! ### The host's side (R314, R315) -/

/-- HOST_ADD (R314): applied when written. -/
def execHostAdd (v : Word) (s : State) : Res :=
  let n := s.rf F.CLASP_HOST_NUM_NUM
  .next ((s.trace 0x06 0xFE 0 (n + 2 ^ 32 * v.toNat) 0 0).applySignal n v.toNat false 0x1FF)

/-- WATCH_ARM (R314): a watch armed on a Clasp that meets its target fires at once. -/
def execWatchArm (w : Nat) (s : State) : Res := .next ((s.wf (F.CLASP_WATCH_CFG_EN w) 1).fireWatch w)

/-- CLASP_FORCE (R315): with DEBUG_EN clear the write is ignored and sets ERR.FORCE_OFF. -/
def execClaspForce (v : Word) (s : State) : Res :=
  let n := s.rf F.CLASP_FORCE_NUM_NUM
  .next (if s.flag F.CLASP_CTRL_DEBUG_EN then
      let old := s.claspValue n
      let s := (s.wf (F.CLASP_VALUE_VALUE n) v.toNat).zero [F.CLASP_FLAG_OVF n, F.CLASP_FLAG_UNF n, F.CLASP_FLAG_MIS n]
      let s := (s.bump (F.CLASP_CNT_COUNT 7) 1).event 0x0C03 srcHub old v.toNat 0 0
      let s := s.trace 0x06 0xFE (3 * 256) (n + 2 ^ 32 * v.toNat) 0 0
      (s.variance 0x06 0x1FF n).claspSettle n
    else s.raise F.CLASP_ERR_FORCE_OFF)

/-- CLASP_FLAG_CLEAR (R307): each 1 clears its flag; waiters may then be released. -/
def execClaspFlagClear (n : Nat) (b : BitVec 3) (s : State) : Res :=
  let s := if b.getLsbD 0 then s.wf (F.CLASP_FLAG_OVF n) 0 else s
  let s := if b.getLsbD 1 then s.wf (F.CLASP_FLAG_UNF n) 0 else s
  let s := if b.getLsbD 2 then s.wf (F.CLASP_FLAG_MIS n) 0 else s
  .next (s.claspSettle n)

/-- CORE_LEND (R317, R343): the core lends and enters retention; LEND_TICKS 0 disables it. -/
def execCoreLend (m : Nat) (s : State) : Res :=
  .next (match s.physOf m, s.curTask m with
    | some n, some t =>
      let onClasp := match t.wait with | .clasp _ _ _ _ => true | _ => false
      if t.phase == .waiting && onClasp && decide (s.rf F.CLASP_LEND_TICKS_TICKS ≠ 0) && !(s.core n).lending then
        let s := s.setCore n { s.core n with lending := true }
        (s.wf F.POWER_LEND_CORES (s.rf F.POWER_LEND_CORES + 1)).bump (F.POWER_CNT_COUNT 6) 1
      else s
    | _, _ => s)

end Sys2Proof.Machine
end

