-- ==== Sys2Proof/Machine/Feed.lean ====
section
/-! DEFINITION. What an ARRAY descriptor asks for, before any operand is read: its fields, its geometry, its passes, and the bytes its feeds take
(R126, R130, R136, R139, R162, R163). -/

namespace Sys2Proof.Machine

/-! ### Conversion control (R94, R103) -/

/-- Whether a conversion control passes its checks. -/
def convOk (c : Nat) : Bool :=
  decide (bits c 0 2 < 2) && bits c 3 5 == 0 && (bits c 0 2 == 0 || !(decide (5 ≤ bits c 8 8) && decide (bits c 8 8 ≤ 0x7F)))

/-- SAT of a conversion control. -/
def convSat (c : Nat) : Bool := bit c 2

/-! ### Geometry (R126, R130, R136) -/

/-- A mode's reduction depth, its sub-arrays, its moving rows and its latched columns per tile. -/
structure Geo where
  kg : Nat
  subs : Nat
  rows : Nat
  cols : Nat
  deriving DecidableEq, Repr

/-- The geometry of a mode on a core of presented width w. -/
def geoOf (mode w : Nat) : Geo :=
  match mode with
  | 0 => ⟨64, 1, 64, min w 64⟩
  | 1 => ⟨32, 4, 32, 32⟩
  | 2 => ⟨16, 16, 16, 16⟩
  | _ => ⟨16, 1, 16, 256⟩

/-- A tile: its number among M-tiles and N-tiles, its first row and column, its rows and columns. -/
structure TileAt where
  tm : Nat
  tn : Nat
  m0 : Nat
  n0 : Nat
  rows : Nat
  cols : Nat
  deriving DecidableEq, Repr

/-- The tiles of an output of M rows and N columns, N outer and M inner (R130). -/
def tilesOf (m n tm tn : Nat) : List TileAt :=
  (List.range (ceilDiv n tn)).flatMap (fun j => (List.range (ceilDiv m tm)).map (fun i =>
    ⟨i, j, i * tm, j * tn, min tm (m - i * tm), min tn (n - j * tn)⟩))

/-- Consecutive tiles of each pass. -/
def passesOf (subs : Nat) : Nat → List TileAt → List (List TileAt)
  | 0, _ => []
  | _, [] => []
  | k + 1, l => l.take subs :: passesOf subs k (l.drop subs)

/-! ### The descriptor (R139) -/

/-- An ARRAY descriptor's fields. -/
structure ArrayDesc where
  mode : Nat
  stat : Nat
  accIn : Nat
  accOut : Nat
  fa : Nat
  fb : Nat
  fc : Nat
  manA : Bool
  manB : Bool
  manC : Bool
  norm : Bool
  ka : Nat
  kb : Nat
  kc : Nat
  slot : Nat
  conv : Nat
  ea : Nat
  eb : Nat
  ec : Nat
  ha : Nat
  hb : Nat
  hc : Nat
  dirA : Bool
  dirB : Bool
  m : Nat
  n : Nat
  k : Nat
  tensor : Nat
  deriving DecidableEq, Repr

/-- Read a descriptor's fields. -/
def arrayDesc (d : BitVec 256) : ArrayDesc :=
  let b := fun o => descField d o 1
  let ent := descField d 0xA 5
  ⟨bits (b 1) 0 2, bits (b 1) 2 2, bits (b 1) 4 2, bits (b 1) 6 2, bits (b 2) 0 4, bits (b 2) 4 4, bits (b 3) 0 4,
   bit (b 3) 4, bit (b 3) 5, bit (b 3) 6, bit (b 3) 7, b 4, b 5, b 6, bits (b 7) 0 6, descField d 8 2,
   bits ent 0 12, bits ent 12 12, bits ent 24 12, bits (b 0xF) 0 6, bits (b 0x10) 0 6, bits (b 0x11) 0 6,
   bit (b 0xF) 6, bit (b 0x10) 6, descField d 0x14 2 + 1, descField d 0x16 2 + 1, descField d 0x18 3 + 1, descField d 0x1C 4⟩

/-- Its reserved bits are 0. -/
def arrayZero (d : BitVec 256) : Bool :=
  descHeader d 0 && bits (descField d 7 1) 6 2 == 0 && bits (descField d 0xE 1) 4 4 == 0 && !bit (descField d 0xF 1) 7 &&
    !bit (descField d 0x10 1) 7 && bits (descField d 0x11 1) 6 2 == 0 && descField d 0x12 2 == 0 && descField d 0x1B 1 == 0

/-- The format that NARROW writes: a managed C takes its entry's (R106, R141). -/
def State.fmtC (s : State) (x : ArrayDesc) : Nat := if x.manC then s.rf (F.FMT_ENT_STATE_CAST x.ec) else x.fc

/-- The tile width of a descriptor (R130). -/
def ArrayDesc.tn (x : ArrayDesc) (g : Geo) : Nat := if x.stat = 1 then g.rows else g.cols

/-- The tile height of a descriptor (R130). -/
def ArrayDesc.tm (x : ArrayDesc) (g : Geo) : Nat := if x.stat = 1 then g.cols else g.rows

/-- The decode checks of R141 that need no entry. -/
def ArrayDesc.ok (x : ArrayDesc) : Bool :=
  decide (x.accIn < 3) && decide (x.accOut < 3) && (x.manA || (fmtOk x.fa && x.ka != 128)) && (x.manB || (fmtOk x.fb && x.kb != 128)) &&
    (x.manC || x.kc != 128) && convOk x.conv && ((x.accIn != 2 && x.accOut != 2) || x.stat == 2) &&
    (x.stat != 3 || (x.mode == 0 && x.k == 1))

/-- The decode checks of R141 on the destination of NARROW. -/
def narrowOk (f n tn : Nat) : Bool := fmtOk f && (blockLen f == 0 || (n % blockLen f == 0 && decide (blockLen f ≤ tn)))

/-- Bytes of a feed segment (R162). -/
def segBytes (f kg : Nat) : Nat :=
  roundUp (areaBytes f kg + (if blockLen f = 0 then 0 else max 1 (kg / blockLen f)) * recBytes f) 2

/-- Scale records of one slice of one row or column. -/
def recsPer (f kg : Nat) : Nat := if blockLen f = 0 then 0 else max 1 (kg / blockLen f)

/-- Bytes of a slice block (R162). -/
def sliceBytes (f : Nat) (g : Geo) (moving : Bool) : Nat :=
  if moving then roundUp (g.subs * g.rows * segBytes f g.kg) 4
  else roundUp (g.kg * areaBytes f (g.subs * g.cols) + g.subs * g.cols * recsPer f g.kg * recBytes f) 4

/-- The passes of a descriptor (R130). -/
def ArrayDesc.passes (x : ArrayDesc) (g : Geo) : List (List TileAt) :=
  passesOf g.subs (x.m * x.n) (tilesOf x.m x.n (x.tm g) (x.tn g))

/-- The bytes that an operand read DIRECT takes in all (R163). -/
def directBytes (x : ArrayDesc) (g : Geo) (f : Nat) (moving : Bool) (passes : Nat) : Nat :=
  passes * (if x.stat = 3 then 1 else ceilDiv x.k g.kg) * sliceBytes f g moving

/-- The bytes of the stream that an ARRAY descriptor takes from array port A (false) or B (true); none where it takes none (R163, R175). -/
def State.portStream (s : State) (n : Nat) (d : BitVec 256) (b : Bool) : Option Nat :=
  let x := arrayDesc d
  let (direct, man, e, f, moving) := if b then (x.dirB, x.manB, x.eb, x.fb, x.stat == 1 || x.stat == 3) else (x.dirA, x.manA, x.ea, x.fa, x.stat != 1)
  if bits (descField d 0 1) 0 4 = 0 ∧ direct then
    let g := geoOf x.mode (s.rf (F.CORE_COLMAP_WIDTH n))
    some (directBytes x g (if man then s.rf (F.FMT_ENT_STATE_USE e) else f) moving (x.passes g).length)
  else none

/-! ### The VECTOR descriptor (R144) -/

/-- A VECTOR descriptor's fields. -/
structure VecDesc where
  op : Nat
  fx : Nat
  fy : Nat
  fz : Nat
  fd : Nat
  kx : Nat
  ky : Nat
  kd : Nat
  yShape : Nat
  zShape : Nat
  man : Bool
  conv : Nat
  ent : Nat
  hx : Nat
  hy : Nat
  hz : Nat
  hd : Nat
  len : Nat
  rows : Nat
  imm : Word
  tensor : Nat
  deriving DecidableEq, Repr

/-- Read a descriptor's fields. -/
def vecDesc (d : BitVec 256) : VecDesc :=
  let b := fun o => descField d o 1
  ⟨b 1, bits (b 2) 0 4, bits (b 2) 4 4, bits (b 3) 0 4, bits (b 3) 4 4, b 4, b 5, b 6, bits (b 7) 0 2, bits (b 7) 2 2, bit (b 7) 4,
   descField d 8 2, bits (descField d 0xA 2) 0 12, bits (b 0xC) 0 6, bits (b 0xD) 0 6, bits (b 0xE) 0 6, bits (b 0xF) 0 6,
   descField d 0x10 3 + 1, descField d 0x14 3 + 1, BitVec.ofNat 32 (descField d 0x18 4), descField d 0x1C 4⟩

/-- Its reserved bits are 0. -/
def vecZero (d : BitVec 256) : Bool :=
  descHeader d 1 && bits (descField d 7 1) 5 3 == 0 && bits (descField d 0xA 2) 12 4 == 0 &&
    [0xC, 0xD, 0xE, 0xF].all (fun o => bits (descField d o 1) 6 2 == 0) && descField d 0x13 1 == 0 && descField d 0x17 1 == 0

/-- The OPs that read X, Y and Z (R145). -/
def usesX (op : Nat) : Bool := op != 0x31
def usesY (op : Nat) : Bool := [0x01, 0x02, 0x03, 0x04, 0x05, 0x06, 0x09, 0x0A, 0x1D].contains op
def usesZ (op : Nat) : Bool := op == 0x04 || op == 0x09

/-- The row reductions (R147). -/
def isReduction (op : Nat) : Bool := decide (0x20 ≤ op) && decide (op ≤ 0x23)

/-! ### The handles a descriptor names (R124) -/

/-- The handles that a descriptor reads, and those that it writes or, for HSET, HCLOSE and WAIT_ARR, counts as writing (R159, R161, R168). A RUN's program
names more. -/
def descUses (d : BitVec 256) : List Nat × List Nat :=
  let op := descField d 1 1
  let h := fun (o : Nat) => bits (descField d o 1) 0 6
  match bits (descField d 0 1) 0 4 with
  | 0 =>
    let x := arrayDesc d
    ((if x.dirA then [] else [x.ha]) ++ (if x.dirB then [] else [x.hb]) ++ (if x.accIn = 1 then [x.hc] else []), [x.hc])
  | 1 =>
    let x := vecDesc d
    ((if usesX x.op then [x.hx] else []) ++ (if usesY x.op then [x.hy] else []) ++ (if usesZ x.op then [x.hz] else []), [x.hd])
  | 2 => if op = 0 then ([h 3, h 0xA], []) else if op = 2 then ([h 2], [h 3]) else ([], [h 2])
  | 4 => if op = 2 then ([h 2], []) else ([], [])
  | 5 =>
    if op = 2 ∨ op = 0xC then ([h 6], []) else if op = 0xA then ([h 4], [])
    else if op = 0xB then ([], [h 6]) else if op = 0xD then ([], [h 4]) else ([], [])
  | _ => ([], [])

end Sys2Proof.Machine
end

