-- ==== Sys2Proof/Machine/Operands.lean ====
section
/-! DEFINITION. Operand forms in a core store: banks and their gates, detected errors, the waits between descriptors, windows on other cores (R124, R155 to
R158, R164 to R170). -/

namespace Sys2Proof.Machine

/-! ### Banks (R155, R169, R170) -/

/-- The bank that holds byte o of a store. -/
def bankOf (o : Nat) : Nat := o / 64 % 64

/-- The banks that len bytes from o touch. -/
def banksOf (o len : Nat) : List Nat :=
  if len = 0 then []
  else if 4096 ≤ len then List.range 64
  else ((List.range ((o + len - 1) / 64 - o / 64 + 1)).map (fun i => (o / 64 + i) % 64)).eraseDups

/-- The phase of bank b of physical core n. -/
def State.bank (s : State) (n b : Nat) : BankPhase := SMap.get (fun _ => .on) (s.core n).banks b

/-- CSTORE.GATED shows the banks that are OFF or WAKING (R183). -/
def State.showGated (s : State) (n : Nat) : State :=
  let v := ((s.core n).banks.filter (fun e => e.2 == .off || e.2 == .waking)).map (fun e => 2 ^ e.1)
  s.wpair (F.CSTORE_GATED_LO_BANK n) (F.CSTORE_GATED_HI_BANK n) v.sum

/-- Put bank b of physical core n in a phase. -/
def State.setBank (s : State) (n b : Nat) (p : BankPhase) : State :=
  (s.setCore n { s.core n with banks := SMap.set (fun _ => .on) (s.core n).banks b p }).showGated n

/-- One access to a bank (R170): a read, or HSET, cancels a pending gate; any access wakes a bank that is off. -/
def State.touchBank (s : State) (n b : Nat) (cancels : Bool) : State :=
  match s.bank n b with
  | .gatePend => if cancels then s.setBank n b .on else s
  | .off => s.setBank n b .waking
  | _ => s

/-- An access to bytes of a store: each bank sees it; the second answer says whether all of them serve it now, so that it need not be held. -/
def State.touch (s : State) (n o len : Nat) (cancels : Bool) : State × Bool :=
  if (s.core n).banks.isEmpty then (s, true)
  else
    let bs := banksOf o len
    let s := bs.foldl (fun (s : State) b => s.touchBank n b cancels) s
    (s, bs.all (fun b => s.bank n b != .off && s.bank n b != .waking))

/-- Touch the buffers of handles; the second answer says whether every bank serves them now (R170). -/
def State.touchHandles (s : State) (n : Nat) (hs : List (Nat × Bool)) : State × Bool :=
  hs.foldl (fun (a : State × Bool) x =>
    let (s, ok) := a.1.touch n (a.1.hStart n x.1) (a.1.hBytes n x.1) x.2
    (s, a.2 && ok)) (s, true)

/-- BANK_GATE_PEND (R169): gating enabled, no valid handle over any word of the bank; the idle time is the command's. -/
def execBankGatePend (n b : Nat) (s : State) : Res :=
  let covered := (List.range 64).any (fun h => s.hValid n h && (banksOf (s.hStart n h) (s.hBytes n h)).contains b)
  .next (if s.flag (F.CSTORE_CTRL_GATE_EN n) && !covered && s.bank n b == .on && decide (b < 64) then s.setBank n b .gatePend else s)

/-- Bytes of a bank become 0, and lose their poison tags. -/
def State.zeroBank (s : State) (n b : Nat) : State :=
  let inBank := fun (a : Nat) => decide (storeBase n ≤ a) && decide (a < storeBase n + storeBytes) && bankOf (a - storeBase n) == b
  { s with mem := s.mem.filter (fun e => !inBank e.1), poison := s.poison.filter (fun e => !inBank (e.1 * 4)) }

/-- The in-flight write counter of bank b of physical core n (R169): writes accepted and not complete. -/
def State.bankWrites (s : State) (n b : Nat) : Nat := SMap.get (fun _ => 0) (s.core n).writes b

/-- A write to len bytes from o is accepted (up) or complete (down): it counts in each of its banks. -/
def State.countWrites (s : State) (n o len : Nat) (up : Bool) : State :=
  (banksOf o len).foldl (fun (s : State) b =>
    s.setCore n { s.core n with writes := SMap.set (fun _ => 0) (s.core n).writes b (if up then s.bankWrites n b + 1 else s.bankWrites n b - 1) }) s

/-- The bytes that an access held at physical core n covers, as offset and length. -/
def State.accessRange (s : State) (n : Nat) (a : Access) : Option (Nat × Nat) :=
  match s.coreAt a.addr with
  | some (k, o) => if k = n then some (o, if a.isRead then a.len else a.data.length) else none
  | none => none

/-- An access waits for bank b of physical core n. -/
def State.bankAwaited (s : State) (n b : Nat) : Bool :=
  (s.core n).heldAccess.any (fun e => e.1.isSome && (match s.accessRange n e.2 with | some (o, l) => (banksOf o l).contains b | none => false))

/-- BANK_POWER_OFF (R170): a pending bank whose counter is 0 and that no access waits for loses power; its contents, which the wake will show as 0,
are gone. -/
def execBankPowerOff (n b : Nat) (s : State) : Res :=
  .next (if s.bank n b == .gatePend && s.bankWrites n b == 0 && !s.bankAwaited n b then (s.zeroBank n b).setBank n b .off else s)

/-! ### Detected errors of stored words (R158, R185, R455, R459) -/

/-- The LPDDR5X channel of an address (R480) and the Casket bank of one (R184). -/
def channelOf (a : Nat) : Nat := bits a 8 7
def casketBank (a : Nat) : Nat := (a - 0x020000000000) / 512 % 1024

/-- An access to one 256 B granule of LPDDR5X or to one stripe of the Casket wakes its rank or bank (R344). -/
def State.wakeOne (s : State) (a : Nat) : State :=
  if a < 0x020000000000 then
    let c := channelOf a
    let l := s.power.selfRefresh.filter (fun k => k != 2 * c + Config.lpddrRank a % 2)
    { s with power := { s.power with selfRefresh := l } }.wflag (F.MEMC_CHAN_SELF_REFRESH c) (l.any (fun k => k / 2 == c))
  else if a < 0x020100000000 then
    { s with casket := { s.casket with retention := s.casket.retention.filter (fun b => b != casketBank a) } }
  else s

/-- An access to n bytes at address a (R344). -/
def State.wake (s : State) (a n : Nat) : State :=
  if s.power.selfRefresh.isEmpty && s.casket.retention.isEmpty then s
  else (List.range (n / 256 + 1)).foldl (fun (s : State) i => s.wakeOne (a + 256 * i)) s

/-- A single-bit error, corrected: counted by the store that holds the word, and in the lifetime image (R448). -/
def State.corrected (s : State) (a : Nat) : State :=
  if a < 0x020000000000 then (s.life (0x4600 + 4 * channelOf a) 1).bump (F.MEMC_CE_COUNT (channelOf a)) 1
  else if a < 0x020100000000 then
    (((s.bump F.CASKET_CE_COUNT 1).life (0x3600 + 4 * casketBank a) 1).raise F.CASKET_ERR_CE).event 0x0600 srcHub 0 0 0 0
  else match s.coreAt a with
    | some (n, _) => (((s.bump (F.CSTORE_CE_COUNT n) 1).life (0x3000 + 4 * n) 1).raise (F.CSTORE_ERR_CE n)).event 0x0500 (srcCore n) 0 0 0 0
    | none => s

/-- A double-bit error: the word carries a poison tag (of the Casket, a word of 64 bits: R185), counted by the store that holds it. -/
def State.uncorrectable (s : State) (a : Nat) : State :=
  let s := if 0x020000000000 ≤ a ∧ a < 0x020100000000 then (s.setPoison (a / 8 * 8) true).setPoison (a / 8 * 8 + 4) true else s.setPoison a true
  if a < 0x020000000000 then
    (s.wf (F.MEMC_CHAN_POISONED (channelOf a)) 1).event 0x1306 srcHub (channelOf a) (a % 2 ^ 32) (a / 2 ^ 32) 0
  else if a < 0x020100000000 then ((s.bump F.CASKET_UE_COUNT 1).raise F.CASKET_ERR_UE).event 0x0601 srcHub 0 0 0 0
  else match s.coreAt a with
    | some (n, _) =>
      let s := (s.raise (F.CSTORE_ERR_UE n)).event 0x0501 (srcCore n) 0 0 0 0
      s.setCore n { s.core n with ueStep := (s.core n).ueStep + 1 }
    | none => s

/-- What a data path met at an address before the words were used. -/
def State.meet (s : State) (u : Upset) : State :=
  match u with
  | .corrected a => s.corrected a
  | .poison a => s.uncorrectable a
  | _ => s

/-! ### Writing a handle's buffer -/

/-- A RUN of physical core n still writes or reads handle h (R124): its program, or its source, destination, index or consumer handle. -/
def runNames (r : RunX) (h : Nat) : Bool :=
  let d := r.descriptor.toNat
  let port := r.program.any (fun i => fieldAt i.toNat 0 1 == 2 && decide (2 ≤ bits (fieldAt i.toNat 1 1) 0 3))
  bits (fieldAt d 3 1) 0 6 == h || (!port && bits (fieldAt d 0xA 1) 0 6 == h) ||
    r.program.any (fun i =>
      let op := fieldAt i.toNat 0 1
      let v := fieldAt i.toNat 2 6
      ((op == 1 || op == 2) && bits (fieldAt i.toNat 1 1) 0 3 == 1 && bits v 0 6 == h) ||
        ((op == 7 || op == 8) && bits (fieldAt i.toNat 2 1) 0 6 == h))

/-- The handle is named by a RUN that has not completed, or read by a CGACC that is held (R257), so a later descriptor that writes it waits (R124). -/
def State.hBusy (s : State) (n h : Nat) : Bool :=
  (s.core n).runs.any (fun r => runNames r h) ||
    s.charm.held.any (fun e => e.1 == s.logicalOf n && bits (descField e.2.2 6 1) 0 6 == h)

/-- A RUN that has not completed writes handle h, so a later descriptor that reads it waits (R124). -/
def State.hWritten (s : State) (n h : Nat) : Bool :=
  (s.core n).runs.any (fun r => r.program.any (fun i =>
    fieldAt i.toNat 0 1 == 2 && bits (fieldAt i.toNat 1 1) 0 3 == 1 && bits (fieldAt i.toNat 2 6) 0 6 == h))

/-! ### Remote accesses (R164 to R168) -/

/-- Tasks of physical core n that wait for arrivals on handle h are released once ARR has reached their count (R168). -/
def State.checkArrivals (s : State) (n h : Nat) : State :=
  let m := s.logicalOf n
  match s.curTask m with
  | some t =>
    match t.phase, t.wait with
    | .waiting, .arrivals k c => if k = h ∧ c ≤ s.rf (F.HANDLE_ARR_ARR n h) then s.nextDesc m else s
    | _, _ => s
  | none => s

/-- A written packet is counted (R166): ARR saturates, and one that cannot be counted sets ARR_SAT. -/
def State.countArrival (s : State) (n h : Nat) : State :=
  let s := if s.rf (F.HANDLE_ARR_ARR n h) = 0xFFFFFFFF then (s.raise (F.CSTORE_ERR_ARR_SAT n)).event 0x0505 (srcCore n) h 0 0 0
    else s.bump (F.HANDLE_ARR_ARR n h) 1
  (s.checkArrivals n h).checkHolds n h

/-- A refused remote write (rows 1 and 4). -/
def State.badWrite (s : State) (n : Nat) : State :=
  ((s.bump (F.CSTORE_BAD_WR_COUNT n) 1).raise (F.CSTORE_ERR_BAD_WR n)).event 0x0503 (srcCore n) 0 0 0 0

/-- A stale remote write (row 3). -/
def State.staleWrite (s : State) (n h gen source : Nat) : State :=
  let s := (s.bump (F.CSTORE_STALE_WR_COUNT n) 1).raise (F.CSTORE_ERR_STALE_WR n)
  let s := ((s.wf (F.CSTORE_LAST_STALE_HANDLE n) h).wf (F.CSTORE_LAST_STALE_SRC n) source).wf (F.CSTORE_LAST_STALE_GEN n) gen
  s.event 0x0502 (srcCore n) h gen source 0

/-- Rows 3 to 5 of R166 for a write at byte o of the store of core n, which handle h contains. -/
def State.writeRows (s : State) (n h o : Nat) (a : Access) : State :=
  if a.gen ≠ s.rf (F.HANDLE_D_GEN n h) then s.staleWrite n h a.gen a.source
  else if !s.flag (F.HANDLE_A_WINDOW n h) || decide (s.hStart n h + s.hBytes n h < o + a.data.length) then s.badWrite n
  else (s.store (storeBase n + o) a.data).countArrival n h

/-- A remote read is refused (R167): the target counts it. -/
def State.countBadRead (s : State) (n : Nat) : State :=
  ((s.bump (F.CSTORE_BAD_RD_COUNT n) 1).raise (F.CSTORE_ERR_BAD_RD n)).event 0x0504 (srcCore n) 0 0 0 0

/-- A remote read is refused (R167): the target counts it, and the requester's engine faults. -/
def State.badRead (s : State) (n source : Nat) : State := (s.countBadRead n).streamFault source 5 0 0 (s.descOf source)

/-- Whether rows 3 and 4 let a remote read through (R167). -/
def State.readOk (s : State) (n h o : Nat) (a : Access) : Bool :=
  a.gen == s.rf (F.HANDLE_D_GEN n h) && s.flag (F.HANDLE_A_RREAD n h) && decide (o + a.len ≤ s.hStart n h + s.hBytes n h)

/-- The data of a remote read goes back to the engine that asked; a poisoned word faults it (R181). -/
def State.serveRead (s : State) (n o : Nat) (a : Access) : State :=
  if s.poisonedAt (storeBase n + o) a.len then s.streamFault a.source 6 0 (storeBase n + o) (s.descOf a.source)
  else match s.physOf a.source with
    | some r => s.setCore r { s.core r with remoteData := some (s.rbs (storeBase n + o) a.len) }
    | none => s

/-- Hold an access at core n: behind a waking bank, where a write counts in its banks, or at a stub (R166 row 2, R169, R170). -/
def State.holdAccess (s : State) (n : Nat) (bank : Option Nat) (a : Access) : State :=
  let s := match bank, s.accessRange n a with
    | some _, some (o, l) => if a.isRead then s else s.countWrites n o l true
    | _, _ => s
  s.setCore n { s.core n with heldAccess := (s.core n).heldAccess ++ [(bank, a)] }

/-- An access that waits behind a bank shares a word with len bytes from o, so that a later one of the same port waits behind it (R157). -/
def State.heldMeets (s : State) (n o len : Nat) : Bool :=
  (s.core n).heldAccess.any (fun e => e.1.isSome && (match s.accessRange n e.2 with
    | some (p, l) => decide (p / 4 * 4 < o + len) && decide (o / 4 * 4 < p + l)
    | none => false))

/-- The bank of an access that is not ready, if one is. -/
def State.sleeping (s : State) (n o len : Nat) : Option Nat :=
  (banksOf o len).find? (fun b => s.bank n b == .off || s.bank n b == .waking)

/-- A remote access whose banks serve it (R166, R167). -/
def State.serveAccess (s : State) (n h o : Nat) (a : Access) : State :=
  if a.isRead then (if s.readOk n h o a then s.serveRead n o a else s.badRead n a.source) else s.writeRows n h o a

/-- A remote access at byte o of the store of physical core n, checked in the order of R166. A migration sets every entry to STUB at once, so that entry 0
tells it (R460). -/
def State.remoteAt (s : State) (n o : Nat) (a : Access) : State :=
  match s.handleAt n o with
  | none => if s.flag (F.HANDLE_A_STUB n 0) then s.holdAccess n none a else if a.isRead then s.badRead n a.source else s.badWrite n
  | some h =>
    if s.flag (F.HANDLE_A_STUB n h) then s.holdAccess n none a
    else
      let len := if a.isRead then a.len else a.data.length
      let (s, ready) := s.touch n o len a.isRead
      if ready && !s.heldMeets n o len then s.serveAccess n h o a
      else s.holdAccess n (some ((s.sleeping n o len).getD (bankOf o))) a

/-- A remote access reaches its target (R164); an address that names no presented core faults the requester (R22). -/
def State.remote (s : State) (a : Access) : State :=
  match s.coreAt a.addr with
  | some (n, o) => s.remoteAt n o a
  | none => s.streamFault a.source 2 0 a.addr (s.descOf a.source)

/-- REMOTE_WRITE (R166): a packet of 4 B to 512 B within one 512 B piece of its target. -/
def execRemoteWrite (a : Access) (s : State) : Res :=
  .next (if a.isRead || a.data.isEmpty || decide (512 < a.addr % 512 + a.data.length) then s else s.remote a)

/-- REMOTE_READ (R167), with what the read meets in its words (R158). -/
def execRemoteRead (a : Access) (s : State) (u : Upset := .none) : Res := .next (if a.isRead then (s.meet u).remote a else s)

/-- Split a remote write at every 512 B boundary of its target address (R166). -/
def splitWrite : Nat → Access → List Access
  | 0, _ => []
  | k + 1, a =>
    let room := 512 - a.addr % 512
    if a.data.length ≤ room then (if a.data.isEmpty then [] else [a])
    else { a with data := a.data.take room } :: splitWrite k { a with addr := a.addr + room, data := a.data.drop room }

end Sys2Proof.Machine
end

