-- ==== Sys2Proof/Machine/Stream.lean ====
section
/-! DEFINITION. Stream programs: their check, the addresses they generate, and the transfers they issue (R172 to R181). -/

namespace Sys2Proof.Machine

/-- Whether one place follows len bytes after another. -/
def Place.follows (a : Place) (len : Nat) (b : Place) : Bool :=
  match a, b with
  | .module x _, .module y _ => x + len == y
  | .store x, .store y => x + len == y
  | .port c, .port d => c == d
  | _, _ => false

/-- Elements from k on that are contiguous on both sides, up to 4 KiB, as their count (R177). -/
def State.groupFrom (s : State) (n : Nat) (p : Prog) (src dst : Side) (elem : Nat) : Nat → Nat → Nat → Place → Place → Nat
  | 0, _, c, _, _ => c
  | fuel + 1, k, c, a, b =>
    if p.total ≤ k ∨ 4096 < (c + 1) * elem then c
    else match s.element n p src dst elem k with
      | .ok (x, y) => if a.follows (c * elem) x && b.follows (c * elem) y then s.groupFrom n p src dst elem fuel (k + 1) (c + 1) a b else c
      | .error _ => c

/-! ### Running RUNs (R172, R177 to R180) -/

/-- The bytes waiting in an array port. -/
def CoreX.portBytes (c : CoreX) (b : Bool) : List Byte := if b then c.portB else c.portA

/-- Put the bytes waiting in an array port. -/
def CoreX.setPort (c : CoreX) (b : Bool) (l : List Byte) : CoreX := if b then { c with portB := l } else { c with portA := l }

/-- Whether the port of a RUN has room for another transfer (R163): it holds 8 KiB. -/
def CoreX.portRoom (c : CoreX) (r : RunX) : Bool :=
  match r.port with
  | none => true
  | some b =>
    let first := c.runs.find? (fun x => x.port == some b)
    let due := (c.transfers.filter (fun t => t.dst == .port b)).map (·.len)
    (first.map (·.desc)) == some r.desc && decide ((c.portBytes b).length + due.sum + 4096 ≤ 8192)

/-- Whether a RUN may issue a transfer now: it has elements left, its port has room, and the last transfer of one with an attached signal
waits for all its others (R309). -/
def State.mayIssue (s : State) (n : Nat) (r : RunX) : Bool :=
  let c := s.core n
  decide (r.issued < r.total) && c.portRoom r &&
    (r.attached.isNone || (match r.prog with
      | some (p, a, b, e) =>
        (match s.element n p a b e r.issued with
         | .ok (x, y) => decide (r.issued + s.groupFrom n p a b e 4096 (r.issued + 1) 1 x y < r.total) ||
             !c.transfers.any (fun t => t.desc == r.desc)
         | .error _ => true)
      | none => false))

/-- Bytes per tick that a RUN's consumer takes; 0 for no deadline (R172). -/
def RunX.drain (r : RunX) : Nat := fieldAt r.descriptor.toNat 8 2

/-- The bytes of a RUN that its consumer has yet to take (R180): those landed beyond what has been read of HCONS, or those that the port has not delivered. -/
def CoreX.lead (c : CoreX) (r : RunX) : Nat := match r.port with | some b => (c.portBytes b).length | none => r.landed - r.eaten

/-- Whether the deadline of a RUN is smaller than another's (R180): its lead divided by DRAIN; DRAIN 0 has none. -/
def CoreX.sooner (c : CoreX) (a b : RunX) : Bool :=
  a.drain != 0 && (b.drain == 0 || decide (c.lead a * b.drain < c.lead b * a.drain))

/-- The RUN that the next free slot goes to (R180): the one with the smallest deadline; on equal ones the earliest in the list. -/
def State.pickRun (s : State) (n : Nat) : Option RunX :=
  let c := s.core n
  (c.runs.filter (fun r => s.mayIssue n r)).foldl
    (fun (best : Option RunX) r => match best with | none => some r | some b => if c.sooner r b then some r else some b) none

/-- A consumer has read bytes of handle h: the RUNs that name it as HCONS see it (R180). -/
def State.consume (s : State) (n h bytes : Nat) : State :=
  s.setCore n { s.core n with runs := (s.core n).runs.map (fun r =>
    if r.port.isNone ∧ bits (fieldAt r.descriptor.toNat 0xA 1) 0 6 = h then { r with eaten := r.eaten + bytes } else r) }

/-- Change a running RUN. -/
def State.updRun (s : State) (n desc : Nat) (f : RunX → RunX) : State :=
  s.setCore n { s.core n with runs := (s.core n).runs.map (fun r => if r.desc = desc then f r else r) }

/-- Show the engine's counts (R183). -/
def State.showEngine (s : State) (n : Nat) : State :=
  (s.wf (F.STREAM_STATUS_OUTSTANDING n) (s.core n).transfers.length).wf (F.STREAM_STATUS_RUNS n) (s.core n).runs.length

/-- Allocation stream of a transfer that crosses dies outside the Casket (R188): LPDDR5X reads and writes, or the sending die's. -/
def State.stageStream (s : State) (n : Nat) (t : Transfer) : Option Nat :=
  let die := fun (p : Place) => match p with
    | .module a _ => (match s.region a with | .core k _ => some (k / 24) | .lpddr => some 100 | _ => none)
    | .store _ => some (n / 24)
    | .port _ => some (n / 24)
  match die t.src, die t.dst with
  | some a, some b => if a = b then none else if a = 100 then some 9 else if b = 100 then some 10 else some (16 + a)
  | _, _ => none

/-- The owner of a transfer's staging stripes. -/
def stageOwner (n : Nat) (t : Transfer) : Owner := ⟨.agent, (n * 2 ^ 24 + t.desc) * 2 ^ 41 + t.first⟩

/-- The landing copy that a module address lies in. -/
def State.landingAt (s : State) (a : Nat) : Option Landing :=
  s.chain.landings.find? (fun l => decide (0x020000000000 + l.stripe * 512 ≤ a) &&
    decide (a < 0x020000000000 + l.stripe * 512 + leAt l.head 0x10 4))

/-- The landing copies that a place's bytes lie in (R493): their first stripes. -/
def State.landingsOf (s : State) (x : Place) (len : Nat) : List Nat :=
  match x with
  | .module a _ => (s.chain.landings.filter (fun l => decide (stripeAddr l.stripe < a + len) &&
      decide (a < stripeAddr l.stripe + leAt l.head 0x10 4))).map (·.stripe)
  | _ => []

/-- A RUN that has read landing copies has completed: each counts it, and one that READERS RUNs have read is freed (R493). -/
def State.readLandings (s : State) (l : List Nat) : State :=
  l.foldl (fun (s : State) k =>
    match s.chain.landings.find? (fun x => x.stripe == k) with
    | none => s
    | some x =>
      if x.need = x.readers + 1 then
        let s : State := { s with chain := { s.chain with landings := s.chain.landings.erase x } }
        s.freeWhere (fun g => g.owner.kind == .landing && g.start == k)
      else
        let ls := s.chain.landings.map (fun y => if y.stripe = k then { y with readers := y.readers + 1 } else y)
        { s with chain := { s.chain with landings := ls } }) s

/-- Issue one transfer, if a RUN may and a slot is free (R177, R178); the answer says whether one was issued. A request for staging stripes
above SLOT faults, and one that waits holds the transfer (R190). -/
def State.issueOne (s : State) (n m : Nat) : State × Bool :=
  if 8 ≤ (s.core n).transfers.length then (s, false)
  else
    match s.pickRun n with
    | none => (s, false)
    | some r =>
      match r.prog with
      | none => (s, false)
      | some (p, a, b, e) =>
        match s.element n p a b e r.issued with
        | .error f => (s.streamFault m f.cause f.instr f.addr r.desc, false)
        | .ok (x, y) =>
          let c := s.groupFrom n p a b e 4096 (r.issued + 1) 1 x y
          let t : Transfer := ⟨r.desc, r.issued, c, c * e, x, y, 0⟩
          let go := fun (s : State) =>
            let s := s.updRun n r.desc (fun r => { r with issued := r.issued + c, read := (r.read ++ s.landingsOf x t.len).eraseDups })
            (s.setCore n { s.core n with transfers := (s.core n).transfers ++ [t] }, true)
          match s.stageStream n t with
          | none => go s
          | some st =>
            match s.request st (ceilDiv t.len 512) (stageOwner n t) with
            | (.granted _, s) => go s
            | (.refused, s) => (s.streamFault m 2 a.at0 0 r.desc, false)
            | (.waits, s) => (s, false)

/-- Issue transfers while a slot is free; a draining task's engine issues none (R294), but for a chain that is to be finished (R150). -/
def State.issueAll (s : State) (n m : Nat) : Nat → State
  | 0 => s.showEngine n
  | k + 1 =>
    let stopped : Bool := match s.curTask m with | some t => t.phase == .draining && (s.core n).chain.isNone | none => false
    if stopped then s.showEngine n
    else match s.issueOne n m with
      | (s, true) => State.issueAll s n m k
      | (s, false) => s.showEngine n

/-! ### RUN (R172) -/

/-- RUN's fields (R172); the rest are 0. -/
def runDecode (d : BitVec 256) : Bool :=
  descHeader d 2 && descField d 1 1 == 0 && decide (descField d 2 1 < 32) && decide (descField d 3 1 < 64) &&
    decide (descField d 4 4 < 2 ^ 23) && descField d 4 4 % 16 == 0 && decide (descField d 0xA 1 < 64) && descZero d 0xB 32

/-- The program's instructions as they lie in HP, up to END. -/
def takeProgram : List (BitVec 128) → List (BitVec 128)
  | [] => []
  | i :: r => if fieldAt i.toNat 0 1 = 0 then [i] else i :: takeProgram r

/-! ### Running ahead (R179) -/

/-- A RUN of physical core n that has DEP set and has not completed (R138, R179), or a CGACC with DEP that is held. -/
def State.depPending (s : State) (n : Nat) : Bool :=
  (s.core n).runs.any (fun r => descDep r.descriptor) || s.charm.held.any (fun e => e.1 == s.logicalOf n && descDep e.2.2)

/-- Whether a STREAM descriptor d may pass an earlier descriptor e that is not done (R124, R179): e has no DEP, is no RUN, whose program names handles of its
own, and shares no handle that either of them writes. -/
def mayPass (d e : BitVec 256) (reads writes : List Nat) : Bool :=
  let u := descUses e
  !descDep e && !(bits (descField e 0 1) 0 4 == 2 && descField e 1 1 == 0) &&
    writes.all (fun h => !u.1.contains h && !u.2.contains h) && reads.all (fun h => !u.2.contains h) && bits (descField d 0 1) 0 4 == 2

/-- The handles that a STREAM descriptor reads and writes, a RUN's with those of its program (R124, R179). -/
def State.streamUses (s : State) (n : Nat) (d : BitVec 256) : List Nat × List Nat :=
  let u := descUses d
  if descField d 1 1 = 0 then
    let hp := bits (descField d 3 1) 0 6
    let prog := takeProgram ((List.range (descField d 2 1 + 1)).map (fun i => BitVec.ofNat 128 (s.rle (s.hAddr n hp (descField d 4 4 + 16 * i)) 16)))
    match parseProgram prog 0 Prog.empty with
    | some p => (u.1 ++ p.handles, u.2 ++ (match p.dst with | some x => if x.space = 1 then [bits x.value 0 6] else [] | none => []))
    | none => u
  else u

/-- Whether the stream engine may start the descriptor d that lies k beyond the one task t stands at (R179): at most 64 beyond, and past every earlier one
that is not done. -/
def State.mayRunAhead (s : State) (n : Nat) (t : Task) (k : Nat) (d : BitVec 256) : Bool :=
  let u := s.streamUses n d
  decide (k ≤ 64) && !t.started.contains (t.desc + k) && (t.phase == .run || t.phase == .waiting) &&
    s.taskDesc t (t.desc + k) == some d &&
    (List.range k).all (fun j => t.started.contains (t.desc + j) ||
      (match s.taskDesc t (t.desc + j) with | some e => mayPass d e u.1 u.2 | none => false))

/-- Do what a STREAM descriptor does, at the issue point (k = 0) or k beyond it (R179). None starts while an earlier one with DEP has not completed. One
that lies beyond the issue point and cannot be done at once, or would fault, is left for the task unit. -/
def State.streamDo (s : State) (m k : Nat) (d : BitVec 256) (body : State → State) : State :=
  match s.physOf m with
  | none => s
  | some n =>
    if s.depPending n then s
    else if k = 0 then (if s.issues m d then body s else s)
    else match s.curTask m with
      | none => s
      | some t =>
        if !s.mayRunAhead n t k d then s
        else
          let i := t.desc + k
          let v := body (s.updTask t.id (fun u => { u with desc := i, count := i + 2, phase := .run, wait := .none, started := [] }))
          match v.curTask m with
          | some w =>
            if w.id = t.id ∧ w.desc = i + 1 then
              (v.updTask t.id (fun u => { t with started := i :: t.started, variance := u.variance })).wf (F.CORE_STATE_TASK n) (s.rf (F.CORE_STATE_TASK n))
            else s
          | none => s

/-! ### RUN (R172) -/

/-- The bytes of the stream that the first ARRAY descriptor behind descriptor i of the task takes from a port, where the task's graph shows it (R163, R175). -/
def State.streamBehind (s : State) (m n i : Nat) (b : Bool) : Option Nat :=
  (s.curTask m).bind (fun t => (List.range (t.count - i)).findSome? (fun j => (s.taskDesc t (i + 1 + j)).bind (fun d => s.portStream n d b)))

/-- Keep the RUNs of a core in list order. -/
def insertRun (r : RunX) : List RunX → List RunX
  | [] => [r]
  | x :: l => if r.desc < x.desc then r :: x :: l else x :: insertRun r l

/-- A RUN starts (R172, R175, R178): the program is copied and checked, and its transfers begin. A ninth RUN waits, and so does one whose handles an
earlier RUN still moves data for (R124), or whose program lies in a bank that wakes (R170). -/
def State.startRun (s : State) (m n : Nat) (d : BitVec 256) (u : Upset) : State :=
  let hp := descField d 3 1
  let hc := descField d 0xA 1
  let len := (descField d 2 1 + 1) * 16
  let off := descField d 4 4
  if !runDecode d then s.fault m 1
  else if 8 ≤ (s.core n).runs.length ∨ s.hWritten n hp then s
  else if !s.hValid n hp || decide (s.hBytes n hp < off + len) then s.fault m 4
  else
    let (s, ready) := s.touch n (s.hStart n hp + off) len true
    if !ready then s
    else
      let s := s.meet u
      if s.poisonedAt (s.hAddr n hp off) len then s.streamFault m 6 0 (s.hAddr n hp off) (s.descOf m)
      else
        let prog := takeProgram ((List.range (descField d 2 1 + 1)).map (fun i => BitVec.ofNat 128 (s.rle (s.hAddr n hp (off + 16 * i)) 16)))
        match s.progCheck n (s.streamBehind m n (s.descOf m)) prog with
        | .decode => s.fault m 1
        | .handle => s.fault m 4
        | .ok p =>
          let port := match p.dst with | some x => decide (2 ≤ x.space) | none => false
          let dst := match p.dst with | some x => if x.space = 1 then [bits x.value 0 6] else [] | none => []
          if !port && !s.hValid n hc then s.fault m 4
          else if dst.any (fun h => s.hBusy n h) || p.handles.any (fun h => s.hWritten n h) || (!port && s.hWritten n hc) then s
          else
            let idx := (match p.gather with | some g => [g.hi] | none => []) ++ (match p.scatter with | some g => [g.hi] | none => [])
            let (s, ready) := s.touchHandles n (idx.map (fun h => (h, true)))
            if !ready then s
            else
              let r : RunX := ⟨s.descOf m, d, prog, p.total, 0, none, [], 0, 0⟩
              let s := s.setCore n { s.core n with runs := insertRun r (s.core n).runs }
              let s := s.issueAll n m 9
              if s.flag (F.STREAM_STATUS_FAULTED n) then s else s.nextDesc m

/-- RUN (R172). -/
def execRun (m : Nat) (d : BitVec 256) (s : State) (k : Nat := 0) (u : Upset := .none) : Res :=
  .next (s.streamDo m k d (fun s => match s.physOf m with | none => s | some n => s.startRun m n d u))

/-! ### Landing (R177, R181) -/

/-- What stands between a transfer and its data: a fault of a cause, or a wait for a stub that forwards nowhere yet (R460) or for a landing copy whose tag check has
not passed (R38). -/
inductive FetchErr where
  | fault (cause : Nat)
  | wait
  deriving DecidableEq, Repr

/-- Whether n bytes from an address lie in a landing copy that has not passed its tag check (R38). -/
def State.unchecked (s : State) (a n : Nat) : Bool :=
  s.chain.landings.any (fun l => !l.checked && decide (stripeAddr l.stripe < a + n) && decide (a < stripeAddr l.stripe + leAt l.head 0x10 4))

/-- The bytes that a remote read gets at byte o of the store of core k, checked as R167 says. -/
def State.readAt (s : State) (k h o m g len : Nat) : Except FetchErr (List Byte) :=
  if !s.readOk k h o ⟨true, storeBase k + o, len, g, m, [], 0⟩ then .error (.fault 5)
  else if s.poisonedAt (storeBase k + o) len then .error (.fault 6)
  else .ok (s.rbs (storeBase k + o) len)

/-- The bytes a transfer's source holds. A read that reaches a stub goes on to the spare that took the slot's place (R461). -/
def State.fetch (s : State) (n m : Nat) (t : Transfer) : Except FetchErr (List Byte) :=
  match t.src with
  | .store o => if s.poisonedAt (storeBase n + o) t.len then .error (.fault 6) else .ok (s.rbs (storeBase n + o) t.len)
  | .module a g =>
    match s.coreAt a with
    | none =>
      if s.unchecked a t.len then .error .wait
      else if s.poisonedAt a t.len then .error (.fault 6)
      else match s.stashRead a t.len with | some l => .ok l | none => .error (.fault stashCause)
    | some (k, o) =>
      match s.handleAt k o with
      | none => .error (if s.flag (F.HANDLE_A_STUB k 0) then .wait else .fault 5)
      | some h =>
        if s.flag (F.HANDLE_A_STUB k h) then
          match (s.core k).forwardTo with
          | none => .error .wait
          | some k2 => match s.handleAt k2 o with | some h2 => s.readAt k2 h2 o m g t.len | none => .error (.fault 5)
        else s.readAt k h o m g t.len
  | .port _ => .ok []

/-- The placement epoch that an access to a module address is sent under (R460). -/
def State.epochOf (s : State) (a : Nat) : Nat :=
  match s.coreAt a with
  | some (k, _) => s.rf (F.SPARE_EPOCH_EPOCH (s.logicalOf ((s.core k).forwardTo.getD k)))
  | none => 0

/-- Accesses held at the core that a module address names. -/
def State.heldFor (s : State) (a : Nat) : Nat := match s.coreAt a with | some (k, _) => (s.core k).heldAccess.length | none => 0

/-- Put a transfer's bytes at its destination: a remote one as packets (R166). The second answer is how many of them wait at their target. -/
def State.land (s : State) (n m : Nat) (t : Transfer) (data : List Byte) : State × Nat :=
  match t.dst with
  | .store o => (s.store (storeBase n + o) data, 0)
  | .port b => (s.setCore n ((s.core n).setPort b ((s.core n).portBytes b ++ data)), 0)
  | .module a g =>
    match s.coreAt a with
    | none => (s.store a data, 0)
    | some _ => (splitWrite 16 ⟨false, a, data.length, g, m, data, s.epochOf a⟩).foldl (fun (r : State × Nat) p =>
        let v := r.1.remote p
        (v, r.2 + (v.heldFor p.addr - r.1.heldFor p.addr))) (s, 0)

/-- Casket stripes that a transfer's far side touches (R177). -/
def State.stripeCost (s : State) (n : Nat) (t : Transfer) : Nat :=
  let one := fun (p : Place) => match p with
    | .module a _ =>
      (match s.region a with
       | .core k _ => if k / 24 = n / 24 then 0 else (a + t.len - 1) / 512 - a / 512 + 1
       | _ => (a + t.len - 1) / 512 - a / 512 + 1)
    | _ => 0
  one t.src + one t.dst

/-- Count bytes and stripes (R183). -/
def State.countMoved (s : State) (n : Nat) (t : Transfer) : State :=
  let b := s.rpair (F.STREAM_BYTES_LO_BYTES n) (F.STREAM_BYTES_HI_BYTES n) + t.len
  let c := s.rpair (F.STREAM_STRIPES_LO_STRIPES n) (F.STREAM_STRIPES_HI_STRIPES n) + s.stripeCost n t
  (s.wpair (F.STREAM_BYTES_LO_BYTES n) (F.STREAM_BYTES_HI_BYTES n) b).wpair (F.STREAM_STRIPES_LO_STRIPES n) (F.STREAM_STRIPES_HI_STRIPES n) c

/-- The module address of a place that has one, else one past every address. -/
def Place.modAddr : Place → Nat
  | .module x _ => x
  | _ => 2 ^ 64

/-- First byte of a transfer's destination, where it is memory. -/
def Place.first : Place → Option (Bool × Nat)
  | .store x => some (true, x)
  | .module x _ => some (false, x)
  | .port _ => none

/-- Whether two transfers write a byte in common; two to one port stand in its order (R174). -/
def Transfer.overlaps (a b : Transfer) : Bool :=
  match a.dst, b.dst with
  | .port x, .port y => x == y
  | _, _ =>
    match a.dst.first, b.dst.first with
    | some (l, x), some (k, y) => l == k && decide (x < y + b.len) && decide (y < x + a.len)
    | _, _ => false

/-- A RUN with SCATTER and MAY_VARY to a destination in memory: duplicates may land in any order (R174, R176). -/
def RunX.mayVary (r : RunX) : Bool :=
  bit (fieldAt r.descriptor.toNat 0 1) 4 && (match r.prog with | some (p, _, d, _) => p.scatter.isSome && decide (d.space < 2) | none => false)

/-- The duplicates of a landing transfer (R176): its elements that another outstanding transfer of its RUN also writes, once for each such transfer. -/
def dupCount (t : Transfer) (others : List Transfer) : Nat :=
  (others.map (fun u =>
    match t.dst.first, u.dst.first with
    | some (l, x), some (k, y) =>
      if l = k then
        ((List.range t.count).filter (fun i => let e := t.len / t.count; decide (x + i * e < y + u.len) && decide (y < x + i * e + e))).length
      else 0
    | _, _ => 0)).sum

/-- Count a variance occurrence k times. -/
def State.taskVarianceN (s : State) (code m key : Nat) : Nat → State
  | 0 => s
  | k + 1 => State.taskVarianceN (s.taskVariance code m key) code m key k

/-- A RUN whose elements have all landed is done: its attached signal leaves (R309), and its task may end. -/
def State.finishRun (s : State) (n m desc : Nat) : State :=
  match (s.core n).runs.find? (fun r => r.desc == desc) with
  | none => s
  | some r =>
    if decide (r.total ≤ r.issued) && !(s.core n).transfers.any (fun t => t.desc == desc) && r.port.isNone then
      let s := (s.setCore n { s.core n with runs := (s.core n).runs.filter (fun x => x.desc != desc) }).readLandings r.read
      let s := match r.attached with | some g => s.emit g | none => s
      (s.showEngine n).settleTask m
    else s

/-- A transfer's place among the outstanding ones is free (R178): the engine issues on, its RUN and its task may be done. -/
def State.transferGone (s : State) (n m : Nat) (t : Transfer) : State :=
  let s := s.updRun n t.desc (fun r => { r with landed := r.landed + t.len })
  ((s.issueAll n m 9).finishRun n m t.desc).settleTask m

/-- A packet that waited at its target is done: the transfer it belongs to is outstanding until the last of them is (R178). -/
def State.packetDone (s : State) (a : Access) : State :=
  match s.physOf a.source with
  | none => s
  | some n =>
    match (s.core n).transfers.find? (fun t => decide (0 < t.held) && (match t.dst with | .module x _ => decide (x ≤ a.addr) && decide (a.addr < x + t.len) | _ => false)) with
    | none => s
    | some t =>
      if t.held = 1 then (s.setCore n { s.core n with transfers := (s.core n).transfers.erase t }).transferGone n a.source t
      else s.setCore n { s.core n with transfers := (s.core n).transfers.map (fun x => if x = t then { x with held := x.held - 1 } else x) }

/-- The banks that a transfer's two ends lie in serve it now (R170); the touch wakes those that do not. -/
def State.touchEnds (s : State) (n : Nat) (t : Transfer) : State × Bool :=
  let src := match t.src with | .store o => some (n, o) | .module a _ => s.coreAt a | .port _ => none
  let (s, a) := match src with | some (k, o) => s.touch k o t.len true | none => (s, true)
  match t.dst with
  | .store o => let (s, b) := s.touch n o t.len false; (s, a && b)
  | _ => (s, a)

/-- A refused remote read counts at its target (R167). -/
def State.refusedAt (s : State) (x : Place) : State :=
  match x with
  | .module a _ => (match s.coreAt a with | some (k, _) => s.countBadRead ((s.core k).forwardTo.getD k) | none => s)
  | _ => s

/-- STREAM_TRANSFER_DONE (R176, R177, R178, R181): the data of the outstanding transfer of an index arrives. Where the order of landing is fixed, one that
overlaps an earlier transfer of its RUN is not yet the next to land, and the command changes nothing; nor is one whose bank, stub or tag check keeps it
waiting. -/
def execStreamTransferDone (m i : Nat) (e : TransferEnd) (u : Upset) (s : State) : Res :=
  .next (match s.physOf m with
    | none => s
    | some n =>
      match (s.core n).transfers[i]? with
      | none => s
      | some t =>
        let others := ((s.core n).transfers.eraseIdx i).filter (fun x => x.desc == t.desc)
        let earlier := ((s.core n).transfers.take i).any (fun x => x.desc == t.desc && x.overlaps t)
        let run := (s.core n).runs.find? (fun r => r.desc == t.desc)
        let vary := match run with | some r => r.mayVary | none => false
        if (earlier && !vary) || decide (0 < t.held) then s
        else
          let (s, ready) := s.touchEnds n t
          if !ready then s
          else
            let s := s.meet u
            let s := match t.src with | .module a _ => s.wake a t.len | _ => s
            let s := match t.dst with | .module a _ => s.wake a t.len | _ => s
            let addr := match t.src with | .module a _ => a | .store o => storeBase n + o | .port _ => 0
            let instr := match run.bind RunX.prog with | some (_, a, _, _) => a.at0 | none => 0
            let got : Except FetchErr (List Byte) := match e with | .done => s.fetch n m t | .refused => .error (.fault 5) | .poisoned => .error (.fault 6)
            match got with
            | .error .wait => s
            | .error (.fault c) =>
              let s := if c = 5 then s.refusedAt t.src else s
              (s.freeOwner (stageOwner n t)).streamFault m c instr addr t.desc
            | .ok data =>
              let s := s.freeOwner (stageOwner n t)
              let s := if vary then s.taskVarianceN 0x02 m t.desc (dupCount t others) else s
              let (s, w) := s.land n m t data
              let s := (s.countMoved n t).countStash addr
              if 0 < w then s.setCore n { s.core n with transfers := (s.core n).transfers.set i { t with held := w } }
              else (s.setCore n { s.core n with transfers := (s.core n).transfers.eraseIdx i }).transferGone n m t)

/-! ### Accesses that a waking bank has held (R157, R170) -/

/-- An access that a bank held is checked and served. -/
def State.releaseAccess (s : State) (n o : Nat) (a : Access) : State :=
  let s := match s.handleAt n o with
    | none => if a.isRead then s.badRead n a.source else s.badWrite n
    | some h => s.serveAccess n h o a
  if a.isRead then s else s.packetDone a

/-- Put back an access that goes on waiting. -/
def State.keepHeld (s : State) (n : Nat) (e : Option Nat × Access) : State := s.setCore n { s.core n with heldAccess := (s.core n).heldAccess ++ [e] }

/-- Serve the held accesses in arrival order: one goes on waiting while a bank of its own sleeps, or while an earlier one of a word of its own waits (R157). -/
def State.releaseHeld (n : Nat) : List (Option Nat × Access) → State → State
  | [], s => s
  | e :: r, s =>
    match e.1, s.accessRange n e.2 with
    | some _, some (o, l) =>
      if (s.sleeping n o l).isSome || s.heldMeets n o l then State.releaseHeld n r (s.keepHeld n e)
      else
        let s := if e.2.isRead then s else s.countWrites n o l false
        State.releaseHeld n r (s.releaseAccess n o e.2)
    | some _, none => State.releaseHeld n r s
    | none, _ => State.releaseHeld n r (s.keepHeld n e)

/-- A bank is awake (R170): every word of it is 0, and the accesses held are released in arrival order. -/
def State.bankAwake (s : State) (n b : Nat) : State :=
  let s := (s.zeroBank n b).setBank n b .on
  State.releaseHeld n (s.core n).heldAccess (s.setCore n { s.core n with heldAccess := [] })

/-! ### The direct path to the array (R163) -/

/-- Bytes a RUN moves in all. -/
def RunX.bytes (r : RunX) : Nat := match r.prog with | some (_, _, _, e) => r.total * e | none => 0

/-- The active RUN that feeds a port: the earliest in the list. -/
def State.portRun (s : State) (n : Nat) (b : Bool) : Option RunX := (s.core n).runs.find? (fun r => r.port == some b)

/-- What comes of a RUN's remaining stream. -/
inductive Rest where
  /-- the whole of it -/
  | all
  /-- a fault, met where the pieces end -/
  | fault (f : SFault)
  /-- data that is not there yet -/
  | wait
  deriving DecidableEq, Repr

/-- The transfers of a RUN from element k on, in order, with their bytes, up to the first that faults or waits. -/
def State.restOf (s : State) (n m : Nat) (p : Prog) (src dst : Side) (elem : Nat) : Nat → Nat → List (Transfer × List Byte) × Rest
  | 0, _ => ([], .all)
  | fuel + 1, k =>
    if p.total ≤ k then ([], .all)
    else match s.element n p src dst elem k with
      | .error f => ([], .fault f)
      | .ok (x, y) =>
        let c := s.groupFrom n p src dst elem 4096 (k + 1) 1 x y
        let t : Transfer := ⟨0, k, c, c * elem, x, y, 0⟩
        match s.fetch n m t with
        | .error .wait => ([], .wait)
        | .error (.fault c) => ([(t, [])], .fault ⟨c, src.at0, match x with | .module a _ => a | .store o => storeBase n + o | .port _ => 0⟩)
        | .ok l =>
          let r := s.restOf n m p src dst elem fuel (k + c)
          ((t, l) :: r.1, r.2)

/-- The banks that the sources of a stream's pieces lie in serve them now (R170). -/
def State.touchRest (s : State) (n : Nat) (l : List (Transfer × List Byte)) : State × Bool :=
  l.foldl (fun (a : State × Bool) t =>
    let (s, ok) := a.1.touchEnds n t.1
    (s, a.2 && ok)) (s, true)

/-- What the array takes from a port (R163): nothing yet; or bytes in order, and the fault that ends them where one does (R151). -/
inductive PortOut where
  | wait
  | got (bytes : List Byte) (fault : Option (SFault × Nat))

/-- Take the stream that feeds a port: what has landed, and the rest in order. A RUN whose whole stream has come is then done; one that meets a fault leaves
the bytes before it, and the fault with the RUN's index. -/
def State.takePort (s : State) (n m : Nat) (b : Bool) : PortOut × State :=
  match s.portRun n b with
  | none => (.got [] (some (⟨7, 0, 0⟩, s.descOf m)), s)
  | some r =>
    match r.prog with
    | none => (.got [] (some (⟨7, 0, 0⟩, r.desc)), s)
    | some (p, x, y, e) =>
      let got := (s.core n).portBytes b
      let rest := s.restOf n m p x y e r.total (got.length / e)
      let (v, ready) := s.touchRest n rest.1
      if !ready then (.wait, v)
      else
        let bytes := got ++ rest.1.flatMap (·.2)
        match rest.2 with
        | .wait => (.wait, s)
        | .fault f =>
          let s := if f.cause = 5 then (match rest.1.getLast? with | some t => s.refusedAt t.1.src | none => s) else s
          (.got bytes (some (f, r.desc)), s)
        | .all =>
          let s := rest.1.foldl (fun (s : State) t => (s.countMoved n t.1).countStash (t.1.src.modAddr)) v
          let read := (r.read ++ rest.1.flatMap (fun t => s.landingsOf t.1.src t.1.len)).eraseDups
          let s := (s.core n).transfers.foldl (fun (s : State) t => if t.desc = r.desc then s.freeOwner (stageOwner n t) else s) s
          let c := (s.core n).setPort b []
          let s := s.setCore n { c with runs := c.runs.filter (fun q => q.desc != r.desc), transfers := c.transfers.filter (fun t => t.desc != r.desc) }
          let s := match r.attached with | some g => s.emit g | none => s
          (.got bytes none, (s.readLandings read).showEngine n)

end Sys2Proof.Machine
end

