-- ==== Sys2Proof/Machine/StreamOps.lean ====
section
/-! DEFINITION. The STREAM operations beside RUN: HSET, HCLOSE, WAIT_ARR, FILL, COPY (R159, R161, R165, R168, R171). -/

namespace Sys2Proof.Machine

/-! ### HSET, HCLOSE, WAIT_ARR (R161, R165, R168) -/

/-- Whether a format code of the handle table is defined (R82). -/
def fmtDefined (f : Nat) : Bool := decide (f < 0xE)

/-- Put the words of a handle's entry. -/
def State.writeHandle (s : State) (n h base len win rread layout rowlen fmt cbase : Nat) : State :=
  let s := ((s.wf (F.HANDLE_A_BASE n h) base).wf (F.HANDLE_A_VALID n h) 1).wf (F.HANDLE_A_WINDOW n h) win
  let s := ((s.wf (F.HANDLE_A_RREAD n h) rread).wf (F.HANDLE_A_LAYOUT n h) layout).wf (F.HANDLE_B_LEN_M1 n h) len
  let s := (s.wf (F.HANDLE_C_ROWLEN n h) rowlen).wf (F.HANDLE_C_FMT n h) fmt
  (s.wf (F.HANDLE_CBASE_LO_CBASE n h) (cbase % 2 ^ 32)).wf (F.HANDLE_CBASE_HI_CBASE n h) (cbase / 2 ^ 32)

/-- A close (R165): GEN rises by 1, ARR is 0; the held signals of the old generation are dropped (R310). -/
def State.closeWindow (s : State) (n h : Nat) : State :=
  ((s.wf (F.HANDLE_D_GEN n h) (s.rf (F.HANDLE_D_GEN n h) + 1)).wf (F.HANDLE_ARR_ARR n h) 0).checkHolds n h

/-- HSET's decode (R171): reserved bits of its fields are 0. -/
def hsetDecode (d : BitVec 256) : Bool :=
  descHeader d 2 && descField d 1 1 == 3 && decide (descField d 2 1 < 64) && decide (descField d 3 1 < 8) &&
    decide (descField d 4 4 < 2 ^ 21) && decide (descField d 8 4 < 2 ^ 21) && descZero d 0x15 32

/-- HSET's HANDLE checks (R161). -/
def State.hsetBad (s : State) (n h base len layout rowlen fmt : Nat) : Bool :=
  decide (2097151 < base + len) || !fmtDefined fmt || (layout == 1 && rowlen == 0) || s.flag (F.HANDLE_A_STUB n h) ||
    (List.range 64).any (fun k => k != h && s.hValid n k &&
      decide (s.hStart n k < (base + len + 1) * 4) && decide (base * 4 < s.hStart n k + s.hBytes n k))

/-- HSET (R161, R165, R170). -/
def execHset (m : Nat) (d : BitVec 256) (s : State) (k : Nat := 0) : Res :=
  .next (s.streamDo m k d fun s => match s.physOf m with
    | none => s
    | some n =>
      let h := descField d 2 1
      let f := descField d 3 1
      let base := descField d 4 4
      let len := descField d 8 4
      let rowlen := descField d 0xC 3
      let fmt := descField d 0xF 1
      if !hsetDecode d then s.fault m 1
      else if s.hBusy n h then s
      else if s.hsetBad n h base len (bits f 2 1) rowlen fmt then s.fault m 4
      else
        let s := if s.hOpen n h then s.closeWindow n h else s
        let s := s.writeHandle n h base len (bits f 0 1) (bits f 1 1) (bits f 2 1) rowlen fmt (descField d 0x10 5)
        ((s.touch n (base * 4) ((len + 1) * 4) true).1).nextDesc m)

/-- HCLOSE (R165). -/
def execHclose (m : Nat) (d : BitVec 256) (s : State) (k : Nat := 0) : Res :=
  .next (s.streamDo m k d fun s => match s.physOf m with
    | none => s
    | some n =>
      let h := descField d 2 1
      if !(descHeader d 2 && descField d 1 1 == 4 && decide (h < 64) && decide (descField d 3 1 < 2) && descZero d 4 32) then s.fault m 1
      else if s.hBusy n h then s
      else if !s.hValid n h then s.fault m 4
      else
        let s := if s.hOpen n h then s.closeWindow n h else s
        let s := (s.wf (F.HANDLE_A_WINDOW n h) 0).wf (F.HANDLE_A_RREAD n h) 0
        (if descField d 3 1 = 1 then s.wf (F.HANDLE_A_VALID n h) 0 else s).nextDesc m)

/-- WAIT_ARR (R168): done at once where ARR has reached COUNT, else the task waits. -/
def execWaitArr (m : Nat) (d : BitVec 256) (s : State) (k : Nat := 0) : Res :=
  .next (s.streamDo m k d fun s => match s.physOf m with
    | none => s
    | some n =>
      let h := descField d 2 1
      let c := descField d 4 4
      if !(descHeader d 2 && descField d 1 1 == 5 && decide (h < 64) && descField d 3 1 == 0 && descZero d 8 32) then s.fault m 1
      else if s.hBusy n h then s
      else if !s.hValid n h then s.fault m 4
      else if c ≤ s.rf (F.HANDLE_ARR_ARR n h) then s.nextDesc m
      else s.block m (.arrivals h c))

/-! ### FILL and COPY (R159, R171) -/

/-- Repeat a word's four bytes. -/
def fillBytes (v : Nat) : Nat → List Byte
  | 0 => []
  | k + 1 => natLe v 4 ++ fillBytes v k

/-- FILL (R159). -/
def execFill (m : Nat) (d : BitVec 256) (s : State) (k : Nat := 0) : Res :=
  .next (s.streamDo m k d fun s => match s.physOf m with
    | none => s
    | some n =>
      let h := descField d 2 1
      let off := descField d 4 4
      let len := descField d 8 4
      if !(descHeader d 2 && descField d 1 1 == 1 && decide (h < 64) && descField d 3 1 == 0 && decide (off < 2 ^ 23) &&
          decide (1 ≤ len) && decide (len ≤ 2097152) && descZero d 0x10 32) then s.fault m 1
      else if s.hBusy n h then s
      else if !s.hValid n h || decide (s.hBytes n h < (off + len) * 4) then s.fault m 4
      else
        let (s, ready) := s.touch n (s.hStart n h + off * 4) (len * 4) false
        if ready then (s.store (s.hAddr n h (off * 4)) (fillBytes (descField d 0xC 4) len)).nextDesc m else s)

/-- COPY (R159): the whole source is read before the destination is written. A poisoned source word faults the stream engine (R158, R181). -/
def execCopy (m : Nat) (d : BitVec 256) (u : Upset) (s : State) (k : Nat := 0) : Res :=
  .next (s.streamDo m k d fun s => match s.physOf m with
    | none => s
    | some n =>
      let hs := descField d 2 1
      let hd := descField d 3 1
      let so := descField d 4 4
      let dO := descField d 8 4
      let len := descField d 0xC 4
      if !(descHeader d 2 && descField d 1 1 == 2 && decide (hs < 64) && decide (hd < 64) && decide (so < 2 ^ 23) &&
          decide (dO < 2 ^ 23) && decide (1 ≤ len) && decide (len < 2 ^ 22) && descZero d 0x10 32) then s.fault m 1
      else if s.hWritten n hs || s.hBusy n hd then s
      else if !s.hValid n hs || !s.hValid n hd || decide (s.hBytes n hs < (so + len) * 4) ||
          decide (s.hBytes n hd < (dO + len) * 4) then s.fault m 4
      else
        let (s, r1) := s.touch n (s.hStart n hs + so * 4) (len * 4) true
        let (s, r2) := s.touch n (s.hStart n hd + dO * 4) (len * 4) false
        if !(r1 && r2) then s
        else
          let s := s.meet u
          let a := s.hAddr n hs (so * 4)
          if s.poisonedAt a (len * 4) then s.streamFault m 6 0 a (s.descOf m)
          else ((s.store (s.hAddr n hd (dO * 4)) (s.rbs a (len * 4))).consume n hs (len * 4)).nextDesc m)

end Sys2Proof.Machine
end

