-- ==== Sys2Proof/Machine/Dense.lean ====
section
/-! DEFINITION. Tensors in a core store as the arithmetic engines read and write them: managed entries, canonical buffers, conversion under
a descriptor's control (R84, R92 to R96, R106, R107, R142). -/

namespace Sys2Proof.Machine

/-! ### Rounding (R94, R95, R101) -/

/-- The Glint word of an element (R101, R142): seed and stream from the Setting, the step from CHAIN.STEP. -/
def State.glintWord (s : State) (tensor index purpose : Nat) : Word :=
  glint s.setup.seed s.setup.stream (BitVec.ofNat 32 tensor) index (BitVec.ofNat 32 (s.rf F.CHAIN_STEP_STEP)) purpose

/-- The rounding of the element at a Glint index under a conversion control (R94, R95). -/
def State.rndAt (s : State) (conv tensor index : Nat) : Rnd :=
  if bits conv 0 2 = 1 then .stochastic (glintX (s.glintWord tensor index (bits conv 8 8))) else .nearest

/-- A signed byte. -/
def sbyte (x : Nat) : Int := signedOf x 8

/-! ### Managed operands (R106, R107) -/

/-- Whether a format entry is valid. -/
def State.fmtEntryOk (s : State) (e : Nat) : Bool := s.flag (F.FMT_ENT_CFG_VALID e)

/-- Whether a format entry is of class feed. -/
def State.fmtFeed (s : State) (e : Nat) : Bool := s.flag (F.FMT_ENT_CFG_CLASS e)

/-- A descriptor of logical core m names an entry that is not valid (R106). The rule lets the event name the task and gives it no number: the model gives its
logical core (DESIGN CHOICE). -/
def State.badEntry (s : State) (m e : Nat) : State :=
  ((s.raise F.FMT_ERR_BAD_ENTRY).event 0x0306 srcHub m e 0 0).fault m 2

/-- A Bead's format differs from USE (R107). The event names the task by its logical core (DESIGN CHOICE). -/
def State.fmtMismatch (s : State) (m e fmt pass : Nat) : State :=
  ((s.raise F.FMT_ERR_MISMATCH).event 0x0305 srcHub m e fmt 0).faultAt m 3 pass

/-! ### Canonical buffers -/

/-- The bytes of a handle's buffer. -/
def State.hGet (s : State) (n h : Nat) : Nat → Byte := fun o => s.rb (s.hAddr n h o)

/-- Element i of a canonical buffer that holds tot elements. -/
def State.canon (s : State) (n h f tot : Nat) (k : Int) (i : Nat) : Num := tensorValue (s.hGet n h) f tot k i

/-- The fewest elements of a format that fill whole bytes. -/
def codeUnit (f : Nat) : Nat := if f = 0x0C then 5 else 8 / Nat.gcd 8 (elemBits f)

/-- Put codes at element i0 of a canonical buffer of tot elements: the elements that share their first and last byte keep their codes. -/
def State.putCodes (s : State) (n h f tot i0 : Nat) (cs : List Nat) : State :=
  let u := codeUnit f
  let a := i0 / u * u
  let b := roundUp (i0 + cs.length) u
  let get := s.hGet n h
  let old := fun i => if i < tot then codeAt get f i else if f = 0x0C then 1 else 0
  let all := (List.range (i0 - a)).map (fun j => old (a + j)) ++ cs ++
    (List.range (b - (i0 + cs.length))).map (fun j => old (i0 + cs.length + j))
  let start := if f = 0x0C then a / 5 else a * elemBits f / 8
  let data := (packArea f all).take (areaBytes f tot - start)
  s.store (s.hAddr n h start) data

/-- Put scale records from block b0 of a canonical buffer of tot elements. -/
def State.putRecords (s : State) (n h f tot b0 : Nat) (rs : List Nat) : State :=
  if rs.isEmpty then s else s.store (s.hAddr n h (scaleOff f tot + b0 * recBytes f)) ((rs.map (fun r => natLe r (recBytes f))).flatten)

/-- Where a result goes: the handle, its format and exponent, its managed entry, the elements its buffer holds, and the descriptor's
conversion control and tensor number. -/
structure Dest where
  h : Nat
  f : Nat
  k : Int
  entry : Option Nat
  tot : Nat
  conv : Nat
  tensor : Nat
  deriving DecidableEq, Repr

/-- A block encoder takes the scaled value rounded to FP32 where the exponent is not 0 (R97 to R99). -/
def toDest (d : Dest) (w : Word) : Num :=
  let x := (f32 w).scale (-d.k)
  if blockLen d.f ≠ 0 ∧ d.k ≠ 0 then f32 (toF32 x) else x

/-- Convert a run of FP32 results and write it from element i0 on (R94 to R99, R142): the values as stored come back. A managed destination's
conversions are counted (R109). -/
def State.writeRun (s : State) (n : Nat) (d : Dest) (i0 : Nat) (ws : List Word) : State × List Num :=
  let xs := ws.map (toDest d)
  let base := s.hCbase n d.h + i0
  let (recs, cs, t) := convertRun d.f (convSat d.conv) (fun j => s.rndAt d.conv d.tensor (base + j)) xs.length 0 xs
  let bl := blockLen d.f
  let stored := (cs.zip (List.range cs.length)).map (fun p =>
    codeValue d.f p.1 (if bl = 0 then 0 else nth recs (p.2 / bl) 0) (if bl = 0 then 0 else p.2 % bl) d.k)
  let s := (s.putCodes n d.h d.f d.tot i0 cs).putRecords n d.h d.f d.tot (if bl = 0 then 0 else i0 / bl) recs
  let s := match d.entry with | some e => s.countConv e t (ws.map f32) | none => s
  (s.nanScale t (d.entry.getD 0), stored)

/-- Write FP32 words without rounding from element i0 on (R140). -/
def State.writeWide (s : State) (n h i0 : Nat) (ws : List Word) : State × List Num :=
  (s.store (s.hAddr n h (4 * i0)) (ws.flatMap (fun w => natLe w.toNat 4)), ws.map f32)

/-- Free bytes over a range of a handle's buffer: what a torn write-out leaves (R151). -/
def State.tear (s : State) (n h o len : Nat) : State :=
  let (l, s) := s.freeBytes len
  s.wbs (s.hAddr n h o) l

/-- The scale records that count elements from element i0 on of a block format have, in a canonical buffer of tot elements, become undefined too. -/
def State.tearRecords (s : State) (n h f tot i0 count : Nat) : State :=
  let bl := blockLen f
  if bl = 0 ∨ count = 0 then s
  else s.tear n h (scaleOff f tot + i0 / bl * recBytes f) (((i0 + count - 1) / bl - i0 / bl + 1) * recBytes f)

/-- The highest Glint index (R101). -/
def indexMax : Nat := 2 ^ 40 - 1

end Sys2Proof.Machine
end

