-- ==== Sys2Proof/Machine/Array.lean ====
section
/-! DEFINITION. The matrix array: geometry, feed layout, passes, chains, sentinel samples (R125 to R142, R149 to R153, R161 to R163). -/

namespace Sys2Proof.Machine

/-- The fields that R132 holds equal over a chain. -/
def ArrayDesc.chainKey (x : ArrayDesc) : List Nat :=
  [x.mode, x.m, x.n, x.fc, x.kc, b2n x.manC, x.ec, x.hc, x.conv, x.tensor]

/-! ### Operands -/

/-- An operand as the passes read it: the format and exponent of its value in a pass, the format its bytes hold, whether the feed converter
narrows it and into which entry, the bytes of a DIRECT stream, and the format that sizes the blocks of a feed buffer: the handle's (R160, R162). -/
structure Operand where
  h : Nat
  f : Nat
  k : Int
  raw : Nat
  conv : Bool
  entry : Option Nat
  noref : Bool
  direct : Option (List Byte)
  moving : Bool
  size : Nat
  deriving DecidableEq, Repr

/-- Build an operand (R92, R106, R107). A feed entry converts a source held at FP32 or BF16 that is not in the format USE already. Where the format of a
descriptor and that of its handle differ, the handle's sizes the blocks and the descriptor's reads the codes in them (DESIGN CHOICE). -/
def State.operand (s : State) (n h f kb : Nat) (man : Bool) (e : Nat) (direct : Option (List Byte)) (moving : Bool) : Operand :=
  let size := fun (raw : Nat) => if direct.isNone then s.rf (F.HANDLE_C_FMT n h) else raw
  if man then
    let use := s.rf (F.FMT_ENT_STATE_USE e)
    let k := sbyte (s.rf (F.FMT_ENT_STATE_USE_K e))
    let src := s.rf (F.HANDLE_C_FMT n h)
    let wide := direct.isNone && (src == 0 || src == 1)
    if s.fmtFeed e then
      if wide && src != use then ⟨h, use, k, src, true, some e, false, direct, moving, src⟩
      else ⟨h, use, k, use, false, some e, !wide, direct, moving, size use⟩
    else ⟨h, use, k, use, false, some e, false, direct, moving, size use⟩
  else ⟨h, f, sbyte kb, f, false, none, false, direct, moving, size f⟩

/-- Where the elements of one row or column of a tile lie: the pass, the sub-array, the tile's number along its own axis, the index within the tile, the
index in the whole operand, the operand's extent, its slices, and its reduction depth. -/
structure Line where
  pass : Nat
  sub : Nat
  unit : Nat
  i : Nat
  outer : Nat
  extent : Nat
  slices : Nat
  depth : Nat
  deriving DecidableEq, Repr

/-- Whether a mode places its operands by pass (R162). -/
def byPass (mode : Nat) : Bool := mode == 1 || mode == 2

/-- Byte offset of the slice block of a line (R162, R163): a stream holds the blocks in the order of the passes. -/
def State.blockAt (s : State) (n mode : Nat) (g : Geo) (o : Operand) (l : Line) (slice : Nat) : Nat :=
  match o.direct with
  | some _ => (l.pass * l.slices + slice) * sliceBytes o.size g o.moving
  | none =>
    ((if byPass mode then l.pass else l.unit) * ceilDiv (s.rf (F.HANDLE_C_ROWLEN n o.h)) g.kg + slice) * sliceBytes o.size g o.moving

/-- Element k of a line: the byte its code area starts at, its index in that area, and the byte of its scale record. -/
def State.locate (s : State) (n mode : Nat) (g : Geo) (o : Operand) (l : Line) (k : Nat) : Nat × Nat × Nat :=
  let f := o.raw
  let bl := blockLen f
  if o.direct.isNone && !s.flag (F.HANDLE_A_LAYOUT n o.h) then
    let rl := s.rf (F.HANDLE_C_ROWLEN n o.h)
    let i := if o.moving then l.outer * rl + k else k * rl + l.outer
    let tot := (if o.moving then l.extent else l.depth) * rl
    (0, i, if bl = 0 then 0 else scaleOff f tot + i / bl * recBytes f)
  else
    let sl := k / g.kg
    let b := s.blockAt n mode g o l sl
    let j := if bl = 0 then 0 else k / bl - sl * g.kg / bl
    if o.moving then
      let b := b + (l.i * g.subs + l.sub) * segBytes o.size g.kg
      (b, k % g.kg, b + areaBytes f g.kg + j * recBytes f)
    else
      let rowB := areaBytes o.size (g.subs * g.cols)
      let c := l.sub * g.cols + l.i
      (b + k % g.kg * rowB, c, b + g.kg * rowB + (c * recsPer f g.kg + j) * recBytes f)

/-- The bytes an operand is read from. -/
def State.operandGet (s : State) (n : Nat) (o : Operand) : Nat → Byte :=
  match o.direct with
  | some l => fun i => nth l i 0#8
  | none => s.hGet n o.h

/-- The value of element k of a line as its bytes give it (R92). -/
def State.elemOf (s : State) (n mode : Nat) (g : Geo) (o : Operand) (l : Line) (k : Nat) : Num :=
  let get := s.operandGet n o
  let (b, i, r) := s.locate n mode g o l k
  let bl := blockLen o.raw
  let rec0 := if bl = 0 then 0 else leNat ((List.range (recBytes o.raw)).map (fun j => get (r + j)))
  let place := if bl = 0 then 0 else if o.direct.isNone && !s.flag (F.HANDLE_A_LAYOUT n o.h) then i % bl else k % bl
  codeValue o.raw (codeAt (fun j => get (b + j)) o.raw i) rec0 place (if o.conv then 0 else o.k)

/-- The invalid T2 bytes that a line's elements lie in (R91). -/
def State.badT2 (s : State) (n mode : Nat) (g : Geo) (o : Operand) (l : Line) (k0 cnt : Nat) : List Nat :=
  if o.raw ≠ 0x0C then []
  else
    ((List.range cnt).filterMap (fun j =>
      let (b, i, _) := s.locate n mode g o l (k0 + j)
      let get := s.operandGet n o
      if t2Invalid (fun x => get (b + x)) i then some (b + i / 5) else none)).eraseDups

/-- A line's values in a pass, its values rounded to BF16 for the sentinel, and what the feed converter counted (R107, R111). -/
structure Fed where
  vals : List Num
  ref : List Num
  raw : List Num
  tally : Tally
  bad : List Nat
  deriving DecidableEq, Repr

/-- Convert a line to a managed feed's format by round to nearest even with SAT = 1, or by its block encoder (R107). -/
def feedConvert (f : Nat) (k : Int) (xs : List Num) : List Num × Tally :=
  let ys := xs.map (fun x => x.scale (-k))
  let (recs, cs, t) := convertRun f true (fun _ => .nearest) ys.length 0 ys
  let bl := blockLen f
  ((cs.zip (List.range cs.length)).map (fun p =>
    codeValue f p.1 (if bl = 0 then 0 else nth recs (p.2 / bl) 0) (if bl = 0 then 0 else p.2 % bl) k), t)

/-- A number rounded to BF16. -/
def toBf16 (x : Num) : Num := fpBf16.decode (convert 1 false .nearest x).1

/-- Read elements k0 to k0 + cnt of a line. -/
def State.feed (s : State) (n mode : Nat) (g : Geo) (o : Operand) (l : Line) (k0 cnt : Nat) : Fed :=
  let xs := (List.range cnt).map (fun j => s.elemOf n mode g o l (k0 + j))
  let bad := s.badT2 n mode g o l k0 cnt
  if o.conv then
    let (v, t) := feedConvert o.f o.k xs
    ⟨v, xs.map toBf16, xs, t, bad⟩
  else ⟨xs, xs, [], .zero, bad⟩

/-! ### The arithmetic of a tile (R100, R133) -/

/-- Add the slices of a reduction to an accumulator (R100). -/
def dotSlices (kg : Nat) : Nat → List Num → List Num → Word → Word
  | 0, _, _, acc => acc
  | fuel + 1, a, b, acc =>
    if a.isEmpty then acc
    else dotSlices kg fuel (a.drop kg) (b.drop kg)
      (fAdd acc (treeOf kg (((a.take kg).zip (b.take kg)).map (fun p => toF32 (p.1.mul p.2)))))

/-- A tile's results, row by row: for ELEMENT the operands' lines are rows of the tile, for the others rows of A and columns of B. -/
def tileResult (element : Bool) (kg : Nat) (a b : List (List Num)) (init : List (List Word)) : List (List Word) :=
  if element then
    ((a.zip b).zip init).map (fun r => ((r.1.1.zip r.1.2).zip r.2).map (fun c => fAdd c.2 (treeOf 64 [toF32 (c.1.1.mul c.1.2)])))
  else
    (a.zip init).map (fun r => (b.zip r.2).map (fun c => dotSlices kg (r.1.length + 1) r.1 c.1 c.2))

/-- One operand's lines of a tile. -/
def State.lines (s : State) (n : Nat) (x : ArrayDesc) (g : Geo) (o : Operand) (p q : Nat) (t : TileAt) (isA : Bool) : List Fed :=
  let element := x.stat == 3
  let sl := if element then ceilDiv x.n g.kg else ceilDiv x.k g.kg
  let (cnt, unit, first, extent) :=
    if isA || element then (t.rows, t.tm, t.m0, x.m) else (t.cols, t.tn, t.n0, x.n)
  let sl := if o.direct.isSome && element then 1 else sl
  let k0 := if element && o.direct.isNone then t.n0 else 0
  (List.range cnt).map (fun i => s.feed n x.mode g o ⟨p, q, unit, i, first + i, extent, sl, x.k⟩ k0 (if element then t.cols else x.k))

/-- The column of a tile that the sentinel recomputes for its j-th facet group (R111). -/
def sentinelColumns (g : Geo) (p q : Nat) : List Nat :=
  let per := ceilDiv g.cols 16
  (List.range per).map (fun j => 16 * j + (p + 5 * (q * per + j)) % 16)

/-- The outputs of one sentinel column of a tile: columns of C, or rows of C under INPUT. -/
def pickColumn (input : Bool) (r : List (List Word)) (c : Nat) : List Num :=
  if input then (nth r c []).map f32 else (r.filterMap (fun row => row[c]?)).map f32

/-- Take the error samples of a tile into an entry (R111, R112); a column beyond a partial tile's width takes none. -/
def State.sampleTile (s : State) (e : Nat) (input : Bool) (g : Geo) (p q : Nat) (t : TileAt) (y z : List (List Word)) : State :=
  (sentinelColumns g p q).foldl (fun (s : State) c =>
    if c < (if input then t.rows else t.cols) then s.sample e (errorBin (pickColumn input y c) (pickColumn input z c)) else s) s

/-! ### A pass -/

/-- The accumulators a tile starts from (R140). -/
def State.initTile (s : State) (n : Nat) (x : ArrayDesc) (held : List Word) (off : Nat) (t : TileAt) : List (List Word) :=
  let rl := s.rf (F.HANDLE_C_ROWLEN n x.hc)
  (List.range t.rows).map (fun i => (List.range t.cols).map (fun j =>
    match x.accIn with
    | 0 => f32Zero
    | 1 => BitVec.ofNat 32 (s.rle (s.hAddr n x.hc (4 * ((t.m0 + i) * rl + t.n0 + j))) 4)
    | _ => nth held (off + i * t.cols + j) f32Zero))

/-- What a pass has computed of one tile. -/
structure TileOut where
  sub : Nat
  tile : TileAt
  out : List (List Word)
  a : List Fed
  b : List Fed
  init : List (List Word)
  deriving DecidableEq, Repr

/-- Compute a pass's tiles; off counts the accumulators of the tiles before. -/
def State.passTiles (s : State) (n : Nat) (x : ArrayDesc) (g : Geo) (oa ob : Operand) (held : List Word) (p : Nat) :
    Nat → Nat → List TileAt → List TileOut
  | _, _, [] => []
  | q, off, t :: r =>
    let a := s.lines n x g oa p q t true
    let b := s.lines n x g ob p q t false
    let init := s.initTile n x held off t
    ⟨q, t, tileResult (x.stat == 3) g.kg (a.map (·.vals)) (b.map (·.vals)) init, a, b, init⟩ ::
      s.passTiles n x g oa ob held p (q + 1) (off + t.rows * t.cols) r

/-- Count what a pass's feeds converted and read (R91, R109, R111). -/
def State.countFeed (s : State) (o : Operand) (fs : List Fed) : State :=
  let s := s.invalidT2 o.entry (fs.flatMap (·.bad)).eraseDups.length
  match o.entry with
  | some e =>
    if o.conv then
      fs.foldl (fun (s : State) f => (s.countConv e f.tally f.raw).nanScale f.tally e) s
    else s
  | none => s

/-- Take a pass's samples for one managed feed that is narrowed (R111): y is the pass's accumulator, z the one of the reference run. -/
def State.samplePass (s : State) (x : ArrayDesc) (g : Geo) (o : Operand) (isA : Bool) (p : Nat) (ts : List TileOut) : State :=
  match o.entry with
  | none => s
  | some e =>
    if o.noref then s.noRef e
    else if o.conv ∧ o.f ≠ 0 then
      ts.foldl (fun (s : State) t =>
        let z := tileResult (x.stat == 3) g.kg (t.a.map (fun f => if isA then f.ref else f.vals))
          (t.b.map (fun f => if isA then f.vals else f.ref)) t.init
        s.sampleTile e (x.stat == 1) g p t.sub t.tile t.out z) s
    else s

/-- Write a pass's results (R140, R142): rows in order, tile by tile; a KEEP member holds them instead. -/
def State.writePass (s : State) (n m : Nat) (x : ArrayDesc) (d : Dest) (ts : List TileOut) : State :=
  let rl := s.rf (F.HANDLE_C_ROWLEN n x.hc)
  ts.foldl (fun (s : State) t =>
    ((t.out.zip (List.range t.out.length)).foldl (fun (s : State) r =>
      let i0 := (t.tile.m0 + r.2) * rl + t.tile.n0
      let (s, v) := if x.accOut = 0 then s.writeRun n d i0 r.1 else s.writeWide n x.hc i0 r.1
      if x.norm then s.addNorm m x.slot v else s) s)) s

/-- Rate class r in sixteenths (R127). -/
def rate16 (fa fb : Nat) : Nat :=
  let cls := fun f => if f = 0 then 4 else if f = 1 ∨ f = 2 then 3 else if f = 0x0C then 0 else if f = 9 ∨ f = 0xA ∨ f = 0xB ∨ f = 0xD then 1 else 2
  nth [64, 32, 16, 8, 1] (max (cls fa) (cls fb)) 16

/-- Ticks of a pass with a row in broadcast (R131, R133). -/
def busyTicks (x : ArrayDesc) (g : Geo) (fa fb : Nat) (ts : List TileAt) : Nat :=
  if x.stat = 3 then (ts.map (fun t => ceilDiv (t.rows * t.cols * 16) (64 * rate16 fa fb))).sum
  else ceilDiv x.k g.kg * ceilDiv ((ts.foldl (fun a t => max a (if x.stat = 1 then t.cols else t.rows)) 0) * 16) (rate16 fa fb)

/-- Add to the pass counter and the busy counter (R154). -/
def State.countPass (s : State) (n ticks : Nat) : State :=
  let p := s.rpair (F.CORE_PASSES_LO_PASSES n) (F.CORE_PASSES_HI_PASSES n) + 1
  let b := s.rpair (F.CORE_BUSY_LO_BUSY n) (F.CORE_BUSY_HI_BUSY n) + ticks
  (s.wpair (F.CORE_PASSES_LO_PASSES n) (F.CORE_PASSES_HI_PASSES n) (p % 2 ^ 64)).wpair (F.CORE_BUSY_LO_BUSY n) (F.CORE_BUSY_HI_BUSY n) (b % 2 ^ 64)

/-- The byte ranges of the store that a pass reads for an operand: its slice blocks, or the whole of a canonical buffer. -/
def State.passRanges (s : State) (n : Nat) (x : ArrayDesc) (g : Geo) (o : Operand) (p : Nat) (ts : List TileAt) (isA : Bool) : List (Nat × Nat) :=
  if o.direct.isSome then []
  else if !s.flag (F.HANDLE_A_LAYOUT n o.h) then [(s.hAddr n o.h 0, s.hBytes n o.h)]
  else
    let cnt := if x.stat = 3 then 1 else ceilDiv x.k g.kg
    (ts.flatMap (fun t =>
      let unit := if isA || x.stat == 3 then t.tm else t.tn
      (List.range cnt).map (fun j =>
        let sl := if x.stat = 3 then t.tn else j
        (s.hAddr n o.h (s.blockAt n x.mode g o ⟨p, 0, unit, 0, 0, 0, cnt, x.k⟩ sl), sliceBytes o.size g o.moving)))).eraseDups

/-- Whether a pass reads a poisoned word (R153). -/
def State.passPoison (s : State) (n : Nat) (x : ArrayDesc) (g : Geo) (oa ob : Operand) (p : Nat) (ts : List TileAt) : Bool :=
  let rl := s.rf (F.HANDLE_C_ROWLEN n x.hc)
  let acc := if x.accIn = 1 then ts.flatMap (fun t => (List.range t.rows).map (fun i => (s.hAddr n x.hc (4 * ((t.m0 + i) * rl + t.n0)), 4 * t.cols))) else []
  (s.passRanges n x g oa p ts true ++ s.passRanges n x g ob p ts false ++ acc).any (fun r => s.poisonedAt r.1 r.2)

/-- What befalls a pass before its write-out (R153): a poisoned operand, parity of the accumulators or of a latch. -/
def State.passFault (s : State) (n : Nat) (x : ArrayDesc) (g : Geo) (oa ob : Operand) (u : Upset) (p : Nat) (ts : List TileAt) : Option Nat :=
  if s.passPoison n x g oa ob p ts then some 5
  else match u with
    | .accParity q => if p = q then some 6 else none
    | .latchParity q => if p = q then some 7 else none
    | _ => none

/-- The write-out of a pass is torn (R151): every range that the pass writes holds undefined bytes, scale records included. -/
def State.tearPass (s : State) (n : Nat) (x : ArrayDesc) (d : Dest) (ts : List TileAt) : State :=
  let rl := s.rf (F.HANDLE_C_ROWLEN n x.hc)
  let w := if x.accOut = 0 then elemBits d.f else 32
  ts.foldl (fun (s : State) t => (List.range t.rows).foldl (fun (s : State) i =>
    let i0 := (t.m0 + i) * rl + t.n0
    let s := if x.accOut = 0 then s.tearRecords n x.hc d.f d.tot i0 t.cols else s
    if x.accOut = 0 ∧ d.f = 0x0C then s.tear n x.hc (i0 / 5) (ceilDiv (i0 + t.cols) 5 - i0 / 5)
    else s.tear n x.hc (i0 * w / 8) (ceilDiv ((i0 + t.cols) * w) 8 - i0 * w / 8)) s) s

/-- Compute a pass (R130): its tiles, with its counts and samples. -/
def State.runPass (s : State) (n : Nat) (x : ArrayDesc) (g : Geo) (oa ob : Operand) (held : List Word) (p : Nat) (ts : List TileAt) : State × List TileOut :=
  let outs := s.passTiles n x g oa ob held p 0 0 ts
  let s := (s.countFeed oa (outs.flatMap (·.a))).countFeed ob (outs.flatMap (·.b))
  let s := (s.samplePass x g oa true p outs).samplePass x g ob false p outs
  (s.countPass n (busyTicks x g oa.f ob.f ts), outs)

/-- Run the passes from P on (R130, R151): each in turn, until one faults or the boundary of R150 after one stops the descriptor. -/
def State.runPasses (n m : Nat) (x : ArrayDesc) (g : Geo) (oa ob : Operand) (d : Dest) (u : Upset) :
    Nat → List (List TileAt) → State → State × RunEnd
  | _, [], s => (s, .done)
  | p, ts :: r, s =>
    match s.passFault n x g oa ob u p ts with
    | some c => (s.faultAt m c p, .failed)
    | none =>
      if u = .torn p then ((s.tearPass n x d ts).faultAt m 0xC p, .failed)
      else
        let (s, outs) := s.runPass n x g oa ob [] p ts
        let s := s.writePass n m x d outs
        if u = .boundary p ∧ !r.isEmpty ∧ oa.direct.isNone ∧ ob.direct.isNone then (s.stopAt m (p + 1), .stopped)
        else State.runPasses n m x g oa ob d u (p + 1) r s

/-! ### Issue -/

/-- Whether a stored operand's buffer holds what the descriptor reads (R162). -/
def State.operandFits (s : State) (n : Nat) (x : ArrayDesc) (g : Geo) (o : Operand) (isA : Bool) (passes : Nat) : Bool :=
  let rl := s.rf (F.HANDLE_C_ROWLEN n o.h)
  let element := x.stat == 3
  let depth := if element then x.n else x.k
  let outer := if isA || element then x.m else x.n
  if s.flag (F.HANDLE_A_LAYOUT n o.h) then
    let unit := if o.moving then g.rows else g.cols
    let units := if byPass x.mode then passes else ceilDiv outer unit
    decide (depth ≤ rl) &&
      decide (((units - 1) * ceilDiv rl g.kg + ceilDiv depth g.kg) * sliceBytes o.size g o.moving ≤ s.hBytes n o.h)
  else
    decide ((if o.moving then depth else outer) ≤ rl) &&
      decide (tensorBytes o.raw ((if o.moving then outer else depth) * rl) ≤ s.hBytes n o.h)

/-- Whether C's buffer holds what the descriptor reads and writes. Blocks of C lie in its canonical order, so its rows hold whole blocks. -/
def State.destFits (s : State) (n : Nat) (x : ArrayDesc) (d : Dest) : Bool :=
  let rl := s.rf (F.HANDLE_C_ROWLEN n x.hc)
  s.hValid n x.hc && decide (x.n ≤ rl) &&
    ((x.accIn ≠ 1 && x.accOut ≠ 1) || decide (4 * ((x.m - 1) * rl + x.n) ≤ s.hBytes n x.hc)) &&
    (x.accOut ≠ 0 ||
      (if blockLen d.f = 0 then decide (areaBytes d.f ((x.m - 1) * rl + x.n) ≤ s.hBytes n x.hc)
       else rl % blockLen d.f == 0 && decide (tensorBytes d.f (x.m * rl) ≤ s.hBytes n x.hc)))

/-- The format of the Bead that feeds a DIRECT operand, or of the buffer that holds a stored one (R107). -/
def State.operandFormat (s : State) (n h : Nat) (direct : Bool) (b : Bool) : Option Nat :=
  if direct then
    match (s.portRun n b).bind RunX.prog with
    | some (_, src, _, _) => if src.space = 0 then (s.landingAt src.value).map (fun l => leAt l.head 2 1) else none
    | none => none
  else some (s.rf (F.HANDLE_C_FMT n h))

/-- A managed weight operand whose Bead is not in the format USE (R107). -/
def State.operandMismatch (s : State) (n h : Nat) (man : Bool) (e : Nat) (direct b : Bool) : Option Nat :=
  if man && !s.fmtFeed e then
    match s.operandFormat n h direct b with
    | some f => if f = s.rf (F.FMT_ENT_STATE_USE e) then none else some f
    | none => none
  else none

/-- The landed Bead that feeds a DIRECT operand, where its SCALE_LEN does not fit the elements the descriptor takes (R84). A stored operand has no header
at hand: its buffer is checked by its length alone. -/
def State.scaleMismatch (s : State) (n : Nat) (direct b : Bool) (elems : Nat) : Bool :=
  direct && (match (s.portRun n b).bind RunX.prog with
    | some (_, src, _, _) => src.space == 0 && (match s.landingAt src.value with
      | some l => let f := leAt l.head 2 1; decide (leAt l.head 0x18 4 ≠ blocksOf f elems * recBytes f)
      | none => false)
    | none => false)

/-- Take a DIRECT operand's stream, or nothing for a stored one (R163): a RUN that is not there, or moves other than what the descriptor reads, is a stream fault
before any pass. -/
def State.takeDirect (s : State) (n m : Nat) (direct b : Bool) (need : Nat) : PortOut × State :=
  if direct then
    match s.portRun n b with
    | none => (.got [] (some (⟨7, 0, 0⟩, s.descOf m)), s)
    | some r => if r.bytes ≠ need then (.got [] (some (⟨7, 0, 0⟩, s.descOf m)), s) else s.takePort n m b
  else (.got [] none, s)

/-! ### Chains (R132, R149) -/

/-- The chain that ARRAY descriptor d continues or would begin. -/
def State.chainFor (s : State) (m n : Nat) (d : BitVec 256) : ChainHeld := ((s.core n).chain).getD ⟨d, s.descOf m, 0, none, [], none⟩

/-- The index of a member that was passed over, where d is one (R149). -/
def State.passedOver (s : State) (n : Nat) (d : BitVec 256) : Option Nat :=
  (s.core n).chain.bind (fun c => (c.passed.find? (fun e => e.2 == d)).map (·.1))

/-- The chain rules of R132. -/
def State.chainOk (s : State) (n : Nat) (d : BitVec 256) (x : ArrayDesc) (passes : Nat) : Bool :=
  match (s.core n).chain with
  | some c =>
    (s.passedOver n d).isSome ||
      (x.accIn == 2 && decide (c.members < 64) && decide (x.chainKey = (arrayDesc c.first).chainKey) && passes == 1 && c.last.isNone)
  | none => x.accIn != 2 && (x.accOut != 2 || passes == 1)

/-- Whether the descriptor is a member of an OUTPUT chain: it keeps a tile or goes on with one. -/
def State.inChain (s : State) (n : Nat) (x : ArrayDesc) : Bool := (s.core n).chain.isSome || x.accOut == 2

/-- Put a core's chain; CHAIN_HELD shows a tile held (R154). -/
def State.setHeldChain (s : State) (n : Nat) (c : Option ChainHeld) : State :=
  (s.setCore n { s.core n with chain := c }).wflag (F.CORE_STATE_CHAIN_HELD n) (match c with | some x => x.acc.isSome | none => false)

/-- Whether the B operand of a member is ready (R149): no RUN writes it any more, or its stream stands at the port. -/
def State.operandReady (s : State) (n m : Nat) (x : ArrayDesc) : Bool :=
  if x.dirB then (match (s.takePort n m true).1 with | .wait => false | .got _ _ => true) else !s.hWritten n x.hb

/-- A member whose B operand is not ready is passed over (R149). -/
def State.passOver (s : State) (m n : Nat) (d : BitVec 256) : State :=
  let c := s.chainFor m n d
  (s.setHeldChain n (some { c with members := c.members + 1, passed := c.passed ++ [(s.descOf m, d)] })).nextDesc m

/-- One member of a chain runs (R132): it adds its K loop to the tile; when every member has run, the last one's write-out ends the chain. A member that runs
before one earlier in the list counts CHAIN_ORDER (R149). -/
def State.runMember (s : State) (m n : Nat) (d : BitVec 256) (x : ArrayDesc) (g : Geo) (oa ob : Operand) (dest : Dest) (u : Upset) (ts : List TileAt) :
    State :=
  let c := s.chainFor m n d
  let again := (s.passedOver n d).isSome
  let idx := (s.passedOver n d).getD (s.descOf m)
  let owed := c.passed.filter (fun e => e.1 != idx)
  let x1 := { x with accIn := if c.acc.isSome then 2 else (arrayDesc c.first).accIn }
  let fin := if x.accOut = 2 then c.last.map (·.2) else some d
  let xl := match fin with | some e => arrayDesc e | none => x
  let ends := owed.isEmpty && fin.isSome
  match s.passFault n x1 g oa ob u 0 ts with
  | some k => s.faultAt m k c.at0
  | none =>
    if ends && u == .torn 0 then (s.tearPass n xl dest ts).faultAt m 0xC c.at0
    else
      let (s, outs) := s.runPass n x1 g oa ob (c.acc.getD []) 0 ts
      let s := if owed.any (fun e => decide (e.1 < idx)) then s.taskVariance 0x01 m idx else s
      let s := if ends then (s.writePass n m xl dest outs).setHeldChain n none
        else s.setHeldChain n (some { c with members := if again then c.members else c.members + 1, acc := some ((outs.flatMap (·.out)).flatten), passed := owed,
                                             last := if x.accOut = 2 then c.last else some (idx, d) })
      if again then s.settleTask m else s.nextDesc m

/-- The operands A and B of a descriptor, with the bytes of a DIRECT one as its stream gives them. -/
def State.operandA (s : State) (n : Nat) (x : ArrayDesc) (direct : Option (List Byte)) : Operand :=
  s.operand n x.ha x.fa x.ka x.manA x.ea direct (x.stat != 1)
def State.operandB (s : State) (n : Nat) (x : ArrayDesc) (direct : Option (List Byte)) : Operand :=
  s.operand n x.hb x.fb x.kb x.manB x.eb direct (x.stat == 1 || x.stat == 3)

/-- Where a descriptor's results go (R106, R139). -/
def State.arrayDest (s : State) (n : Nat) (x : ArrayDesc) : Dest :=
  ⟨x.hc, s.fmtC x, if x.manC then sbyte (s.rf (F.FMT_ENT_STATE_CAST_K x.ec)) else sbyte x.kc,
    if x.manC then some x.ec else none, x.m * s.rf (F.HANDLE_C_ROWLEN n x.hc), x.conv, x.tensor⟩

/-- The passes whose whole stream has come before a fault that ends it, and that fault. -/
def passesBefore (bytes : List Byte) (per : Nat) (f : Option (SFault × Nat)) : Option (Nat × SFault × Nat) :=
  f.map (fun e => (if per = 0 then 0 else bytes.length / per, e))

/-- The earlier of two streams' faults. -/
def firstEnd (a b : Option (Nat × SFault × Nat)) : Option (Nat × SFault × Nat) :=
  match a, b with
  | some x, some y => if y.1 < x.1 then some y else some x
  | some x, none => some x
  | none, y => y

/-- The bytes that the descriptor reads of its stored operands' handles, for the deadlines of the RUNs behind them (R180). -/
def State.consumeStored (s : State) (n : Nat) (x : ArrayDesc) (g : Geo) (oa ob : Operand) (passes : Nat) : State :=
  let one := fun (s : State) (o : Operand) => if o.direct.isSome then s else s.consume n o.h (directBytes x g o.size o.moving passes)
  one (one s oa) ob

/-- An ARRAY descriptor whose checks have passed: feeds, then its passes from the one it stands at, or its part of a chain. A stream that faults lets the passes
before it run (R151, R152). -/
def State.arrayRun (s : State) (m n : Nat) (d : BitVec 256) (x : ArrayDesc) (g : Geo) (dest : Dest) (passes : List (List TileAt)) (u : Upset) :
    State :=
  let pa := s.operandA n x (if x.dirA then some [] else none)
  let pb := s.operandB n x (if x.dirB then some [] else none)
  match s.takeDirect n m x.dirA false (directBytes x g pa.raw pa.moving passes.length) with
  | (.wait, v) => v
  | (.got da fa, s1) =>
    match s1.takeDirect n m x.dirB true (directBytes x g pb.raw pb.moving passes.length) with
    | (.wait, _) => s
    | (.got db fb, s) =>
      let s := s.wf (F.CORE_STATE_MODE n) x.mode
      let oa := { pa with direct := if x.dirA then some da else none }
      let ob := { pb with direct := if x.dirB then some db else none }
      match firstEnd (passesBefore da (directBytes x g pa.raw pa.moving 1) fa) (passesBefore db (directBytes x g pb.raw pb.moving 1) fb) with
      | some (k, f, i) =>
        if s.inChain n x then s.streamFaultAt m f.cause f.instr f.addr i (s.chainFor m n d).at0
        else match State.runPasses n m x g oa ob dest u 0 (passes.take k) s with
          | (s, .failed) => s
          | (s, _) => s.streamFaultAt m f.cause f.instr f.addr i k
      | none =>
        if s.inChain n x then s.runMember m n d x g oa ob dest u (passes.headD [])
        else match State.runPasses n m x g oa ob dest u (s.passOf m) (passes.drop (s.passOf m)) s with
          | (s, .done) => (s.consumeStored n x g oa ob passes.length).nextDesc m
          | (s, .stopped) => s.settleTask m
          | (s, .failed) => s

/-- Whether a tile of N is wider than the array presents (R136). -/
def tooWide (x : ArrayDesc) (passes : List (List TileAt)) (w : Nat) : Bool :=
  decide (w < 64) && (x.mode != 0 || passes.any (fun p => p.any (fun t => decide (w < t.cols))))

/-- The first fault of a managed or DIRECT operand at its first slice: MISMATCH with its entry and the format found (R107), or SCALE (R84). -/
def State.firstSlice (s : State) (m n : Nat) (x : ArrayDesc) : Option State :=
  match s.operandMismatch n x.ha x.manA x.ea x.dirA false, s.operandMismatch n x.hb x.manB x.eb x.dirB true with
  | some f, _ => some (s.fmtMismatch m x.ea f 0)
  | _, some f => some (s.fmtMismatch m x.eb f 0)
  | none, none =>
    if s.scaleMismatch n x.dirA false (x.m * (if x.stat = 3 then x.n else x.k)) ||
        s.scaleMismatch n x.dirB true ((if x.stat = 3 then x.m else x.k) * x.n) then some (s.faultAt m 0xE 0)
    else none

/-- The checks at issue and the wait of R124, then the passes. A member of a MAY_VARY chain whose B operand is not ready is passed over (R149). -/
def State.arrayIssue (s : State) (m n : Nat) (d : BitVec 256) (x : ArrayDesc) (g : Geo) (u : Upset) : State :=
  let passes := x.passes g
  let rl := s.rf (F.HANDLE_C_ROWLEN n x.hc)
  let dest := s.arrayDest n x
  let pa := s.operandA n x none
  let pb := s.operandB n x none
  let hs := (if x.dirA then [] else [(x.ha, true)]) ++ (if x.dirB then [] else [(x.hb, true)]) ++ [(x.hc, false)]
  if !s.chainOk n d x passes.length then s.fault m 8
  else if tooWide x passes (s.rf (F.CORE_COLMAP_WIDTH n)) then s.fault m 9
  else if s.hValid n x.hc ∧ indexMax < s.hCbase n x.hc + (x.m - 1) * rl + x.n - 1 then s.fault m 0xD
  else if (!x.dirA && s.hWritten n x.ha) || s.hBusy n x.hc then s
  else if !s.operandReady n m x then
    (if s.inChain n x && descMayVary (s.chainFor m n d).first && (s.passedOver n d).isNone then s.passOver m n d else s)
  else if (!x.dirA && !s.hValid n x.ha) || (!x.dirB && !s.hValid n x.hb) || !s.destFits n x dest ||
      (!x.dirA && !s.operandFits n x g pa true passes.length) || (!x.dirB && !s.operandFits n x g pb false passes.length) then s.fault m 4
  else
    match s.firstSlice m n x with
    | some v => v
    | none =>
      let (s, ready) := s.touchHandles n hs
      if ready then (s.meet u).arrayRun m n d x g dest passes u else s

/-- An ARRAY descriptor (R125 to R142): decode checks, entries, then issue. -/
def State.arrayDo (s : State) (m : Nat) (d : BitVec 256) (u : Upset) (element : Bool) : State := s.issue m d fun s =>
  match s.physOf m with
  | none => s
  | some n =>
    let x := arrayDesc d
    let g := geoOf x.mode (s.rf (F.CORE_COLMAP_WIDTH n))
    let bad := [(x.manA, x.ea), (x.manB, x.eb), (x.manC, x.ec)].find? (fun p => p.1 && !s.fmtEntryOk p.2)
    if !arrayZero d || !x.ok || (x.stat == 3) != element then s.fault m 1
    else match bad with
      | some p => s.badEntry m p.2
      | none =>
        if x.accOut = 0 && !narrowOk (s.fmtC x) x.n (x.tn g) then s.fault m 1
        else s.arrayIssue m n d x g u

/-- ARRAY with STAT WEIGHT, INPUT or OUTPUT. -/
def execArray (m : Nat) (d : BitVec 256) (u : Upset) (s : State) : Res := .next (s.arrayDo m d u false)

/-- ARRAY with STAT ELEMENT (R133). -/
def execArrayElement (m : Nat) (d : BitVec 256) (u : Upset) (s : State) : Res := .next (s.arrayDo m d u true)

end Sys2Proof.Machine
end

