-- ==== Sys2Proof/Machine/Crypto.lean ====
section
/-! DEFINITION. The cryptography the spec names: SHA-256, RSASSA-PSS and RSA-OAEP over it (R399, R424, R429), AES-256-GCM (R37, R38). -/

namespace Sys2Proof.Machine

/-! ### SHA-256 (FIPS 180-4)

The standard's constants are the first 32 bits of the fraction of a root of a prime, so they are computed here, not listed. -/

/-- The whole part of a root: the greatest r with r ^ deg at most n, its bits from bit k - 1 down tried on top of r. -/
def rootFloor (deg n : Nat) : Nat → Nat → Nat
  | 0, r => r
  | k + 1, r => rootFloor deg n k (if (r + 2 ^ k) ^ deg ≤ n then r + 2 ^ k else r)

/-- The first 32 bits of the fraction of the root of a number. -/
def rootFraction (deg p : Nat) : Word := BitVec.ofNat 32 (rootFloor deg (p * 2 ^ (32 * deg)) 37 0)

/-- The primes below 312: the first 64. -/
def shaPrimes : List Nat :=
  (List.range 312).filter (fun p => decide (2 ≤ p) && [2, 3, 5, 7, 11, 13, 17].all (fun d => p == d || p % d != 0))

/-- One key per round: the cube roots of the first 64 primes. -/
def shaKeys : List Word := shaPrimes.map (rootFraction 3)

/-- The eight hash words, in the standard's order a to h. -/
structure ShaHash where
  a : Word
  b : Word
  c : Word
  d : Word
  e : Word
  f : Word
  g : Word
  h : Word
  deriving DecidableEq, Repr

/-- A list of eight words as hash words. -/
def ShaHash.ofList (l : List Word) : ShaHash :=
  ⟨nth l 0 0, nth l 1 0, nth l 2 0, nth l 3 0, nth l 4 0, nth l 5 0, nth l 6 0, nth l 7 0⟩

/-- The hash words in their order. -/
def ShaHash.words (v : ShaHash) : List Word := [v.a, v.b, v.c, v.d, v.e, v.f, v.g, v.h]

/-- The exclusive or of the right rotations of a word by the amounts listed. -/
def rotations (l : List Nat) (x : Word) : Word := l.foldl (fun acc k => acc ^^^ x.rotateRight k) 0

/-- One round with the sum of its key and its schedule word. -/
def ShaHash.advance (v : ShaHash) (kw : Word) : ShaHash :=
  let choice := v.g ^^^ (v.e &&& (v.f ^^^ v.g))
  let majority := (v.a &&& v.b) ||| (v.c &&& (v.a ||| v.b))
  let add := v.h + rotations [6, 11, 25] v.e + choice + kw
  { a := add + rotations [2, 13, 22] v.a + majority, b := v.a, c := v.b, d := v.c, e := v.d + add, f := v.e, g := v.f, h := v.g }

/-- The schedule word that follows a window of sixteen, the oldest first. -/
def shaNext (win : List Word) : Word :=
  let old := nth win 1 0
  let late := nth win 14 0
  nth win 0 0 + nth win 9 0 + (rotations [7, 18] old ^^^ (old >>> 3)) + (rotations [17, 19] late ^^^ (late >>> 10))

/-- The rounds of the keys listed: each takes the oldest word of the window, which the next schedule word then joins. -/
def shaRun : List Word → List Word → ShaHash → ShaHash
  | [], _, v => v
  | k :: keys, win, v => shaRun keys (win.drop 1 ++ [shaNext win]) (v.advance (k + nth win 0 0))

/-- The hash after one 64-byte block. -/
def shaAbsorb (v : ShaHash) (blk : List Byte) : ShaHash :=
  let win := (List.range 16).map (fun i => BitVec.ofNat 32 (beNat ((blk.drop (4 * i)).take 4)))
  ShaHash.ofList (List.zipWith (· + ·) v.words (shaRun shaKeys win v).words)

/-- The message with the bit 1, the zeros and the bit length that fill its last block. -/
def shaPadded (m : List Byte) : List Byte :=
  m ++ 0x80#8 :: List.replicate ((119 - m.length % 64) % 64) 0#8 ++ natBe (8 * m.length) 8

/-- SHA-256 of a byte list, 32 bytes: from the square roots of the first eight primes, block by block. -/
def sha256 (m : List Byte) : List Byte :=
  let p := shaPadded m
  let first := ShaHash.ofList ((shaPrimes.take 8).map (rootFraction 2))
  let last := (List.range (p.length / 64)).foldl (fun v i => shaAbsorb v ((p.drop (64 * i)).take 64)) first
  last.words.flatMap (fun w => natBe w.toNat 4)

/-! ### RSA (PKCS #1 v2.2) -/

/-- b to the power e modulo n, e taken bit by bit; the first argument bounds the number of its bits. -/
def powMod : Nat → Nat → Nat → Nat → Nat
  | 0, _, _, n => 1 % n
  | k + 1, b, e, n =>
    let r := powMod k (b * b % n) (e / 2) n
    if e % 2 = 1 then r * (b % n) % n else r

/-- MGF1 over SHA-256: len bytes. -/
def mgf1 (seed : List Byte) (len : Nat) : List Byte :=
  ((List.range ((len + 31) / 32)).flatMap (fun c => sha256 (seed ++ natBe c 4))).take len

/-- Byte-wise exclusive or. -/
def xorBytes (a b : List Byte) : List Byte := (a.zip b).map (fun p => p.1 ^^^ p.2)

/-- Clear the highest bit of the first byte. -/
def clearTop : List Byte → List Byte
  | b :: r => (b &&& 0x7F#8) :: r
  | [] => []

/-- The PSS check of an encoded message against a message's hash: a 32 B salt, the highest bit clear. -/
def pssCheck (em mHash : List Byte) : Bool :=
  let h := (em.drop 351).take 32
  let db := clearTop (xorBytes (em.take 351) (mgf1 h 351))
  (nth em 383 0#8 == 0xBC#8) && decide ((nth em 0 0#8).toNat < 128) &&
    (db.take 319 == List.replicate 318 0#8 ++ [0x01#8]) &&
    (sha256 (List.replicate 8 0#8 ++ mHash ++ db.drop 319) == h)

/-- RSASSA-PSS verification with SHA-256, MGF1-SHA-256 and a 32 B salt (R399, R420, R424); a 3,072-bit modulus and exponent 65,537. -/
def pssVerify (modulus : Nat) (msg sig : List Byte) : Bool :=
  decide (Nat.log2 modulus = 3071) && (sig.length == 384) && decide (beNat sig < modulus) &&
    pssCheck (natBe (powMod 17 (beNat sig) 65537 modulus) 384) (sha256 msg)

/-- RSASSA-PSS signature with a given 32 B salt: the response's signature (R427). -/
def pssSign (modulus privateExp : Nat) (msg salt : List Byte) : List Byte :=
  let h := sha256 (List.replicate 8 0#8 ++ sha256 msg ++ salt)
  let db := List.replicate 318 0#8 ++ [0x01#8] ++ salt
  let m := xorBytes db (mgf1 h 351)
  natBe (powMod 3072 (beNat (clearTop m ++ h ++ [0xBC#8])) privateExp modulus) 384

/-- The OAEP check of an encoded message: the message, or none. -/
def oaepCheck (em label : List Byte) : Option (List Byte) :=
  let seed := xorBytes ((em.drop 1).take 32) (mgf1 (em.drop 33) 32)
  let db := xorBytes (em.drop 33) (mgf1 seed 351)
  match (db.drop 32).dropWhile (fun b => b == 0#8) with
  | b :: m => if (nth em 0 1#8 == 0#8) && (b == 0x01#8) && (db.take 32 == sha256 label) then some m else none
  | [] => none

/-- RSAES-OAEP decryption with SHA-256, MGF1-SHA-256 and a label (R429); none where decryption fails. -/
def oaepDecrypt (modulus privateExp : Nat) (label ct : List Byte) : Option (List Byte) :=
  if (ct.length == 384) && decide (beNat ct < modulus) then
    oaepCheck (natBe (powMod 3072 (beNat ct) privateExp modulus) 384) label
  else none

/-! ### AES-256-GCM (FIPS 197, SP 800-38D) -/

/-- Multiplication by x in the AES field. -/
def aesX (a : Nat) : Nat := let d := a * 2; if d < 256 then d else (d ^^^ 0x11B) % 256

/-- Multiplication in the AES field; the first argument counts the bits of the second factor. -/
def aesMul : Nat → Nat → Nat → Nat
  | 0, _, _ => 0
  | k + 1, a, b => (if b % 2 = 1 then a else 0) ^^^ aesMul k (aesX a) (b / 2)

/-- a to the power 254 in the AES field: the inverse, and 0 for 0. -/
def aesInv (a : Nat) : Nat :=
  let sq := fun x => aesMul 8 x x
  let a2 := sq a
  let a4 := sq a2
  let a8 := sq a4
  let a16 := sq a8
  let a32 := sq a16
  let a64 := sq a32
  let a128 := sq a64
  aesMul 8 (aesMul 8 (aesMul 8 a2 a4) (aesMul 8 a8 a16)) (aesMul 8 (aesMul 8 a32 a64) a128)

/-- Rotate a byte left. -/
def rotl8 (a k : Nat) : Nat := (a * 2 ^ k) % 256 + a / 2 ^ (8 - k)

/-- The AES S-box. -/
def aesSbox (a : Nat) : Nat :=
  let b := aesInv a
  b ^^^ rotl8 b 1 ^^^ rotl8 b 2 ^^^ rotl8 b 3 ^^^ rotl8 b 4 ^^^ 0x63

/-- The AES-256 key schedule, the newest 4-byte word first: 60 words from 8. -/
def aesExpand : Nat → Nat → Nat → List (List Nat) → List (List Nat)
  | 0, _, _, w => w
  | k + 1, i, rc, w =>
    let t := nth w 0 []
    let old := nth w 7 []
    let t := if i % 8 = 0 then
        (match t with
         | [a, b, c, d] => [aesSbox b ^^^ rc, aesSbox c, aesSbox d, aesSbox a]
         | x => x)
      else if i % 8 = 4 then t.map aesSbox else t
    aesExpand k (i + 1) (if i % 8 = 0 then aesX rc else rc) ((old.zip t).map (fun p => p.1 ^^^ p.2) :: w)

/-- Cut a list into pieces of four. -/
def fours : Nat → List Nat → List (List Nat)
  | 0, _ => []
  | k + 1, l => l.take 4 :: fours k (l.drop 4)

/-- The fifteen 16-byte round keys of a 32-byte key. -/
def aesKeys (key : List Byte) : List (List Nat) :=
  let w := (aesExpand 52 8 1 (fours 8 (key.map BitVec.toNat)).reverse).reverse
  (List.range 15).map (fun r => ((w.drop (4 * r)).take 4).flatten)

/-- SubBytes and ShiftRows. -/
def aesSubShift (b : List Nat) : List Nat :=
  (List.range 16).map (fun i => aesSbox (nth b ((i + 4 * (i % 4)) % 16) 0))

/-- MixColumns. -/
def aesMix (b : List Nat) : List Nat :=
  (List.range 16).map (fun i =>
    let c := i / 4 * 4
    let at' := fun j => nth b (c + (i + j) % 4) 0
    aesX (at' 0) ^^^ aesX (at' 1) ^^^ at' 1 ^^^ at' 2 ^^^ at' 3)

/-- Exclusive or of two blocks. -/
def xorNats (a b : List Nat) : List Nat := (a.zip b).map (fun p => p.1 ^^^ p.2)

/-- One AES-256 block encryption under expanded keys. -/
def aesBlock (keys : List (List Nat)) (b : List Nat) : List Nat :=
  let s := xorNats b (nth keys 0 [])
  let s := (List.range 13).foldl (fun s r => xorNats (aesMix (aesSubShift s)) (nth keys (r + 1) [])) s
  xorNats (aesSubShift s) (nth keys 14 [])

/-- Multiplication in GF(2^128) as GCM numbers bits; blocks as 128-bit numbers, the first byte highest. -/
def ghashMul : Nat → Nat → Nat → Nat → Nat
  | 0, _, _, z => z
  | k + 1, x, v, z =>
    let z := if bit x k then z ^^^ v else z
    let v := if v % 2 = 1 then (v / 2) ^^^ (0xE1 * 2 ^ 120) else v / 2
    ghashMul k x v z

/-- GHASH over a byte list of whole blocks. -/
def ghashBlocks : Nat → Nat → Nat → List Byte → Nat
  | 0, _, y, _ => y
  | k + 1, h, y, l => ghashBlocks k h (ghashMul 128 (y ^^^ beNat (l.take 16)) h 0) (l.drop 16)

/-- Zero-pad to whole 16-byte blocks. -/
def pad16 (l : List Byte) : List Byte := l ++ List.replicate ((16 - l.length % 16) % 16) 0#8

/-- The counter-mode keystream: k blocks from a counter value. -/
def gcmStream (keys : List (List Nat)) (iv : List Byte) : Nat → Nat → List Byte
  | 0, _ => []
  | k + 1, c => (aesBlock keys ((iv ++ natBe c 4).map BitVec.toNat)).map (BitVec.ofNat 8) ++ gcmStream keys iv k (c + 1)

/-- The 16-byte GCM tag of a ciphertext. -/
def gcmTag (keys : List (List Nat)) (iv aad ct : List Byte) : List Byte :=
  let h := beNat ((aesBlock keys (List.replicate 16 0)).map (BitVec.ofNat 8))
  let d := pad16 aad ++ pad16 ct ++ natBe (8 * aad.length) 8 ++ natBe (8 * ct.length) 8
  xorBytes (natBe (ghashBlocks (d.length / 16) h 0 d) 16) (gcmStream keys iv 1 1)

/-- AES-256-GCM encryption with a 96-bit IV: the ciphertext and the tag. -/
def gcmSeal (key iv aad pt : List Byte) : List Byte × List Byte :=
  let keys := aesKeys key
  let ct := xorBytes pt (gcmStream keys iv ((pt.length + 15) / 16) 2)
  (ct, gcmTag keys iv aad ct)

/-- AES-256-GCM decryption: the plaintext, or none where the tag fails. -/
def gcmOpen (key iv aad ct tag : List Byte) : Option (List Byte) :=
  let keys := aesKeys key
  if gcmTag keys iv aad ct == tag then some (xorBytes ct (gcmStream keys iv ((ct.length + 15) / 16) 2)) else none

end Sys2Proof.Machine
end

