-- ==== Sys2Proof/Machine/Queue.lean ====
section
/-! DEFINITION. Word queues (R198 to R204), the CONTROL operations on them, and the allocator's no-progress limit (R193). -/

namespace Sys2Proof.Machine

/-- What an unlisted queue holds. -/
def queueDflt : Nat → QueueX := fun _ => QueueX.reset

/-- The words of queue q. -/
def State.queue (s : State) (q : Nat) : QueueX := SMap.get queueDflt s.casket.queues q

/-- Words a queue holds: a middle stripe holds 56. -/
def QueueX.count (x : QueueX) : Nat := x.head.length + 56 * x.filled + x.tail.length

/-- FULL, as the write side computes it: the tail's 64 places are taken (R198, R199). -/
def QueueX.full (x : QueueX) : Bool := decide (64 ≤ x.tail.length)

/-- A spill stripe's bytes (R198): the words, then one tag byte of each. The 8 bytes that remain of the stripe are left as they are. -/
def spillBytes (ws : List QWord) : List Byte := ws.flatMap (fun w => natLe w.data.toNat 8) ++ ws.map (fun w => BitVec.ofNat 8 w.tag.toNat)

/-- The module address of middle stripe k of queue q (R186, R198): the stripes from QBASE on are used in turn. -/
def State.spillAt (s : State) (q k : Nat) : Nat :=
  stripeAddr (s.rf F.CASKET_SPILL_BASE * 1024 + s.rf (F.CASKET_QBASE_STRIPE q) + k % s.rf (F.CASKET_QCFG_MID q))

/-- The 56 words of a spill stripe; one that is uncorrectable comes with POISON (R201). -/
def State.spillWords (s : State) (a : Nat) : List QWord :=
  (List.range 56).map (fun i =>
    let bad := s.poisonedAt (a + 8 * i) 8 || s.poisonedAt (a + 448 + i) 1
    ⟨BitVec.ofNat 64 (s.rle (a + 8 * i) 8), s.rb (a + 448 + i) ||| (if bad then 2#8 else 0#8)⟩)

/-- The tail's oldest 56 words go to the next middle stripe as one Casket write. -/
def State.spill (s : State) (q : Nat) (x : QueueX) : State × QueueX :=
  let a := s.spillAt q (x.first + x.filled)
  ((s.wake a 512).store a (spillBytes (x.tail.take 56)), { x with filled := x.filled + 1, tail := x.tail.drop 56 })

/-- The head refills from the oldest middle stripe. -/
def State.refill (s : State) (q : Nat) (x : QueueX) : State × QueueX :=
  let a := s.spillAt q x.first
  (s.wake a 512, { x with head := x.head ++ s.spillWords a, first := (x.first + 1) % s.rf (F.CASKET_QCFG_MID q), filled := x.filled - 1 })

/-- One move of words toward the head (R198): from the middle while it holds any, else straight from the tail; a tail of 56 words goes to the
middle when it cannot pass directly. -/
def State.moveWords (s : State) (q : Nat) (x : QueueX) : State × QueueX :=
  let (s, x) :=
    if x.filled = 0 then
      let k := min (64 - x.head.length) x.tail.length
      (s, { x with head := x.head ++ x.tail.take k, tail := x.tail.drop k })
    else if x.head.length ≤ 8 then s.refill q x else (s, x)
  if 56 ≤ x.tail.length ∧ x.filled < s.rf (F.CASKET_QCFG_MID q) then s.spill q x else (s, x)

/-- Move words until nothing more moves: three moves reach that from any write or read of one word. -/
def State.settleQueue (s : State) (q : Nat) (x : QueueX) : State × QueueX :=
  let a := s.moveWords q x
  let b := a.1.moveWords q a.2
  b.1.moveWords q b.2

/-- Put the words of queue q, and show COUNT, EMPTY, FULL and FLUSHING (R205). -/
def State.setQueue (s : State) (q : Nat) (x : QueueX) : State :=
  let (s, x) := s.settleQueue q x
  let s : State := { s with casket := { s.casket with queues := SMap.set queueDflt s.casket.queues q x } }
  let s := (s.wf (F.CASKET_QSTAT_COUNT q) x.count).wflag (F.CASKET_QSTAT_EMPTY q) (x.count == 0)
  (s.wflag (F.CASKET_QSTAT_FULL q) x.full).wflag (F.CASKET_QSTAT_FLUSHING q) x.flushing

/-- Whether queue q is open. -/
def State.qValid (s : State) (q : Nat) : Bool := decide (q < 2048) && s.flag (F.CASKET_QCFG_VALID q)

/-- Parity of the low w bits of x. -/
def parityOf (x w : Nat) : Bool := popCount x w % 2 == 1

/-- The tag of a word as stored (R201): END, POISON, and PAR that makes the parity of the data bits and END even. -/
def qTag (w : BitVec 64) (last poison : Bool) : BitVec 8 :=
  BitVec.ofNat 8 (b2n last + 2 * b2n poison + 4 * b2n (parityOf (w.toNat + 2 ^ 64 * b2n last) 65))

/-- Write a word to queue q (R200 to R202): ignored and flagged while FULL is set; discarded during a flush, which ends at one with END; else stored, a
poisoned one with POISON. -/
def State.qWrite (s : State) (q : Nat) (w : BitVec 64) (last poison : Bool) : State :=
  let x := s.queue q
  if x.full then
    let s := (s.wf (F.CASKET_QSTAT_OVR q) 1).bump F.CASKET_Q_OVR_COUNT 1
    (s.raise F.CASKET_ERR_Q_OVERRUN).event 0x0604 srcHub 0 0 0 0
  else
    let s := s.wflag (F.CASKET_QSTAT_AT_END q) last
    if x.flushing then (if last then s.setQueue q { x with flushing := false } else s)
    else s.setQueue q { x with tail := x.tail ++ [⟨w, qTag w last poison⟩] }

/-- Q_WRITE (R200). A write to a queue that is not open changes nothing. -/
def execQWrite (q : Nat) (w : BitVec 64) (last : Bool) (s : State) (poison : Bool := false) : Res :=
  .next (if s.qValid q then s.qWrite q w last poison else s)

/-- What a queue with nothing to give answers (R200, R202): data 0 with NV. -/
def qNothing : QRead := ⟨0, false, false, true⟩

/-- Read a word of queue q (R200, R201), with the bits of the stored word that have flipped and what the spill stripe that refills the head meets (R185). -/
def State.qRead (s : State) (q : Nat) (flips : BitVec 66) (u : Upset) : QRead × State :=
  let x := s.queue q
  if x.flushing then (qNothing, s)
  else match x.head with
    | [] => (qNothing, s)
    | w :: r =>
      let s := (s.meet u).setQueue q { x with head := r }
      let data := w.data ^^^ BitVec.ofNat 64 flips.toNat
      let last := bit w.tag.toNat 0 != bit flips.toNat 64
      let par := bit w.tag.toNat 2 != bit flips.toNat 65
      if parityOf (data.toNat + 2 ^ 64 * b2n last) 65 != par then
        let s := (s.wf (F.CASKET_QSTAT_PAR q) 1).bump F.CASKET_Q_PAR_COUNT 1
        (⟨data, last, true, false⟩, (s.raise F.CASKET_ERR_Q_PARITY).event 0x0605 srcHub 0 0 0 0)
      else (⟨data, last, bit w.tag.toNat 1, false⟩, s)

/-- Q_READ (R200, R201). -/
def execQRead (q : Nat) (flips : BitVec 66) (u : Upset) (s : State) : Res :=
  .next (if s.qValid q then
      let (r, s) := s.qRead q flips u
      { s with casket := { s.casket with lastRead := some r } }
    else s)

/-- A flush request (R202): every word held is discarded; the flush is complete where the newest word carried END or none was written. -/
def State.qFlush (s : State) (q : Nat) : State := s.setQueue q { QueueX.reset with flushing := !s.flag (F.CASKET_QSTAT_AT_END q) }

/-- A flush request, and a write that meets it in the same tick where one does (R202): a free value orders the two; where the order decides whether the word
survives, it is a variance source. -/
def State.qFlushTied (s : State) (q : Nat) (tied : Option (BitVec 64 × Bool)) : State :=
  match tied with
  | none => s.qFlush q
  | some (w, last) =>
    let survives := s.flag (F.CASKET_QSTAT_AT_END q) && !(s.queue q).flushing
    let s := if survives then ((s.variance 0x05 0x1FF q).raise F.CASKET_ERR_Q_FLUSH_TIE).event 0x0606 srcHub q 0 0 0 else s
    let (b, s) := s.freeWord 1
    if b == 1#1 then (s.qWrite q w last false).qFlush q else (s.qFlush q).qWrite q w last false

/-- Q_FLUSH_REQ (R202). -/
def execQFlushReq (q : Nat) (tied : Option (BitVec 64 × Bool)) (s : State) : Res := .next (if s.qValid q then s.qFlushTied q tied else s)

/-! ### CONTROL operations (R202, R203, R291) -/

/-- The header of a CONTROL descriptor, with its OP (R291). -/
def controlHeader (d : BitVec 256) (op : Nat) : Bool := descHeader d 5 && descField d 1 1 == op

/-- Whether a program queue may be named by a task (R203): open, and not a crossing queue. -/
def State.programQueue (s : State) (q : Nat) : Bool := decide (q ≤ 1791) && s.qValid q

/-- Push words of a handle in order while the queue takes them; the answer is how many went (R291). -/
def State.pushWords (s : State) (q a total : Nat) (last : Bool) : Nat → Nat → State × Nat
  | 0, k => (s, k)
  | fuel + 1, k =>
    if total ≤ k ∨ (s.queue q).full then (s, k)
    else (s.qWrite q (BitVec.ofNat 64 (s.rle (a + 8 * k) 8)) (last && decide (k + 1 = total)) false).pushWords q a total last fuel (k + 1)

/-- The words that the QPUSH of logical core m's task has pushed, and putting them (R291). -/
def State.pushedOf (s : State) (m : Nat) : Nat := match s.curTask m with | some t => t.pushed | none => 0
def State.setPushed (s : State) (m k : Nat) : State :=
  match s.curTask m with
  | some t => s.updTask t.id (fun t => { t with pushed := k })
  | none => s

/-- QPUSH (R291): the words are pushed in order; while FULL the task waits, and goes on from the word it stood at. -/
def execQpush (m : Nat) (d : BitVec 256) (s : State) : Res :=
  .next (s.issue m d fun s => match s.physOf m with
    | none => s
    | some n =>
      let q := descField d 4 2
      let h := descField d 6 1
      let f := descField d 7 1
      let off := descField d 8 4 * 4
      let total := descField d 0xC 4
      if !(controlHeader d 2 && descField d 2 2 == 0 && decide (h < 64) && decide (f < 2) && descZero d 0x10 32) then s.fault m 1
      else if !s.programQueue q then s.fault m 4
      else if s.hWritten n h then s
      else if !s.hValid n h || decide (s.hBytes n h < off + total * 8) then s.fault m 4
      else
        let k0 := s.pushedOf m
        let a := s.hAddr n h off
        let (s, ready) := s.touch n (s.hStart n h + off + 8 * k0) ((total - k0) * 8) true
        if !ready then s
        else if s.poisonedAt (a + 8 * k0) ((total - k0) * 8) then s.fault m 5
        else
          let (s, k) := s.pushWords q a total (f == 1) (total + 1) k0
          if total ≤ k then s.nextDesc m else (s.setPushed m k).block m (.retry d))

/-- The spill region's stripes (R186). -/
def State.spillStripes (s : State) : Nat := s.rf F.CASKET_SPILL_SIZE * 1024

/-- QOPEN's refusals (R203). -/
def State.qopenBad (s : State) (q mid base : Nat) : Bool :=
  decide (1791 < q) || s.flag (F.CASKET_QCFG_VALID q) ||
    (decide (0 < mid) && (decide (s.spillStripes < base + mid) || decide (base < 65536) ||
      (List.range 2048).any (fun k => s.qValid k && decide (0 < s.rf (F.CASKET_QCFG_MID k)) && decide (s.rf (F.CASKET_QBASE_STRIPE k) < base + mid) &&
        decide (base < s.rf (F.CASKET_QBASE_STRIPE k) + s.rf (F.CASKET_QCFG_MID k)))))

/-- QOPEN (R203). -/
def execQopen (m : Nat) (d : BitVec 256) (s : State) : Res :=
  let q := descField d 4 2
  let mid := descField d 8 2
  let base := descField d 0xC 4
  .next (s.issue m d fun s =>
    if !(controlHeader d 3 && descField d 2 2 == 0 && descField d 6 2 == 0 && descField d 0xA 2 == 0 &&
      decide (base < 2 ^ 24) && descZero d 0x10 32) then s.fault m 1
    else if s.qopenBad q mid base then (s.event 0x0607 srcHub 0 0 0 0).fault m 4
    else
      let s := (s.wf (F.CASKET_QCFG_MID q) mid).wf (F.CASKET_QCFG_VALID q) 1
      let s := (s.wf (F.CASKET_QBASE_STRIPE q) base).wf (F.CASKET_QSTAT_AT_END q) 1
      (s.setQueue q QueueX.reset).nextDesc m)

/-- The decode of QCLOSE and QFLUSH: QUEUE alone. -/
def queueDecode (d : BitVec 256) (op : Nat) : Bool := controlHeader d op && descField d 2 2 == 0 && descZero d 6 32

/-- QCLOSE (R203): words still held are discarded and recorded. -/
def execQclose (m : Nat) (d : BitVec 256) (s : State) : Res :=
  let q := descField d 4 2
  .next (s.issue m d fun s =>
    if !queueDecode d 4 then s.fault m 1
    else if !s.programQueue q then s.fault m 4
    else
      let s := if (s.queue q).count = 0 then s else s.event 0x0608 srcHub 0 0 0 0
      ((s.setQueue q QueueX.reset).wf (F.CASKET_QCFG_VALID q) 0).nextDesc m)

/-- QFLUSH (R202), and the write that meets it in the same tick where one does. -/
def execQflush (m : Nat) (d : BitVec 256) (s : State) (tied : Option (BitVec 64 × Bool) := none) : Res :=
  let q := descField d 4 2
  .next (s.issue m d fun s =>
    if !queueDecode d 5 then s.fault m 1
    else if !s.qValid q then s.fault m 4
    else (s.qFlushTied q tied).nextDesc m)

/-- CASKET_NOPROG (R193): the stream's oldest request has waited NOPROG_LIMIT ticks. A limit of 0 disables detection. -/
def execCasketNoprog (i : Nat) (s : State) : Res :=
  .next (match s.casket.waiting.find? (fun r => r.stream == i) with
    | none => s
    | some r =>
      if s.rf F.CASKET_NOPROG_LIMIT_TICKS = 0 then s
      else
        let s := s.wf (F.CASKET_STAT_NOPROG i) (min (s.rf F.CASKET_NOPROG_LIMIT_TICKS) (2 ^ 30 - 1))
        let s := ((s.raise F.CASKET_ERR_NOPROG).wf F.CASKET_LAST_NOPROG_STREAM i).wf F.CASKET_LAST_NOPROG_N r.count
        let s := s.event 0x0602 srcHub i r.count (s.rf (F.CASKET_USE_STRIPES i)) (s.rf F.CASKET_SHARED_FREE_STRIPES)
        s.raiseAbort 3)

end Sys2Proof.Machine
end

