-- ==== Sys2Proof/Machine/CharmTable.lean ====
section
/-! DEFINITION. The Charm context table: entries, adapter layout, the checks SLOT_OPEN makes (R249 to R254). -/

namespace Sys2Proof.Machine

/-- Where entry v of the context table lies: the Casket's first region (R186, R250). -/
def ctxAddr (v : Nat) : Nat := 0x020000000000 + 64 * v

/-- k bytes of an entry at an offset (R251). -/
def State.ctx (s : State) (v o k : Nat) : Nat := s.rle (ctxAddr v + o) k

/-- Put k bytes of an entry. -/
def State.setCtx (s : State) (v o k x : Nat) : State := s.store (ctxAddr v + o) (natLe x k)

/-- FLAGS of an entry: VALID, TRAIN. -/
def State.ctxValid (s : State) (v : Nat) : Bool := bit (s.ctx v 0 1) 0
def State.ctxTrain (s : State) (v : Nat) : Bool := bit (s.ctx v 0 1) 1

/-- Tensors of an entry's tensor set (R253). -/
def State.ctxTensors (s : State) (v : Nat) : Nat := s.rf (F.CHARM_TSET_COUNT (s.ctx v 4 1 % 16))

/-- The parts of tensor j of an entry: code and elements (R253). -/
def State.ctxParts (s : State) (v j : Nat) : List (Nat × Nat) :=
  let i := s.ctx v 4 1 % 16 * 128 + j
  let rank := s.ctx v 1 1 % 64 + 1
  let din := s.rf (F.CHARM_TENT_DIN_DIM i)
  let dout := s.rf (F.CHARM_TENT_DOUT_DIM i)
  let fl := s.ctx v 0 1
  [(0, rank * din), (1, dout * rank)] ++ (if bit fl 2 then [(2, dout)] else []) ++ (if bit fl 3 then [(3, dout)] else [])

/-- Every part of an entry in layout order: tensor, code, elements. -/
def State.ctxLayout (s : State) (v : Nat) : List (Nat × Nat × Nat) :=
  (List.range (s.ctxTensors v)).flatMap (fun j => (s.ctxParts v j).map (fun p => (j, p.1, p.2)))

/-- Bytes of the parts before a place in the layout, each from a 4 KiB boundary, at so many bytes an element. -/
def layoutBytes (esz : Nat) (l : List (Nat × Nat × Nat)) : Nat := (l.map (fun p => roundUp (p.2.2 * esz) 4096)).sum

/-- Offset of a part within its range and its elements; none where the part is absent. -/
def State.ctxPart (s : State) (v j part esz : Nat) : Option (Nat × Nat) :=
  let l := s.ctxLayout v
  let k := l.findIdx (fun p => p.1 == j && p.2.1 == part)
  (l[k]?).map (fun p => (layoutBytes esz (l.take k), p.2.2))

/-- Bytes of an adapter element. -/
def State.ctxElem (s : State) (v : Nat) : Nat := if s.ctx v 2 1 = 0 then 4 else 2

/-- Whether two ranges share a unit. -/
def rangesMeet (a m b n : Nat) : Bool := decide (a < b + n) && decide (b < a + m)

/-- The CHARM.ERR bit of the first check of R254 that an entry fails, in the table's order; none where it passes them all. -/
def State.ctxRefused (s : State) (v : Nat) (eval : Bool) : Option Fld :=
  let f := fun o k => s.ctx v o k
  let acc := f 0x14 4
  let len := f 0x18 4
  let trains := s.ctxTrain v && !eval
  if !s.ctxValid v || f 0x1C 4 != crc32c (s.rbs (ctxAddr v) 0x1C) then some F.CHARM_ERR_BAD_ENTRY
  else if f 3 1 % 32 ≠ s.rf F.SETUP_IDENT_POS then some F.CHARM_ERR_NOT_HOME
  else if 1 < f 2 1 ∨ 16 ≤ f 0 1 ∨ 64 ≤ f 1 1 ∨ 32 ≤ f 3 1 ∨ 16 ≤ f 4 1 ∨ f 5 3 ≠ 0 then some F.CHARM_ERR_BAD_ENTRY
  else if f 0x10 4 * 4096 < layoutBytes (s.ctxElem v) (s.ctxLayout v) ∨ s.rf F.CHARM_REGION_SIZE_GIB * 2 ^ 30 < (f 0xC 4 + f 0x10 4) * 4096 then
    some F.CHARM_ERR_RANGE
  else if trains ∧ (len * 4096 < layoutBytes 4 (s.ctxLayout v) ∨ s.rf F.CHARM_ACC_REGION_SIZE_GIB * 2 ^ 30 < (acc + len) * 4096) then some F.CHARM_ERR_RANGE
  else if trains ∧ s.charm.trained.any (fun t => t.1 != v && rangesMeet acc len t.2.1 t.2.2) then some F.CHARM_ERR_ACC_OVERLAP
  else none

/-- SLOT_OPEN is refused for its context (R254): the code of the failed check is a free value. -/
def State.ctxRefuse (s : State) (m k v : Nat) (e : Fld) : State :=
  let (c, s) := s.freeWord 32
  (((s.raise e).bump (F.CHARM_CNT_COUNT 6) 1).event 0x0900 srcHub k v c.toNat 0).fault m 1

/-- A slot opens with a context (R254): OPEN and TOKENS rise; TOKENS starts anew at the first SLOT_OPEN of the step that names the context. -/
def State.ctxOpen (s : State) (v tokens : Nat) (eval : Bool) : State :=
  let before := if s.charm.named.contains v then s.ctx v 0x28 4 else 0
  let s := (s.setCtx v 0x28 4 (before + tokens)).setCtx v 0x26 2 ((s.ctx v 0x26 2 + 1) % 2048)
  let c := s.charm
  let trained := if s.ctxTrain v && !eval then (v, s.ctx v 0x14 4, s.ctx v 0x18 4) :: c.trained else c.trained
  { s with charm := { c with named := v :: c.named, trained := trained } }

/-- The micro-batch that slot k holds. -/
def State.charmSlot (s : State) (k : Nat) : CharmSlot := ⟨k, s.rf (slotFld k 8 0 16), s.rf (slotFld k 1 0 3)⟩

/-- Slot k of a context is closed or freed (R254); one that trained keeps its place in the order of R257. -/
def State.ctxClose (s : State) (k : Nat) : State :=
  let v := s.rf (slotFld k 0xC 0 32)
  let s := s.setCtx v 0x26 2 (s.ctx v 0x26 2 - 1)
  if s.rf (slotFld k 2 0 1) = 1 then s else { s with charm := { s.charm with past := s.charm.past ++ [(v, s.charmSlot k)] } }

/-- The step's Charm bookkeeping ends. -/
def State.ctxStepEnd (s : State) : State := { s with charm := ⟨[], [], [], [], []⟩ }

end Sys2Proof.Machine
end

