-- ==== Sys2Proof/Machine/Front.lean ====
section
/-! DEFINITION. The front end: rings, commands, stored graphs, tasks, completion (chapter 13). -/

namespace Sys2Proof.Machine

/-! ### Command entries (R277 to R281) -/

/-- Entries of ring q (R277). -/
def State.ringSize (s : State) (q : Nat) : Nat := 2 ^ s.rf (F.FRONT_Q_CFG_LOG2_SIZE q)

/-- Fields of an entry (R279). -/
def entOpcode (e : BitVec 512) : Nat := entryField e 0 1
def entFlags (e : BitVec 512) : Nat := entryField e 1 1
def entTag (e : BitVec 512) : Nat := entryField e 4 4
def entGraph (e : BitVec 512) : Nat := entryField e 0x10 2

/-- Whether the bytes of an entry from o up to, and not at, e are 0. -/
def entZero (x : BitVec 512) (o e : Nat) : Bool := entryField x o (e - o) == 0

/-- Whether an entry spells a command (R279, R280): a defined opcode, no reserved FLAGS bit, no non-zero reserved byte, and a Chain signal
that goes to a member of the arc and to a Clasp that exists. -/
def State.entryOk (s : State) (e : BitVec 512) : Bool :=
  let common := decide (entFlags e < 8) && entZero e 2 4 && entZero e 0xC 0x10 && entZero e 0x32 0x34 && entZero e 0x3C 0x40
  let args := match entOpcode e with
    | 0 => entZero e 0x10 0x30
    | 1 => entZero e 0x12 0x18 && entZero e 0x20 0x30
    | 2 => entZero e 0x12 0x18 && entZero e 0x24 0x30
    | 3 => entZero e 0x12 0x18 && entZero e 0x24 0x30
    | 4 => entZero e 0x12 0x30
    | 5 => decide (entryField e 0x10 2 < 4096) && entZero e 0x12 0x14 && entZero e 0x18 0x30
    | 6 => entZero e 0x18 0x30
    | _ => false
  let sig := !bit (entFlags e) 2 || (s.isMember (entryField e 0x30 2) && decide (entryField e 0x34 4 < 65536))
  common && args && sig

/-- The ring entries of queue q that have been fetched and wait (R278). -/
def State.fetchedOf (s : State) (q : Nat) : List (BitVec 512) := SMap.get (fun _ => []) s.front.fetched q

/-- Put the fetched entries of a queue. -/
def State.setFetched (s : State) (q : Nat) (l : List (BitVec 512)) : State :=
  { s with front := { s.front with fetched := SMap.set (fun _ => []) s.front.fetched q l } }

/-- Whether entry e at the head of queue q is ready (R278, R281, R384): the hub has supply, the queue is enabled and not stopped, its ring
not empty, admission open, the DMA gate open, with FENCE every earlier command of the queue completed, and no self-test running where the entry is a LAUNCH
or STEP_END (R453); a STEP_END waits while another is armed. -/
def State.headReady (s : State) (q : Nat) (e : BitVec 512) : Bool :=
  decide (q < 8) && s.power.dies.contains 0 && (s.tests.isEmpty || !(entOpcode e == 1 || entOpcode e == 5)) && s.flag (F.FRONT_Q_CFG_EN q) && !s.flag (F.FRONT_Q_STATUS_FETCH_ERR q) &&
    s.rf (F.FRONT_Q_HEAD_INDEX q) != s.rf (F.FRONT_Q_TAIL_INDEX q) && !s.gated &&
    (s.rf F.FRONT_STATUS_STEP == stepRun || s.rf F.FRONT_STATUS_STEP == stepHalted) &&
    (!bit (entFlags e) 1 || s.rf (F.FRONT_Q_STATUS_ACTIVE q) == 0) && !(entOpcode e == 5 && s.front.armed.isSome && s.entryOk e)

/-- Whether the front end accepts entry e of queue q now (R277, R278): it is the head, it is ready, and no lower-numbered queue has a head that is. -/
def State.mayAccept (s : State) (q : Nat) (e : BitVec 512) : Bool :=
  s.headReady q e && (s.fetchedOf q).head?.all (fun h => h == e) &&
    (List.range q).all (fun p => match (s.fetchedOf p).head? with | some h => !s.headReady p h | none => true)

/-- An entry of ring q has been fetched (R278): at most 8 of a queue wait, none past TAIL. -/
def State.fetchEntry (s : State) (q : Nat) (e : BitVec 512) : State :=
  let l := s.fetchedOf q
  let room := (s.rf (F.FRONT_Q_TAIL_INDEX q) + s.ringSize q - s.rf (F.FRONT_Q_HEAD_INDEX q)) % s.ringSize q
  if q < 8 ∧ s.flag (F.FRONT_Q_CFG_EN q) ∧ !s.flag (F.FRONT_Q_STATUS_FETCH_ERR q) ∧ l.length < min 8 room then s.setFetched q (l ++ [e]) else s

/-- Host address of entry HEAD of ring q. -/
def State.headAddr (s : State) (q : Nat) : Nat :=
  s.pairNow (F.FRONT_Q_BASE_LO_ADDR q).off / 4096 * 4096 + 64 * s.rf (F.FRONT_Q_HEAD_INDEX q)

/-- Accept the head entry of queue q (R278): HEAD advances, the command counts as active, the DMA read is traced. -/
def State.accept (s : State) (q : Nat) (e : BitVec 512) : State :=
  let s := (s.traceData 3 (0x10 + q) (s.headAddr q) (natLe e.toNat 64)).setFetched q ((s.fetchedOf q).drop 1)
  let s := s.wf (F.FRONT_Q_HEAD_INDEX q) ((s.rf (F.FRONT_Q_HEAD_INDEX q) + 1) % s.ringSize q)
  let s := s.wf (F.FRONT_Q_STATUS_ACTIVE q) (s.rf (F.FRONT_Q_STATUS_ACTIVE q) + 1)
  s.bump (F.FRONT_CNT_COUNT 0) 1

/-- Complete a command at once with a status. -/
def State.completeNow (s : State) (q : Nat) (e : BitVec 512) (status graph version detail : Nat) : State :=
  s.complete ⟨q, e, status, 0, s.rf F.CHAIN_STEP_STEP, graph, version, detail, 0⟩

/-- A command that spells none: BAD_CMD at once (R280). -/
def State.badCommand (s : State) (q : Nat) (e : BitVec 512) : State :=
  let s := (s.accept q e).raise F.FRONT_ERR_BAD_CMD
  (s.event 0x0B00 srcHub q (entOpcode e) (entTag e) 0).completeNow q e 3 0 0 0

/-- Take a command of an opcode: nothing where it may not be accepted or is another command, BAD_CMD where it breaks a rule of its entry. -/
def State.command (s : State) (q : Nat) (e : BitVec 512) (op : Nat) (run : State → State) : State :=
  if !s.mayAccept q e || entOpcode e != op then s
  else if !s.entryOk e then s.badCommand q e
  else run s

/-- DOORBELL (R277): a TAIL out of range is ignored. -/
def execDoorbell (q : Nat) (v : Word) (s : State) : Res :=
  let t := bits v.toNat 0 16
  .next (if 8 ≤ q then s
    else if s.ringSize q ≤ t then (s.raise F.FRONT_ERR_DOORBELL).event 0x0B07 srcHub 0 0 0 0
    else s.wf (F.FRONT_Q_TAIL_INDEX q) t)

/-- Q_RESTART (R278). -/
def execQRestart (q : Nat) (s : State) : Res := .next (if q < 8 then s.wf (F.FRONT_Q_STATUS_FETCH_ERR q) 0 else s)

/-- CMD_NOP (R280). -/
def execCmdNop (q : Nat) (e : BitVec 512) (s : State) : Res :=
  .next (s.command q e 0 (fun s => (s.accept q e).completeNow q e 0 0 0 0))

/-- CMD_RESERVED (R280): a reserved opcode, FLAGS bit or byte, or a Chain signal that cannot be sent. -/
def execCmdReserved (q : Nat) (e : BitVec 512) (s : State) : Res :=
  .next (if s.mayAccept q e && !s.entryOk e then s.badCommand q e else s)

/-- CMD_SIGNAL (R280): a Clasp that does not exist is misuse (R307). -/
def execCmdSignal (q : Nat) (e : BitVec 512) (s : State) : Res :=
  .next (s.command q e 6 (fun s =>
    let n := entryField e 0x10 4
    let a := entryField e 0x14 4
    let s := (s.accept q e).trace 0x06 (0x10 + q) 0 (n + 2 ^ 32 * a) 0 0
    let s := if n < 65536 then s.applySignal n a false 0x1FF else s.chainMisuse n 0x1FF
    s.completeNow q e 0 0 0 0))

/-! ### The boundary's arming (R281) -/

/-- Whether the armed boundary Clasp stands at its target. -/
def State.boundaryMet (s : State) : Bool :=
  s.front.armed.isSome && decide (s.rf F.FRONT_BOUNDARY_TARGET_TARGET ≤ s.claspValue (s.rf F.FRONT_BOUNDARY_CLASP)) &&
    !s.claspFlagged (s.rf F.FRONT_BOUNDARY_CLASP)

/-- Item 1 of R23: admission closes. A persistent task that waits for a word of an empty queue ends (R289). -/
def State.beginBoundary (s : State) : State :=
  if s.rf F.FRONT_STATUS_STEP = stepRun ∧ s.boundaryMet then
    let s := s.wf F.FRONT_STATUS_STEP stepDrain
    s.front.tasks.foldl (fun (s : State) t =>
      match t.phase, t.wait with
      | .waiting, .queue q => if (s.queue q).count = 0 then (s.showTask t.core taskIdle).dropTask t else s
      | _, _ => s) s
  else s

/-- STEP_END (R281): one is armed at a time, and a second waits at its queue's head. -/
def execStepEnd (q : Nat) (e : BitVec 512) (s : State) : Res :=
  .next (s.command q e 5 (fun s =>
    let s : State := (s.accept q e)
    let s : State := { s with front := { s.front with armed := some (q, e) } }
    let s := (s.wf F.FRONT_BOUNDARY_CLASP (entryField e 0x10 2)).wf F.FRONT_BOUNDARY_TARGET_TARGET (entryField e 0x14 4)
    (s.wf F.FRONT_STATUS_ARMED 1).beginBoundary))

/-! ### Graph images (R282, R283) -/

/-- Fields of an image's header. -/
def imgTasks (g : List Byte) : Nat := leAt g 4 4
def imgRounds (g : List Byte) : Nat := leAt g 8 4
def imgTaskOff (g : List Byte) : Nat := leAt g 0x10 4
def imgRoundOff (g : List Byte) : Nat := leAt g 0x14 4
def imgDescs (g : List Byte) : Nat := leAt g 0x1C 4

/-- Task entry i and round entry r of an image. -/
def imgTask (g : List Byte) (i : Nat) : List Byte := (g.drop (imgTaskOff g + 32 * i)).take 32
def imgRound (g : List Byte) (r : Nat) : List Byte := (g.drop (imgRoundOff g + 8 * r)).take 8

/-- Direction and virtual stage of a round entry. -/
def roundDir (r : List Byte) : Nat := bits (leAt r 0 1) 0 1
def roundVstage (r : List Byte) : Nat := bits (leAt r 0 1) 1 3

/-- The chunk that a stage's virtual stage v holds: placed as R72 says, odd virtual stages in reverse. -/
def chunkOf (n stage v : Nat) : Nat := v * n + (if v % 2 = 0 then stage else n - 1 - stage)

/-- Whether a list of directions keeps the rule of ONE_F_ONE_B with a limit (R283): at most limit forwards before the first backward, then
alternating while both remain. -/
def alternates : List Nat → Bool
  | [] => true
  | [_] => true
  | a :: b :: r => (a != b || !((b :: r).contains 0 && (b :: r).contains 1)) && alternates (b :: r)

def keepsForm (limit : Nat) (l : List Nat) : Bool :=
  let lead := l.takeWhile (fun d => d == 0)
  let rest := l.dropWhile (fun d => d == 0)
  (rest.isEmpty || decide (lead.length ≤ limit)) && alternates rest

/-- Whether an image's round list keeps the form in force (R283). -/
def State.roundsOk (s : State) (g : List Byte) : Bool :=
  let rs := (List.range (imgRounds g)).map (imgRound g)
  let n := s.rf F.PIPE_SCHED_N_M1 + 1
  let st := s.rf F.SETUP_IDENT_STAGE
  match s.rf F.PIPE_SCHED_FORM with
  | 0 => !((rs.map roundDir).dropWhile (fun d => d == 0)).contains 0
  | 1 => keepsForm (n - st) (rs.map roundDir)
  | 2 => (List.range 8).all (fun v =>
      keepsForm (n * (s.rf F.PIPE_SCHED_V_M1 + 1) - chunkOf n st v) ((rs.filter (fun r => roundVstage r == v)).map roundDir))
  | _ => false

/-- The first of a list of checks that fails: its status and byte offset. -/
def firstBad (l : List (Bool × Nat × Nat)) : Option (Nat × Nat) := (l.find? (fun e => !e.1)).map (·.2)

/-- The reserved bytes of a task entry and a round entry (R282). -/
def taskEntryOk (t : List Byte) : Bool :=
  decide (leAt t 0 1 < 8) && leAt t 1 1 == 0 && decide (leAt t 0xE 1 < 64) && leAt t 0xF 1 == 0 && leAt t 0x14 12 == 0
def roundEntryOk (r : List Byte) : Bool :=
  decide (leAt r 0 1 < 16) && decide (1 ≤ leAt r 1 1) && decide (leAt r 1 1 ≤ 16) && leAt r 6 2 == 0

/-- The image's own checks (R283), with the status and the failing byte offset of each; crc says whether its CRCs are checked. -/
def State.imageChecks (s : State) (g : List Byte) (len : Nat) (crc : Bool) : List (Bool × Nat × Nat) :=
  let head : List (Bool × Nat × Nat) := [
    (decide (64 ≤ g.length), 4, 0), (leAt g 0 2 == 0x0100, 4, 0),
    (!crc || leAt g 0x3C 4 == crc32c (g.take 0x3C), 4, 0x3C), (leAt g 0x20 4 == len && g.length == len, 4, 0x20),
    (!crc || leAt g 0x38 4 == crc32c (g.drop 0x40), 4, 0x38),
    (decide (1 ≤ imgTasks g) && decide (imgTasks g ≤ 65536), 4, 4), (decide (imgRounds g ≤ 65536), 4, 8),
    (leAt g 0xE 2 == 0, 4, 0xE), (leAt g 0x24 20 == 0, 4, 0x24),
    (decide (64 ≤ imgTaskOff g) && decide (imgTaskOff g + 32 * imgTasks g ≤ len), 4, 0x10),
    (decide (64 ≤ imgRoundOff g || imgRounds g = 0) && decide (imgRoundOff g + 8 * imgRounds g ≤ len), 4, 0x14),
    (imgDescOff g % 32 == 0 && decide (64 ≤ imgDescOff g) && decide (imgDescOff g + 32 * imgDescs g ≤ len), 4, 0x18)]
  let tasks := (List.range (imgTasks g)).flatMap (fun i =>
    let t := imgTask g i
    let o := imgTaskOff g + 32 * i
    [(taskEntryOk t, 4, o), (decide (1 ≤ leAt t 8 4) && decide (leAt t 8 4 ≤ 2 ^ 24), 4, o + 8)])
  let rounds := (List.range (imgRounds g)).map (fun r => (roundEntryOk (imgRound g r), 4, imgRoundOff g + 8 * r))
  let level := [(leAt g 2 2 == 0x0100, 5, 2)]
  let places := (List.range (imgTasks g)).flatMap (fun i =>
    let t := imgTask g i
    let o := imgTaskOff g + 32 * i
    [(decide (leAt t 4 4 + leAt t 8 4 ≤ imgDescs g), 4, o + 4), (decide (leAt t 2 2 ≤ 319), 4, o + 2)])
  let descs := (List.range (imgDescs g)).map (fun i =>
    (decide (bits (leAt g (imgDescOff g + 32 * i) 1) 0 4 < 6), 4, imgDescOff g + 32 * i))
  let form := [(leAt g 0xC 1 == s.rf F.PIPE_SCHED_FORM && leAt g 0xD 1 == s.rf F.PIPE_SCHED_V_M1, 6, 0xC), (s.roundsOk g, 6, imgRoundOff g)]
  match firstBad head with
  | some b => [(false, b)]
  | none => tasks ++ rounds ++ level ++ places ++ descs ++ form

/-- Bytes the graph store holds now. -/
def State.storeUsed (s : State) : Nat :=
  (s.front.graphs.map (fun e => (e.2.versions.map (fun v => v.image.length)).sum)).sum

/-- A refused image or patch (R283): recorded, and its status in the completion. -/
def State.refuseGraph (s : State) (q : Nat) (e : BitVec 512) (status offset : Nat) : State :=
  let s := (s.raise F.FRONT_ERR_GRAPH_REFUSED).event 0x0B02 srcHub (entGraph e) status offset 0
  s.completeNow q e status (entGraph e) 0 offset

/-- Store an image as the next version of graph g, current, with the host's reference (R284, R285). -/
def State.storeVersion (s : State) (g : Nat) (image : List Byte) : State :=
  let x := s.graph g
  let v := x.highest + 1
  let s := (s.wf (F.FRONT_GRAPH_STATE_VALID g) 1).wf (F.FRONT_GRAPH_STATE_CURRENT g) v
  s.setGraph g ⟨x.versions ++ [⟨v, 1, image⟩], v⟩

/-- GRAPH_LOAD (R283, R285), with the image's bytes as the DMA read returned them. -/
def execGraphLoad (q : Nat) (e : BitVec 512) (image : List Byte) (s : State) : Res :=
  .next (s.command q e 2 (fun s =>
    let g := entGraph e
    s.staged 11 ⟨.host, 64 + q⟩ image fun s =>
    let s := (s.accept q e).traceData 3 (0x10 + q) (entryField e 0x18 8) image
    let len := entryField e 0x20 4
    if 4095 < g then s.refuseGraph q e 9 0
    else match firstBad (s.imageChecks image len true) with
      | some (st, o) => s.refuseGraph q e st o
      | none =>
        if s.front.graphStore < s.storeUsed + len then s.refuseGraph q e 7 0
        else if s.flag (F.FRONT_GRAPH_STATE_VALID g) then s.refuseGraph q e 0xA 0
        else
          let s := s.storeVersion g image
          s.completeNow q e 0 g (s.graph g).highest 0))

/-- Write a patch's records into a copy of an image (R284); the offset of the first record that lies outside the tables. -/
def applyPatch : Nat → List Byte → Nat → List Byte → Except Nat (List Byte)
  | 0, _, _, img => .ok img
  | fuel + 1, patch, o, img =>
    if patch.length ≤ o then .ok img
    else
      let a := leAt patch o 4
      let n := leAt patch (o + 4) 4
      let inside := fun (b size : Nat) => decide (b ≤ a) && decide (a + n ≤ b + size)
      if patch.length < o + 8 + roundUp n 8 then .error o
      else if inside (imgTaskOff img) (32 * imgTasks img) || inside (imgRoundOff img) (8 * imgRounds img) ||
          inside (imgDescOff img) (32 * imgDescs img) then
        applyPatch fuel patch (o + 8 + roundUp n 8) (img.take a ++ (patch.drop (o + 8)).take n ++ img.drop (a + n))
      else .error o

/-- The checks of a patch image's own header (R284). -/
def patchChecks (p img : List Byte) (len : Nat) : List (Bool × Nat × Nat) := [
  (decide (64 ≤ p.length), 4, 0), (leAt p 0 2 == 0x0100, 4, 0), (leAt p 0x3C 4 == crc32c (p.take 0x3C), 4, 0x3C),
  (leAt p 0x20 4 == len && p.length == len, 4, 0x20), (leAt p 0x38 4 == crc32c (p.drop 0x40), 4, 0x38),
  (leAt p 4 4 == imgTasks img, 4, 4), (leAt p 8 4 == imgRounds img, 4, 8), (leAt p 0x10 16 == 0, 4, 0x10),
  (leAt p 0xE 2 == 0, 4, 0xE), (leAt p 0x24 20 == 0, 4, 0x24), (leAt p 2 2 == 0x0100, 5, 2),
  (leAt p 0xC 2 == leAt img 0xC 2, 6, 0xC)]

/-- GRAPH_PATCH (R284, R285). A graph with no current version has nothing to patch. -/
def execGraphPatch (q : Nat) (e : BitVec 512) (patch : List Byte) (s : State) : Res :=
  .next (s.command q e 3 (fun s =>
    let g := entGraph e
    s.staged 11 ⟨.host, 64 + q⟩ patch fun s =>
    let s := (s.accept q e).traceData 3 (0x10 + q) (entryField e 0x18 8) patch
    let len := entryField e 0x20 4
    let x := s.graph g
    match (if 4095 < g ∨ !s.flag (F.FRONT_GRAPH_STATE_VALID g) then none
      else x.versions.find? (fun v => v.num == s.rf (F.FRONT_GRAPH_STATE_CURRENT g))) with
    | none => s.refuseGraph q e 9 0
    | some cur =>
      match firstBad (patchChecks patch cur.image len) with
      | some (st, o) => s.refuseGraph q e st o
      | none =>
        match applyPatch patch.length patch 0x40 cur.image with
        | .error o => s.refuseGraph q e 4 o
        | .ok img =>
          match firstBad (s.imageChecks img img.length false) with
          | some (st, o) => s.refuseGraph q e st o
          | none =>
            if s.front.graphStore < s.storeUsed + img.length then s.refuseGraph q e 7 0
            else if 8 ≤ x.versions.length then s.refuseGraph q e 8 0
            else
              let s := (s.dropRef g cur.num).storeVersion g img
              s.completeNow q e 0 g (s.graph g).highest 0))

/-- GRAPH_FREE (R285). -/
def execGraphFree (q : Nat) (e : BitVec 512) (s : State) : Res :=
  .next (s.command q e 4 (fun s =>
    let g := entGraph e
    let s := s.accept q e
    if 4095 < g ∨ !s.flag (F.FRONT_GRAPH_STATE_VALID g) then s.completeNow q e 9 g 0 0
    else
      let cur := s.rf (F.FRONT_GRAPH_STATE_CURRENT g)
      let s := s.wf (F.FRONT_GRAPH_STATE_VALID g) 0
      (s.dropRef g cur).completeNow q e 0 g 0 0))

/-! ### Launching and dispatch (R286, R290) -/

/-- Tasks in the ready list of logical core m (R286). -/
def State.readyCount (s : State) (m : Nat) : Nat :=
  (s.front.tasks.filter (fun t => t.core == m && (t.phase == .ready || t.phase == .saved))).length

/-- Dispatch task index i of a launch to its core's ready list. -/
def State.dispatch (s : State) (l : Launch) (image : List Byte) (i : Nat) : State :=
  let e := imgTask image i
  let t : Task := { id := s.front.nextId, launch := l.id, queue := l.queue, index := i, core := leAt e 2 2, persistent := bit (leAt e 0 1) 1,
                    first := leAt e 4 4, count := leAt e 8 4, popQueue := leAt e 0xC 2, argHandle := leAt e 0xE 1, phase := .ready,
                    wait := .none, desc := 0, pass := 0, pushed := 0, started := [], variance := 0 }
  let s : State := { s with front := { s.front with tasks := s.front.tasks ++ [t], nextId := s.front.nextId + 1 } }
  s.bump (F.FRONT_CNT_COUNT 1) 1

/-- Dispatch a task of a launch where its core's ready list has a free place (R286); none where it is held. A launch that has gone has nothing to dispatch. -/
def State.tryDispatch (s : State) (id i : Nat) : Option State :=
  match s.front.launches.find? (fun l => l.id == id) with
  | none => some s
  | some l =>
    match s.versionOf l.graph l.version with
    | none => some s
    | some v => if 16 ≤ s.readyCount (leAt (imgTask v.image i) 2 2) then none else some (s.dispatch l v.image i)

/-- Dispatch the tasks that wait for a place, in order, each core's own (R286, R290): a full ready list holds those of its core only. The answer keeps the
held ones. -/
def State.dispatchList (s : State) (l : List (Nat × Nat × Bool)) : State × List (Nat × Nat × Bool) :=
  l.foldl (fun (a : State × List (Nat × Nat × Bool)) e =>
    if e.2.2 then (a.1, a.2 ++ [e])
    else match a.1.tryDispatch e.1 e.2.1 with
      | some t => (t, a.2)
      | none => (a.1, a.2 ++ [e])) (s, [])

/-- Dispatch what has a place: the ENTRY tasks, then the tasks enqueued before item 1 of R23 (R290). -/
def State.dispatchHeld (s : State) : State :=
  let (s, l) := s.dispatchList (s.front.undispatched.map (fun e => (e.1, e.2, false)))
  let s : State := { s with front := { s.front with undispatched := l.map (fun e => (e.1, e.2.1)) } }
  let (s, l) := s.dispatchList s.front.enqueued
  { s with front := { s.front with enqueued := l } }

/-- Take a reference of a version for a launch (R285). -/
def State.takeRef (s : State) (g v : Nat) : State :=
  let x := s.graph g
  s.setGraph g { x with versions := x.versions.map (fun w => if w.num = v then { w with refs := w.refs + 1 } else w) }

/-- Start an accepted launch of a version, its constant buffer at a stripe (R286, R287). -/
def State.startLaunch (s : State) (q : Nat) (e : BitVec 512) (v : Version) (constAt : Option Nat) : State :=
  let g := entGraph e
  let entries := (List.range (imgTasks v.image)).filter (fun i => bit (leAt (imgTask v.image i) 0 1) 0)
  let l : Launch := ⟨s.front.nextId, q, e, g, v.num, constAt, entries.length, none, false, false, 0, false⟩
  let s : State := { s with front := { s.front with launches := s.front.launches ++ [l], nextId := s.front.nextId + 1 } }
  let s := s.takeRef g v.num
  let s : State := if 0 < imgRounds v.image then { s with front := { s.front with rounds := some (g, v.num) } } else s
  if entries.isEmpty then s.launchCheck l.id
  else State.dispatchHeld { s with front := { s.front with undispatched := s.front.undispatched ++ entries.map (fun i => (l.id, i)) } }

/-- LAUNCH (R280, R285, R286), with the 256 bytes of the constant buffer where the entry names one. A HALTED step begins again (R23). -/
def execLaunch (q : Nat) (e : BitVec 512) (const : List Byte) (s : State) : Res :=
  .next (s.command q e 1 (fun s =>
    let g := entGraph e
    let addr := entryField e 0x18 8
    match (if 4095 < g ∨ !s.flag (F.FRONT_GRAPH_STATE_VALID g) then none else s.versionOf g (s.rf (F.FRONT_GRAPH_STATE_CURRENT g))) with
    | none => (s.accept q e).completeNow q e 9 g 0 0
    | some v =>
      let halted := s.rf F.FRONT_STATUS_STEP == stepHalted
      if decide (0 < imgRounds v.image) && s.front.rounds.isSome && !halted then (s.accept q e).completeNow q e 1 g v.num 0
      else
        let begin0 := fun (s : State) =>
          let s := s.accept q e
          if halted then
            let s : State := { s with front := { s.front with rounds := none } }
            s.freshAttempt.wf F.FRONT_STATUS_STEP stepRun
          else s
        if addr = 0 then (begin0 s).startLaunch q e v none
        else if const.length ≠ 256 then s
        else match s.request 12 1 ⟨.constant, s.front.nextId⟩ with
          | (.waits, s) => s
          | (.refused, s) => (s.accept q e).completeNow q e 1 g v.num 0
          | (.granted a, s) =>
            let s := (s.store (stripeAddr a) const).traceData 3 (0x10 + q) addr const
            (begin0 s).startLaunch q e v (some (stripeAddr a))))

/-! ### Running tasks (R286 to R290, R294) -/

/-- Whether this queue may feed a persistent task (R289): a program queue that is open. -/
def State.popOk (s : State) (q : Nat) : Bool := s.programQueue q

/-- A dispatched task begins on its core's task unit (R154, R289): a persistent one waits for its first word, and one whose queue cannot be popped aborts with
HANDLE. -/
def State.beginTask (s : State) (m n : Nat) (t : Task) : State :=
  let s := s.zero [F.CORE_ABORT_CAUSE n, F.STREAM_STATUS_FAULTED n]
  if t.persistent then
    let s := (s.updTask t.id (fun t => { t with phase := .waiting, wait := .queue t.popQueue })).showTask m taskWaiting
    if s.popOk t.popQueue then s else s.fault m 4
  else (s.updTask t.id (fun t => { t with phase := .run })).showTask m taskRun

/-- A saved task goes on (R150, R288, R316): it waits again where it waited, and a wait that has been met while it was saved ends. -/
def State.resumeTask (s : State) (m n : Nat) (t : Task) : State :=
  if t.wait == .none then ((s.updTask t.id (fun t => { t with phase := .run })).showTask m taskRun).settleTask m
  else
    let s := (s.updTask t.id (fun t => { t with phase := .waiting })).showTask m taskWaiting
    match t.wait with
    | .clasp c target _ _ =>
      (((s.wf (F.CLASP_CORE_WAIT_NUM n) c).wf (F.CLASP_CORE_WAIT_VALID n) 1).wf (F.CLASP_CORE_TARGET_TARGET n) target).claspSettle c
    | .arrivals h _ => s.checkArrivals n h
    | _ => s

/-- The bytes of a task's descriptor list that its task unit fetches first (R286): one transfer of 4 KiB at most. -/
def State.taskFetch (s : State) (t : Task) : List Byte :=
  match (s.front.launches.find? (fun l => l.id == t.launch)).bind (fun l => s.versionOf l.graph l.version) with
  | some v => ((v.image.drop (imgDescOff v.image + 32 * t.first)).take (32 * t.count)).take 4096
  | none => []

/-- TASK_START (R286): the head of the core's ready list starts, or goes on where it was saved. A logical core with no physical core aborts
the task at its first descriptor with cause WIDTH (R458). -/
def execTaskStart (m : Nat) (s : State) : Res :=
  .next (if (s.curTask m).isSome then s
    else
      match s.front.tasks.find? (fun t => t.core == m && (t.phase == .ready || t.phase == .saved)) with
      | none => s
      | some t =>
        match s.physOf m with
        | none => (s.updTask t.id (fun t => { t with phase := .run })).fault m 9
        | some n =>
          if t.phase == .saved then (s.resumeTask m n t).dispatchHeld
          else s.staged 12 ⟨.message, 2 ^ 32 + m⟩ (s.taskFetch t) fun s => (s.beginTask m n t).dispatchHeld)

/-- A task leaves without an abort, its core idle. -/
def State.leave (s : State) (t : Task) : State := (s.showTask t.core taskIdle).dropTask t

/-- PERSISTENT_POP (R289). -/
def execPersistentPop (m : Nat) (flips : BitVec 66) (u : Upset) (s : State) : Res :=
  .next (match s.curTask m, s.physOf m with
    | some t, some n =>
      if !(t.persistent && t.phase == .waiting && t.wait == .queue t.popQueue) then s
      else if !s.popOk t.popQueue then s.fault m 4
      else
        let (s, ready) := s.touchHandles n [(t.argHandle, false)]
        if !ready && s.hValid n t.argHandle then s
        else
          let (r, s) := s.qRead t.popQueue flips u
          if r.nv then (if s.rf F.FRONT_STATUS_STEP = stepDrain then s.leave t else s)
          else if r.poison then s.fault m 5
          else if r.last then s.leave t
          else if !s.hValid n t.argHandle || decide (s.hBytes n t.argHandle < 8) then s.fault m 4
          else
            let s := s.store (s.hAddr n t.argHandle 0) (natLe r.data.toNat 8)
            (s.updTask t.id (fun t => { t with phase := .run, wait := .none, desc := 0 })).showTask m taskRun
    | _, _ => s)

/-- A task of queue q on logical core m that may pre-empt (R288), dispatched to the core where it was held for want of a place. -/
def State.rivalOf (s : State) (m q : Nat) : Option (State × Task) :=
  match s.front.tasks.find? (fun u => u.core == m && u.phase == .ready && u.queue == q) with
  | some u => some (s, u)
  | none =>
    (s.front.undispatched.findSome? (fun e =>
      match s.front.launches.find? (fun l => l.id == e.1 && l.queue == q) with
      | none => none
      | some l => match s.versionOf l.graph l.version with
        | none => none
        | some v =>
          if leAt (imgTask v.image e.2) 2 2 = m then
            some (State.dispatch { s with front := { s.front with undispatched := s.front.undispatched.erase e } } l v.image e.2)
          else none)).bind (fun t => t.front.tasks.getLast?.map (fun u => (t, u)))

/-- TASK_PREEMPT (R150, R288): a task of a lower-numbered queue takes the core, whose ready list is full. The running task stops once its RUNs are done and no
chain is open; until then its core shows PREEMPTING. It is saved, and stands in the ready list behind the task that pre-empts it, at the head, which
TASK_START starts next. -/
def execTaskPreempt (m : Nat) (s : State) : Res :=
  .next (match s.curTask m, s.physOf m with
    | some t, some n =>
      match (List.range t.queue).findSome? (fun q => if s.flag (F.FRONT_Q_CFG_PREEMPT q) then s.rivalOf m q else none) with
      | none => s
      | some (v, u) =>
        if s.readyCount m < 16 ∨ t.phase == .draining then s
        else if !((s.core n).runs.isEmpty && (s.core n).chain.isNone) then s.showTask m taskPreempting
        else
          let s := v.bump (F.FRONT_CNT_COUNT 4) 1
          let l := s.front.tasks.filter (fun x => x.id != u.id && x.id != t.id)
          (((s.setTasks (u :: { t with phase := .saved } :: l)).unlend n).wf (F.CLASP_CORE_WAIT_VALID n) 0).showTask m taskSaved
    | _, _ => s)

/-- TASK_STALL (R294): the task drains. -/
def execTaskStall (m : Nat) (s : State) : Res :=
  .next (match s.curTask m with
    | some t => if t.phase == .draining then s else (s.updTask t.id (fun t => { t with phase := .draining })).settleTask m
    | none => s)

/-- TASK_KILL (R294): the drain took more than DRAIN_LIMIT ticks; a stream engine that still runs RUNs shows cause KILLED with its oldest RUN's descriptor
(R181). -/
def execTaskKill (m : Nat) (s : State) : Res :=
  .next (match s.curTask m, s.physOf m with
    | some t, some n =>
      if t.phase == .draining then
        let s := match (s.core n).runs with
          | [] => s
          | r :: _ => s.noteStreamFault n 8 0 0 r.desc
        s.stallEnd t true
      else s
    | _, _ => s)

/-! ### CONTROL operations (R290, R291) -/

/-- CTRL_NOP (R291). -/
def execCtrlNop (m : Nat) (d : BitVec 256) (s : State) : Res :=
  .next (s.issue m d fun s => if controlHeader d 0 && descZero d 2 32 then s.nextDesc m else s.fault m 1)

/-- ENQUEUE (R290): a full list holds the task. -/
def execEnqueue (m : Nat) (d : BitVec 256) (s : State) : Res :=
  let i := descField d 4 2
  .next (s.issue m d fun s => if !(controlHeader d 1 && descField d 2 2 == 0 && descZero d 6 32) then s.fault m 1
    else match s.curTask m with
      | none => s
      | some t =>
        match s.front.launches.find? (fun l => l.id == t.launch) with
        | none => s
        | some l =>
          match s.versionOf l.graph l.version with
          | none => s
          | some v =>
            if imgTasks v.image ≤ i then s.fault m 1
            else if 4096 ≤ s.front.enqueued.length then s.block m (.retry d)
            else
              let late := s.rf F.FRONT_STATUS_STEP != stepRun
              let s : State := { s with front := { s.front with enqueued := s.front.enqueued ++ [(l.id, i, late)] } }
              let s := s.updLaunch l.id (fun l => { l with live := l.live + 1 })
              s.dispatchHeld.nextDesc m)

/-- Put a module address into the SRC or DST instruction at byte o of handle HP (R255, R291): SPACE 0 and VALUE. -/
def State.putAddress (s : State) (m n hp o addr : Nat) : State :=
  if s.hBusy n hp then s
  else if o % 16 ≠ 0 ∨ !s.hValid n hp || decide (s.hBytes n hp < o + 16) then s.fault m 4
  else
    let a := s.hAddr n hp o
    let (s, ready) := s.touch n (s.hStart n hp + o) 16 true
    if !ready then s
    else if s.poisonedAt a 16 then s.fault m 5
    else if s.rle a 1 ≠ 1 ∧ s.rle a 1 ≠ 2 then s.fault m 4
    else (s.store (a + 1) (0#8 :: natLe addr 6)).nextDesc m

/-- CONST_ADDR (R291). -/
def execConstAddr (m : Nat) (d : BitVec 256) (s : State) : Res :=
  .next (s.issue m d fun s => if !(controlHeader d 0xD && descField d 2 2 == 0 && decide (descField d 4 1 < 64) && descField d 5 3 == 0 && descZero d 0xC 32) then s.fault m 1
    else match s.physOf m with
      | none => s
      | some n =>
        let at0 := match s.curTask m with
          | some t => (s.front.launches.find? (fun l => l.id == t.launch)).bind (·.constAt)
          | none => none
        match at0 with
        | none => s.fault m 4
        | some a => s.putAddress m n (descField d 4 1) (descField d 8 4) a)

/-! ### Completion (R296 to R299) -/

/-- The record of a completion (R296); TICKS counts ticks, of which the model has no clock: a free value. -/
def State.record (s : State) (c : Completion) (ticks : BitVec 64) : List Byte :=
  natLe (entTag c.entry) 4 ++ natLe c.status 1 ++ natLe (c.flags + b2n (!s.front.wrapped.contains c.queue)) 1 ++ natLe c.queue 1 ++
    natLe (entOpcode c.entry) 1 ++ natLe c.step 4 ++ natLe c.graph 2 ++ natLe c.version 2 ++ natLe c.detail 4 ++ natLe c.desc 4 ++ natLe ticks.toNat 8

/-- After a record: the MSI-X with IRQ, the Chain signal with CHAIN_SIG; a command that was BAD_CMD sends no signal (R280, R298). -/
def State.announce (s : State) (c : Completion) : State :=
  let s := if bit (entFlags c.entry) 0 then s.msix (s.rf (F.FRONT_Q_CFG_VEC c.queue)) else s
  if bit (entFlags c.entry) 2 && c.status != 3 then
    s.chainSignal (entryField c.entry 0x30 2) (entryField c.entry 0x34 4) (entryField c.entry 0x38 4)
  else s

/-- Put a record in the overflow log, or lose it where the log is full (R299). -/
def State.logRecord (s : State) (c : Completion) (rec : List Byte) : State :=
  let w := s.rf F.FRONT_OVF_WR_PTR
  if (w + 8192 - s.rf F.FRONT_OVF_RD_PTR) % 8192 = 4096 then
    ((s.bump F.FRONT_OVF_LOST_COUNT 1).raise F.FRONT_ERR_OVF_LOST).event 0x0B06 srcHub c.queue (entTag c.entry) 0 0
  else
    let s := (List.range 8).foldl (fun (s : State) i => s.wf (F.FRONT_OVF_WORD (w % 4096 * 8 + i)) (leAt rec (4 * i) 4)) s
    (s.wf F.FRONT_OVF_WR_PTR (w + 1)).bump (F.FRONT_CNT_COUNT 6) 1

/-- Records of queue q go to the log from here on (R299, R384). -/
def State.setCstall (s : State) (q tag code : Nat) : State :=
  ((s.wf (F.FRONT_Q_STATUS_CSTALL q) 1).raise F.FRONT_ERR_CSTALL).event 0x0B05 srcHub q tag code 0

/-- CTAIL moves past a record; PHASE inverts when the ring wraps (R296). -/
def State.advanceCtail (s : State) (q : Nat) : State :=
  let c := s.rf (F.FRONT_Q_CTAIL_INDEX q) + 1
  if s.ringSize q ≤ c then
    let w := if s.front.wrapped.contains q then s.front.wrapped.filter (fun x => x != q) else q :: s.front.wrapped
    ({ s with front := { s.front with wrapped := w } }).wf (F.FRONT_Q_CTAIL_INDEX q) 0
  else s.wf (F.FRONT_Q_CTAIL_INDEX q) c

/-- A write of the module to host memory, counted in KiB begun (R391). -/
def State.dmaWrite (s : State) (addr : Nat) (data : List Byte) : State :=
  (s.toHost (.dmaWrite addr data)).bump (F.HOSTIF_CNT_COUNT 2) (ceilDiv data.length 1024)

/-- COMPLETION_WRITE (R188, R296, R298, R299, R384): the oldest completed command's record goes to its ring through stripes of the FRONT stream; to the log while CSTALL is set or the
DMA gate is closed. With VERIFY it awaits its read-back before anything else of its queue. -/
def execCompletionWrite (s : State) : Res :=
  .next (match s.front.done with
    | [] => s
    | c :: rest =>
      if s.front.verifying.any (fun v => v.1.queue == c.queue) then s
      else
        let (ticks, s) := s.freeWord 64
        let l := s.record c ticks
        let taken := fun (s : State) => ({ s with front := { s.front with done := rest } } : State)
        if s.flag (F.FRONT_Q_STATUS_CSTALL c.queue) then ((taken s).logRecord c l).announce c
        else if s.gated then (((taken s).setCstall c.queue (entTag c.entry) 0).logRecord c l).announce c
        else s.staged 12 ⟨.message, c.queue⟩ l fun s =>
          let s := taken s
          let a := s.pairNow (F.FRONT_Q_CBASE_LO_ADDR c.queue).off / 4096 * 4096 + 32 * s.rf (F.FRONT_Q_CTAIL_INDEX c.queue)
          let s := s.dmaWrite a l
          if s.flag (F.FRONT_Q_CFG_VERIFY c.queue) then
            { s with front := { s.front with verifying := s.front.verifying ++ [(c, ticks)] } }
          else (s.advanceCtail c.queue).announce c)

/-- The completion code of a failed read (PCIe: Unsupported Request 1, Completer Abort 4); a timeout counts as Completer Abort (R382). -/
def cplCode : Cpl → Nat
  | .ur => 1
  | .ok => 0
  | _ => 4

/-- The read-back of queue q's record completes (R299): on an error the record goes to the log instead, and CSTALL is set. -/
def State.verified (s : State) (q : Nat) (r : Cpl) : State :=
  match s.front.verifying.find? (fun v => v.1.queue == q) with
  | none => s
  | some (c, ticks) =>
    let s : State := { s with front := { s.front with verifying := s.front.verifying.filter (fun v => v.1.queue != q) } }
    match r with
    | .ok => (s.advanceCtail q).announce c
    | _ => ((s.setCstall q (entTag c.entry) (cplCode r)).logRecord c (s.record c ticks)).announce c

/-- RECORD_VERIFY_DONE (R299). -/
def execRecordVerifyDone (q : Nat) (r : Cpl) (s : State) : Res := .next (s.verified q r)

/-- CSTALL_CLEAR (R299). -/
def execCstallClear (q : Nat) (s : State) : Res := .next (if q < 8 then s.wf (F.FRONT_Q_STATUS_CSTALL q) 0 else s)

end Sys2Proof.Machine
end

