-- ==== Sys2Proof/Machine/Link.lean ====
section
/-! DEFINITION. The Swiec link: training, EXCHANGE, flits, retry, credits, the step gate and the sending order (chapter 17). Ports are 0 west,
1 east, 2 up, 3 down. -/

namespace Sys2Proof.Machine

/-! ### States and events -/

/-- LINK.STATUS.STATE codes (R368). -/
def lkDown : Nat := 0
def lkHoldoff : Nat := 1
def lkTrain : Nat := 2
def lkAlign : Nat := 3
def lkExchange : Nat := 4
def lkRefused : Nat := 5
def lkUp : Nat := 6

/-- The state of a port's link. -/
def State.lk (s : State) (p : Nat) : Nat := s.rf (F.LINK_STATUS_STATE p)

/-- The LINK field that the Chain or pipeline layer shows. -/
def layerLink (p : Nat) : Fld := if p < 2 then F.CHAIN_STATUS_LINK p else F.PIPE_STATUS_LINK (p - 2)

/-- Enter a state: CHAIN.STATUS.LINK and PIPE.STATUS.LINK show it in three values (R368). -/
def State.lkEnter (s : State) (p st : Nat) : State :=
  (s.wf (F.LINK_STATUS_STATE p) st).wf (layerLink p)
    (if st = lkUp then 2 else if st = lkTrain ∨ st = lkAlign ∨ st = lkExchange then 1 else 0)

/-- Note a Swiec event: LAST_EVENT, and a Loupe LINK record for codes 1 to 5 (R371). -/
def State.linkEvent (s : State) (p code lane : Nat) : State :=
  let s := (s.wf (F.LINK_LAST_EVENT_CODE p) code).wf (F.LINK_LAST_EVENT_LANE p) lane
  if code ≤ 5 then s.trace 0x07 p 0 code 0 0 else s

/-- An event record of a link: port, Swiec event code, lane or message type (R373). -/
def State.swiec (s : State) (code p ev arg : Nat) : State := (s.linkEvent p ev arg).event code (srcPort p) p ev arg 0

/-- The Chain or pipeline layer of a port learns that its link is down (R54, R79, R369). -/
def State.reportDown (s : State) (p : Nat) : State := if p < 2 then s.chainDown p else s.pipeDown p

/-- Stripes that a unit holds are free (R53, R195, R209): an entry of the transit ring of a direction, keyed by direction and stripe, or the allocator's grants of
its holder. -/
def State.freeHeld (s : State) (o : Owner) : State :=
  if o.kind == .transit then
    let drop := fun (l : List (Nat × Nat)) => l.filter (fun e => e.1 != o.key % 2 ^ 32)
    if o.key / 2 ^ 32 = 0 then { s with casket := { s.casket with transit0 := drop s.casket.transit0 } }
    else { s with casket := { s.casket with transit1 := drop s.casket.transit1 } }
  else s.freeOwner o

/-- The holders of stripes among the units that a link still has to send. -/
def LinkX.holders (x : LinkX) : List Owner := (x.ready.map (·.2) ++ x.sending.flatMap (·.2)).filterMap (·.holds)

/-- CAMEO_STATUS.RESTORING ends with the last restore Bead sent (R247): none waits for stripes, for its turn on a link, or has bytes left to send. -/
def State.showRestoring (s : State) : State :=
  let restores := fun (u : TxUnit) => !u.counts && u.holds.any (fun o => o.kind == .cameo)
  if s.chain.deferred.any (fun d => leAt d.data 3 1 == 4) ||
      s.links.any (fun e => (e.2.ready.map (·.2) ++ e.2.sending.flatMap (·.2)).any restores) then s
  else s.wf F.HEALTH_CAMEO_STATUS_RESTORING 0

/-- Beads that waited for stripes to leave by a port are not sent: their requests and stripes are free. -/
def State.dropDeferred (s : State) (q : Deferred → Bool) : State :=
  let gone := s.chain.deferred.filter q
  let s : State := { s with chain := { s.chain with deferred := s.chain.deferred.filter (fun d => !q d) } }
  let s := s.setWaiting (s.casket.waiting.filter (fun r => !gone.any (fun d => d.owner == r.owner)))
  gone.foldl (fun (s : State) d => d.streams.foldl State.showWaiting (s.freeOwner d.owner)) s

/-- What a link knows of its neighbour and its lanes goes with the link; the stripes of the units it had to send are free. The header version negotiated on a
pipeline link goes too (R81). -/
def State.lkForget (s : State) (p : Nat) : State :=
  let s := ((s.link p).holders.foldl State.freeHeld s).dropDeferred (fun d => d.port == p)
  let s := if 2 ≤ p then s.wf (F.PIPE_STATUS_VER (p - 2)) 0 else s
  let s := s.setLink p LinkX.reset
  let s := s.zero [F.LINK_STATUS_TX_WIDTH p, F.LINK_STATUS_RX_WIDTH p, F.LINK_STATUS_VERSION p, F.LINK_LANES_RX_MASK p,
    F.LINK_LANES_TX_MASK p, F.LINK_NBR_VALID p, F.LINK_GATE_RX_STEP p]
  let s := s.zero ((List.range 8).map (fun c => F.LINK_CRED_CREDITS p c))
  (s.wf (if p < 2 then F.CHAIN_STATUS_NBR_VALID p else F.PIPE_STATUS_NBR_VALID (p - 2)) 0).showRestoring

/-- A down condition (R368, R369): the retry buffer, partial units and credits are discarded, ERR.LINK_DOWN is set and SWIEC_LINK_DOWN
recorded; the layer above learns of a link that was UP. -/
def State.linkDown (s : State) (p : Nat) : State :=
  if s.lk p = lkDown ∨ 3 < p then s
  else
    let up := s.lk p == lkUp
    let s := (s.lkForget p).lkEnter p lkHoldoff
    let s := ((s.raise (F.LINK_ERR_LINK_DOWN p)).bump (F.LINK_CNT_COUNT p 9) 1).life (0x2E40 + 4 * p) 1
    let s := s.swiec 0x0F01 p 5 0
    if up then s.reportDown p else s

/-- LINK_DOWN (R369). -/
def execLinkDown (p : Nat) (s : State) : Res := .next (s.linkDown p)

/-- RETRAIN (R368): as a down condition, in any state but DOWN. -/
def execRetrain (p : Nat) (s : State) : Res := .next (s.linkDown p)

/-- LINK_SILENT (R369): 2 µs with no good flit on any lane of a link that is UP. -/
def execLinkSilent (p : Nat) (s : State) : Res := .next (if s.lk p = lkUp then s.linkDown p else s)

/-- A protocol error (R355): the link goes down. -/
def State.protocolError (s : State) (p : Nat) : State := ((s.raise (F.LINK_ERR_PROTOCOL p)).swiec 0x0F06 p 9 0).linkDown p

/-- EN set: the port leaves DOWN. -/
def State.lkStart (s : State) (p : Nat) : State := if s.lk p = lkDown then s.lkEnter p lkHoldoff else s

/-- EN cleared: the port stops transmitting (R368). -/
def State.lkStop (s : State) (p : Nat) : State := (s.lkForget p).lkEnter p lkDown

/-- LINK_EN_WRITE (R368): the write of CHAIN.CTRL.EN. The clear is not among the down conditions of R369, so nothing folds: DEDUCED. -/
def execLinkEnWrite (p : Nat) (on : Bool) (s : State) : Res :=
  .next (if 1 < p then s
    else
      let s := s.wflag (F.CHAIN_CTRL_EN p) on
      if on then s.lkStart p else s.lkStop p)

/-- PIPE_EN_WRITE (R463): the write of PIPE.CTRL's enables. A clear takes effect at the next item 10. -/
def execPipeEnWrite (up down : Bool) (s : State) : Res :=
  let one := fun (s : State) (p : Nat) (on : Bool) =>
    let was := s.flag (pipeEn p)
    let s := s.wflag (pipeEn p) on
    let pl := s.pipe.planned.filter (fun q => q != p)
    if on then ({ s with pipe := { s.pipe with planned := pl } } : State).lkStart p
    else if was then { s with pipe := { s.pipe with planned := pl ++ [p] } }
    else s
  .next (one (one s 2 up) 3 down)

/-- HOLDOFF_DONE (R368). -/
def execHoldoffDone (p : Nat) (s : State) : Res := .next (if s.lk p = lkHoldoff then s.lkEnter p lkTrain else s)

/-- LANES_TRAINED (R368): enough lanes trained; a training is completed. -/
def execLanesTrained (p : Nat) (lanes : BitVec 32) (s : State) : Res :=
  .next (if s.lk p = lkTrain ∧ s.rf (F.LINK_CFG_MIN_LANES p) ≤ popCount lanes.toNat 32 then
      (s.lkEnter p lkAlign).bump (F.LINK_CNT_COUNT p 10) 1
    else s)

/-- TRAIN_TIMEOUT (R368). -/
def execTrainTimeout (p : Nat) (s : State) : Res :=
  .next (let st := s.lk p
    if st = lkTrain ∨ st = lkAlign then
      (((s.raise (F.LINK_ERR_TRAIN_FAIL p)).swiec 0x0F03 p 8 0).lkForget p).lkEnter p lkHoldoff
    else if st = lkExchange then ((s.raise (F.LINK_ERR_TRAIN_FAIL p)).lkForget p).lkEnter p lkHoldoff
    else s)

/-- The lanes a sender uses of a mask (R367, R370): all of them under 1.1; under 1.0 the lowest-numbered, at the largest width of its list. -/
def useLanes (p version mask : Nat) : Nat :=
  if version = 0x0101 then mask
  else
    let w := popCount mask 32
    let allowed := if p < 2 then [32, 16, 8] else [8, 4, 2]
    let n := (allowed.find? (fun a => decide (a ≤ w))).getD 0
    ((List.range 32).foldl (fun (a : Nat × Nat) l => if bit mask l && decide (a.2 < n) then (a.1 + 2 ^ l, a.2 + 1) else a) (0, 0)).1

/-- Put the transmit or receive lanes and their width. -/
def State.setTx (s : State) (p mask : Nat) : State :=
  (s.wf (F.LINK_LANES_TX_MASK p) mask).wf (F.LINK_STATUS_TX_WIDTH p) (popCount mask 32)
def State.setRx (s : State) (p mask : Nat) : State :=
  (s.wf (F.LINK_LANES_RX_MASK p) mask).wf (F.LINK_STATUS_RX_WIDTH p) (popCount mask 32)

/-- LINK_ALIGNED (R368): lanes good at both ends, in each direction; SEQ and credits from 0, and EXCHANGE goes out (R366). -/
def execLinkAligned (p : Nat) (rx tx polarity : BitVec 32) (s : State) : Res :=
  let min0 := s.rf (F.LINK_CFG_MIN_LANES p)
  .next (if s.lk p = lkAlign ∧ min0 ≤ popCount rx.toNat 32 ∧ min0 ≤ popCount tx.toNat 32 then
      let s := ((s.lkForget p).setRx p rx.toNat).setTx p tx.toNat
      ((s.wf (F.LINK_POLARITY_INV p) polarity.toNat).lkEnter p lkExchange).sendExchange p
    else s)

/-- EXCHANGE_RESEND (R366, R368). -/
def execExchangeResend (p : Nat) (s : State) : Res :=
  .next (if s.lk p = lkExchange ∨ s.lk p = lkRefused then s.sendExchange p else s)

/-! ### Credits (R359, R360) -/

/-- The classes a port carries (R355). -/
def carries (p c : Nat) : Bool := c == 0 || (if p < 2 then decide (1 ≤ c ∧ c ≤ 4) || c == 6 else c == 5)

/-- Credits for the bytes of a unit. -/
def creditsFor (n : Nat) : Nat := ceilDiv n 512

/-- Look up and put a per-class number. -/
def clsGet (l : List (Nat × Nat)) (c : Nat) : Nat := SMap.get (fun _ => 0) l c
def clsPut (l : List (Nat × Nat)) (c v : Nat) : List (Nat × Nat) := SMap.set (fun _ => 0) l c v

/-- Credits come due to the neighbour. -/
def State.giveCredits (s : State) (p c n : Nat) : State :=
  let x := s.link p
  s.setLink p { x with creditDue := clsPut x.creditDue c (clsGet x.creditDue c + n) }

/-- The credits of a unit that has been taken go back to the neighbour. -/
def State.returnCredits (s : State) (p c : Nat) (u : List Byte) : State := s.giveCredits p c (creditsFor u.length)

/-- The credits a port grants as its link comes up, in 512 B units (R359): messages at least 512, the pipeline's 2 MiB staging buffer, the
transit ring, half the arriving port's LAND floor for BEAD and for GRAD and the CAMEO floor. DESIGN CHOICE of the split. -/
def State.firstGrant (s : State) (p c : Nat) : Nat :=
  if c = 0 ∨ c = 6 then 512
  else if c = 5 then 4096
  else if c = 4 then s.rf (F.CASKET_TRANSIT_SIZE (1 - p)) * 1024
  else if c = 3 then s.rf (F.CASKET_FLOOR_STRIPES 15) / 2
  else min (s.rf (F.CASKET_FLOOR_STRIPES p)) (s.rf (F.CASKET_FLOOR_STRIPES (2 + p))) / 2

/-- The gate this module advertises (R361): its step while it is MEMBER, else 0. -/
def State.gateOut (s : State) : Nat := if s.rf F.CHAIN_MEMBER_STATE = memMember then s.rf F.CHAIN_STEP_STEP else 0

/-- Advertise the step gate on a port (R361). -/
def State.sendGate (s : State) (p : Nat) : State :=
  let g := s.gateOut
  (s.wf (F.LINK_GATE_TX_STEP p) g).sendMsg p 0 (s.message 0x02 0xFFFF g 0 (s.rf F.CHAIN_ARC_ARC_ID) [])

/-- Advertise the gate on every port that is up (item 11 of R23). -/
def State.sendGates (s : State) : State := s.upPorts.foldl State.sendGate s

/-! ### EXCHANGE (R366, R367, R30, R52, R62, R63) -/

/-- The highest version within both ranges; 0 for none. -/
def commonVersion (lo1 hi1 lo2 hi2 : Nat) : Nat := if max lo1 lo2 ≤ min hi1 hi2 then min hi1 hi2 else 0

/-- Check a Chain port that would carry transit: the shares, and regions that hold at least four of the transiting arc's largest Beads (R52, R53, R186). -/
def State.checkTransit (s : State) (p share : Nat) : State :=
  let mine := s.rf (F.CHAIN_TRANSIT_SHARE p)
  if mine = 0 && !s.closingPort p then s
  else
    let need := 4 * (Config.transitBead p % 2050)
    let room := s.closingPort p || (List.range 2).all (fun d => decide (0 < s.rf (F.CASKET_TRANSIT_SIZE d)) &&
      decide (need ≤ s.rf (F.CASKET_TRANSIT_SIZE d) * 1024))
    if mine = share ∧ mine ≠ 0 ∧ room then (s.wf (F.CHAIN_TRANSIT_ACTIVE p) 1).wf (F.CHAIN_STATUS_TRANSIT p) 1
    else
      let s := ((s.wf (F.CHAIN_TRANSIT_ACTIVE p) 0).wf (F.CHAIN_STATUS_TRANSIT p) 0).raise (F.CHAIN_ERR_TRANSIT_REFUSED p)
      let s := s.event 0x0109 (srcPort p) p mine share 0
      if s.closingPort p ∧ !s.chain.refused then
        let s : State := { s with chain := { s.chain with refused := true } }
        s.showArc.sendFold p
      else s

/-- The link is UP (R368): the gate and the first credits go out. -/
def State.comeUp (s : State) (p version : Nat) (m : List Byte) : State :=
  let s := s.wf (F.LINK_STATUS_VERSION p) version
  let s := (s.setTx p (useLanes p version (s.rf (F.LINK_LANES_TX_MASK p)))).setRx p (useLanes p version (s.rf (F.LINK_LANES_RX_MASK p)))
  let s := (s.lkEnter p lkUp).sendGate p
  let s := ((List.range 7).filter (carries p)).foldl (fun (s : State) c => s.giveCredits p c (s.firstGrant p c)) s
  let s := s.swiec 0x0F00 p 6 0
  if p < 2 then s.checkTransit p (leAt m 0x21 1 % 128) else s

/-- The link is refused (R368). -/
def State.refuseLink (s : State) (p : Nat) : State := (s.swiec 0x0F02 p 7 0).lkEnter p lkRefused

/-- What EXCHANGE tells of the neighbour goes into the registers (R372, R60, R81). -/
def State.noteNeighbour (s : State) (p : Nat) (m : List Byte) : State :=
  let pos := leAt m 0x15 1 % 32
  let stage := leAt m 0x16 1 % 64
  let s := (((s.wf (F.LINK_NBR_MODULE_ID p) (stage * 32 + pos)).wf (F.LINK_NBR_VALID p) 1).wf (F.LINK_NBR_PORT p) (leAt m 0x14 1)).wf
    (F.LINK_NBR_STATE p) (leAt m 0x17 1)
  let s := s.wpair (F.LINK_NBR_SERIAL_LO_SERIAL p) (F.LINK_NBR_SERIAL_HI_SERIAL p) (leAt m 0x28 8)
  if p < 2 then
    ((s.wf (F.CHAIN_STATUS_NBR_POS p) pos).wf (F.CHAIN_STATUS_NBR_STAGE p) stage).wf (F.CHAIN_STATUS_NBR_VALID p) 1
  else
    ((s.wf (F.PIPE_STATUS_NBR_POS (p - 2)) pos).wf (F.PIPE_STATUS_NBR_STAGE (p - 2)) stage).wf (F.PIPE_STATUS_NBR_VALID (p - 2)) 1

/-- A miswired Chain port is a fold end: the expected neighbour is folded out (R30). -/
def State.miswired (s : State) (p : Nat) : State :=
  let s := (s.raise (F.CHAIN_ERR_MISWIRE p)).event 0x010C (srcPort p) (s.rf (F.CHAIN_STATUS_NBR_POS p)) (s.faces p) 0 0
  s.lose [s.faces p] (s.rf F.CHAIN_STEP_STEP - 1)

/-- Compare an EXCHANGE (R366 to R368): ports pair, a Swiec version is common, the straps are those expected, and on a pipeline link a
header version is common. -/
def State.compare (s : State) (p : Nat) (m : List Byte) : State :=
  let s := s.noteNeighbour p m
  let port := leAt m 0x14 1
  let pos := leAt m 0x15 1 % 32
  let stage := leAt m 0x16 1 % 64
  let v := commonVersion (s.swiecLow p) (s.swiecHigh p) (leAt m 0x10 2) (leAt m 0x12 2)
  let pair := if p % 2 = 0 then p + 1 else p - 1
  let mine := s.rf F.SETUP_IDENT_STAGE
  if port ≠ pair then
    (if p < 2 then s.miswired p else (s.raise F.PIPE_ERR_MISWIRE).event 0x0209 (srcPort p) pos stage 0 0).refuseLink p
  else if v = 0 then (s.raise (F.LINK_ERR_VER_MISMATCH p)).refuseLink p
  else if p < 2 then
    if pos ≠ s.faces p then (s.miswired p).refuseLink p else s.comeUp p v m
  else if pos ≠ s.pos ∨ (if p = 2 then stage + 1 ≠ mine else stage ≠ mine + 1) then
    ((s.raise F.PIPE_ERR_MISWIRE).event 0x0209 (srcPort p) pos stage 0 0).refuseLink p
  else
    let pv := commonVersion s.beadLow s.beadHigh (leAt m 0x18 2) (leAt m 0x1A 2)
    if pv = 0 then ((s.raise F.PIPE_ERR_VER_MISMATCH).event 0x020A (srcPort p) (leAt m 0x18 2) (leAt m 0x1A 2) 0 0).refuseLink p
    else (s.comeUp p v m).wf (F.PIPE_STATUS_VER (p - 2)) pv

/-- EXCHANGE (R366): compared in EXCHANGE and REFUSED; while UP only byte 0x17 counts. -/
def execExchange (p : Nat) (m : List Byte) (s : State) : Res :=
  .next (s.messageIn p m (fun s =>
    if s.lk p = lkUp then s.wf (F.LINK_NBR_STATE p) (leAt m 0x17 1)
    else if s.lk p = lkExchange ∨ s.lk p = lkRefused then s.compare p m
    else s))

/-- STEP_GATE (R361). -/
def execStepGate (p : Nat) (m : List Byte) (s : State) : Res :=
  .next (s.messageIn p m (fun s => s.wf (F.LINK_GATE_RX_STEP p) (msgStep m)))

/-! ### Lanes (R370) -/

/-- LANE_FAIL (R370): the lane leaves LANES_RX and WIDTH_REQ goes out; too few lanes left are a down condition (R369). -/
def execLaneFail (p lane : Nat) (s : State) : Res :=
  .next (let mask := s.rf (F.LINK_LANES_RX_MASK p)
    if s.lk p ≠ lkUp ∨ !bit mask lane then s
    else
      let mask := mask - 2 ^ lane
      let s := s.setRx p mask
      let s := ((s.raise (F.LINK_ERR_LANE_DROP p)).bump (F.LINK_CNT_COUNT p 8) 1).swiec 0x0F04 p 3 lane
      if popCount mask 32 < s.rf (F.LINK_CFG_MIN_LANES p) then s.linkDown p
      else s.sendCtrl p 0x0B 0xFFFF (natLe mask 4))

/-- WIDTH_REQ (R370): the sender stops using the lanes the mask omits and answers with those it now uses. -/
def execWidthReq (p : Nat) (m : List Byte) (s : State) : Res :=
  .next (s.messageIn p m (fun s =>
    if s.lk p ≠ lkUp then s
    else
      let was := s.rf (F.LINK_LANES_TX_MASK p)
      let mask := useLanes p (s.rf (F.LINK_STATUS_VERSION p)) (was &&& leAt m 0x10 4)
      let s := s.setTx p mask
      let s := ((s.raise (F.LINK_ERR_LANE_DROP p)).bump (F.LINK_CNT_COUNT p 8) 1).swiec 0x0F04 p 4
        ((lowestBit (was - mask) 32).getD 0)
      if popCount mask 32 < s.rf (F.LINK_CFG_MIN_LANES p) then s.linkDown p
      else s.sendCtrl p 0x0C 0xFFFF (natLe mask 4)))

/-- WIDTH_ACK (R370): the lanes the neighbour now transmits on. -/
def execWidthAck (p : Nat) (m : List Byte) (s : State) : Res :=
  .next (s.messageIn p m (fun s => if s.lk p = lkUp then s.setRx p (s.rf (F.LINK_LANES_RX_MASK p) &&& leAt m 0x10 4) else s))

/-! ### Flits in (R354 to R358) -/

/-- Fields of a flit's first 8 bytes. -/
def flFtype (h : BitVec 64) : Nat := bits h.toNat 0 4
def flClass (h : BitVec 64) : Nat := bits h.toNat 4 3
def flLen (h : BitVec 64) : Nat := (fieldAt h.toNat 1 1 + 1) * 16
def flSeq (h : BitVec 64) : Nat := fieldAt h.toNat 2 2
def flAck (h : BitVec 64) : Nat := fieldAt h.toNat 4 2
def flCredit (h : BitVec 64) : Nat := fieldAt h.toNat 6 2

/-- How far a SEQ lies past another, modulo 65,536. -/
def seqPast (a b : Nat) : Nat := (a + 65536 - b) % 65536

/-- The reserved bits, the class and the credits of a flit with a good CRC (R355). -/
def flitOk (p st version : Nat) (h : BitVec 64) (tail : BitVec 32) : Bool :=
  let t := flFtype h
  let c2 := tail.toNat % 65536
  decide (t ≤ 3) && !bit h.toNat 7 && decide (tail.toNat / 65536 = 0) &&
    (t == 1 || fieldAt h.toNat 1 1 == 0) && (t == 1 || t == 2 || flSeq h == 0) &&
    (t != 1 || (carries p (flClass h) && decide (lkExchange ≤ st))) &&
    (flCredit h / 8 == 0 || carries p (flCredit h % 8)) && (c2 / 8 == 0 || (version == 0x0101 && carries p (c2 % 8)))

/-- The oldest SEQ not yet acknowledged. -/
def LinkX.base (x : LinkX) : Nat := match x.retry with | f :: _ => flSeq f.head | [] => x.txSeq

/-- ACK (R358): every flit before it leaves the retry buffer; none where it lies outside the unacknowledged window. -/
def LinkX.acked (x : LinkX) (a : Nat) : Option LinkX :=
  if seqPast a x.base ≤ x.retry.length then
    let keep := fun (f : Flit) => decide (seqPast a x.base ≤ seqPast (flSeq f.head) x.base)
    some { x with retry := x.retry.filter keep, resend := x.resend.filter keep }
  else none

/-- Take a returned credit (R360); none past 2^24 - 1. -/
def State.takeCredit (s : State) (p f : Nat) : Option State :=
  let v := s.rf (F.LINK_CRED_CREDITS p (f % 8)) + f / 8
  if v < 2 ^ 24 then some (s.wf (F.LINK_CRED_CREDITS p (f % 8)) v) else none

/-- What every good flit brings: its ACK and its credits; none is a protocol error. -/
def State.flitIn (s : State) (p : Nat) (h : BitVec 64) (tail : BitVec 32) : Option State :=
  if !flitOk p (s.lk p) (s.rf (F.LINK_STATUS_VERSION p)) h tail then none
  else
    match (s.link p).acked (flAck h) with
    | none => none
    | some x =>
      match (s.setLink p x).takeCredit p (flCredit h) with
      | none => none
      | some s => s.takeCredit p (tail.toNat % 65536)

/-- Length of the unit at the head of a class stream, once its header is there (R356). -/
def unitLen (c : Nat) (b : List Byte) : Option Nat :=
  if c = 0 ∨ c = 6 then (if 4 ≤ b.length then some (leAt b 2 2 * 16) else none)
  else if b.length < 0x14 then none
  else some ((if c = 5 then 64 else 80) + leAt b 0x10 4)

/-- Hand a whole unit on (R363). Messages of reserved TYPE are dropped and transit messages go on unchanged (R364); a message's credits go
back at once, and those of other units when their own rows take them. -/
def State.handOn (s : State) (p c : Nat) (u : List Byte) : State :=
  if c = 6 then
    let s := (s.bump (F.LINK_CNT_COUNT p 12) 1).returnCredits p c u
    s.sendMsg (1 - p) 6 u
  else
    let s := if c = 0 then s.returnCredits p c u else s
    if c = 0 && (msgType u == 0 || decide (0x0D ≤ msgType u)) then (s.bump (F.LINK_CNT_COUNT p 12) 1).dropMsg p u
    else s.setLink p { s.link p with handedOn := (s.link p).handedOn ++ [(c, u)] }

/-- Cut the whole units off a class stream and hand them on; none where a unit exceeds its credits or states no length (R360). EXCHANGE goes
before any credit is granted and needs none. -/
def State.cutUnits (p c : Nat) : Nat → State → Option State
  | 0, s => some s
  | k + 1, s =>
    let x := s.link p
    let b := ((x.partialRx.find? (fun e => e.1 == c)).map (·.2)).getD []
    match unitLen c b with
    | none => some s
    | some n =>
      let exch := c == 0 && msgType b == 1
      let need := if exch then 0 else creditsFor n
      if n = 0 ∨ clsGet x.creditOut c < need ∨ (c = 0 ∧ 262144 < n) then none
      else if b.length < n then some s
      else
        let rest := (c, b.drop n) :: x.partialRx.filter (fun e => e.1 != c)
        let s := s.setLink p { x with partialRx := rest, creditOut := clsPut x.creditOut c (clsGet x.creditOut c - need) }
        State.cutUnits p c k (s.handOn p c (b.take n))

/-- Deliver the held flits that are next in SEQ order (R357). -/
def State.deliver (p : Nat) : Nat → State → Option State
  | 0, s => some s
  | k + 1, s =>
    let x := s.link p
    match x.heldFlits.find? (fun f => flSeq f.head == x.rxSeq) with
    | none => some s
    | some f =>
      let c := flClass f.head
      let old := ((x.partialRx.find? (fun e => e.1 == c)).map (·.2)).getD []
      let s := s.setLink p { x with heldFlits := x.heldFlits.filter (fun g => g != f), rxSeq := (x.rxSeq + 1) % 65536, naks := 0
                                    partialRx := (c, old ++ f.payload) :: x.partialRx.filter (fun e => e.1 != c) }
      match State.cutUnits p c 4096 (s.bump (F.LINK_CNT_COUNT p 1) 1) with
      | none => none
      | some s => State.deliver p k s

/-- The lane that carries flit e: the active lane of index e mod W (R357). -/
def laneOf (mask e : Nat) : Nat :=
  let lanes := (List.range 32).filter (fun l => bit mask l)
  nth lanes (e % lanes.length) 0

/-- The lifetime counter of NAKs on a port's lane (R448). -/
def nakLife (p lane : Nat) : Nat := 0x2D00 + 4 * ((if p < 2 then 32 * p else 64 + 8 * (p - 2)) + lane)

/-- Send NAK for the next expected SEQ (R358): the flit goes in the next lane slot. The 16th takes the link down. -/
def State.sendNak (s : State) (p : Nat) : State :=
  let x := s.link p
  let lane := laneOf (s.rf (F.LINK_LANES_RX_MASK p)) x.rxSeq
  let s := s.setLink p { x with naks := x.naks + 1, nakDue := true }
  let s := ((s.bump (F.LINK_CNT_COUNT p 2) 1).bump (F.LINK_LANE_NAK_COUNT p lane) 1).life (nakLife p lane) 1
  let s := s.swiec 0x0F05 p 1 lane
  if 16 ≤ x.naks + 1 then (s.raise (F.LINK_ERR_RETRY_EXHAUSTED p)).linkDown p else s

/-- FLIT_DATA (R357, R358): a good DATA flit. -/
def execFlitData (p : Nat) (h : BitVec 64) (payload : List Byte) (tail : BitVec 32) (s : State) : Res :=
  .next (if s.lk p < lkTrain ∨ flFtype h ≠ 1 then s
    else match s.flitIn p h tail with
    | none => s.protocolError p
    | some s =>
      let x := s.link p
      let d := seqPast (flSeq h) x.rxSeq
      if 32768 ≤ d ∨ x.heldFlits.any (fun f => flSeq f.head == flSeq h) then s
      else
        let s := s.setLink p { x with heldFlits := x.heldFlits ++ [⟨h, payload.take (flLen h)⟩] }
        match State.deliver p 1100 s with
        | none => s.protocolError p
        | some s =>
          let x := s.link p
          let w := s.rf (F.LINK_STATUS_RX_WIDTH p)
          if x.naks = 0 ∧ x.heldFlits.any (fun f => decide (w ≤ seqPast (flSeq f.head) x.rxSeq)) then s.sendNak p else s)

/-- FLIT_IDLE (R355). -/
def execFlitIdle (p : Nat) (h : BitVec 64) (tail : BitVec 32) (s : State) : Res :=
  .next (if s.lk p < lkExchange ∨ flFtype h ≠ 0 then s else match s.flitIn p h tail with | none => s.protocolError p | some s => s)

/-- FLIT_NAK (R358): every DATA flit from the named SEQ onward is sent again, in order. -/
def execFlitNak (p : Nat) (h : BitVec 64) (tail : BitVec 32) (s : State) : Res :=
  .next (if s.lk p < lkExchange ∨ flFtype h ≠ 2 then s
    else
      match s.flitIn p h tail with
      | none => s.protocolError p
      | some s =>
        let x := s.link p
        let e := flSeq h
        if x.retry.any (fun f => flSeq f.head == e) then
          let again := x.retry.filter (fun f => decide (seqPast e x.base ≤ seqPast (flSeq f.head) x.base))
          ((s.setLink p { x with resend := again }).bump (F.LINK_CNT_COUNT p 3) 1).linkEvent p 2 (laneOf (s.rf (F.LINK_LANES_TX_MASK p)) e)
        else s.protocolError p)

/-- FLIT_LOST (R358): a flit that fails its CRC, or whose codewords were uncorrectable, is lost; where it is the next expected, a NAK goes. -/
def execFlitLost (p lane uncorr : Nat) (expected : Bool) (s : State) : Res :=
  .next (if s.lk p < lkExchange then s
    else
      let s :=
        if 0 < uncorr then
          ((s.raise (F.LINK_ERR_UNCORR p)).bump (F.LINK_CNT_COUNT p 6) uncorr).bump (F.LINK_LANE_UC_COUNT p lane) uncorr
        else (s.raise (F.LINK_ERR_CRC p)).bump (F.LINK_CNT_COUNT p 5) 1
      if expected ∧ (s.link p).naks = 0 then s.sendNak p else s)

/-- NAK_TIMEOUT (R358): 2 µs with later flits held, or 8 µs after the last NAK. -/
def execNakTimeout (p : Nat) (s : State) : Res :=
  .next (let x := s.link p
    if lkExchange ≤ s.lk p ∧ (!x.heldFlits.isEmpty ∨ 0 < x.naks) then s.sendNak p else s)

/-! ### Flits out (R354, R356, R358, R360 to R362) -/

/-- Whether the head of a class's queue may begin (R360, R361): credits for all of it, and the gate. -/
def State.mayBegin (s : State) (p c : Nat) (u : TxUnit) : Bool :=
  let exch := c == 0 && msgType u.data == 1
  let toJoiner := c == 3 && leAt u.data 3 1 == 0x04 && s.rf (F.LINK_NBR_STATE p) != memMember
  (exch || decide (creditsFor u.data.length ≤ s.rf (F.LINK_CRED_CREDITS p c))) &&
    (!u.gated || toJoiner || decide (u.step ≤ s.rf (F.LINK_GATE_RX_STEP p))) && (s.lk p == lkUp || exch)

/-- The units of a class that have begun, and their bytes not yet sent. -/
def LinkX.unitsOf (x : LinkX) (c : Nat) : List TxUnit := ((x.sending.find? (fun e => e.1 == c)).map (·.2)).getD []
def LinkX.bytesOf (x : LinkX) (c : Nat) : List Byte := (x.unitsOf c).flatMap (·.data)

/-- Begin the units of a class that may begin, until the class has a flit's bytes ready or no unit may begin. A restore Bead takes the step in which it begins
(R59, R238). -/
def State.fillClass (p c : Nat) : Nat → State → State
  | 0, s => s
  | k + 1, s =>
    let x := s.link p
    if 4096 ≤ (x.bytesOf c).length then s
    else match x.ready.find? (fun e => e.1 == c) with
      | none => s
      | some (_, u) =>
        if !s.mayBegin p c u then s
        else
          let exch := c == 0 && msgType u.data == 1
          let need := if exch then 0 else creditsFor u.data.length
          let v := if c = 3 ∧ leAt u.data 3 1 = 4 then { u with data := restamp u.data (s.rf F.CHAIN_STEP_STEP) } else u
          let s := s.setLink p { x with ready := x.ready.erase (c, u)
                                        sending := (c, x.unitsOf c ++ [v]) :: x.sending.filter (fun e => e.1 != c) }
          State.fillClass p c k (s.wf (F.LINK_CRED_CREDITS p c) (s.rf (F.LINK_CRED_CREDITS p c) - need))

/-- The first n bytes of the units that have begun leave: what is left, and the holders of stripes among the units whose last byte has left. -/
def takeUnits : Nat → List TxUnit → List TxUnit × List Owner
  | _, [] => ([], [])
  | n, u :: r =>
    if u.data.length ≤ n then
      let (l, o) := takeUnits (n - u.data.length) r
      (l, u.holds.toList ++ o)
    else ({ u with data := u.data.drop n } :: r, [])

/-- How many of a list's classes are among some. -/
def countOf (l : List Nat) (cs : List Nat) : Nat := (l.filter (fun c => cs.contains c)).length

/-- The class of the next new DATA flit (R362). TRANSIT goes before TRANSIT_CTRL: DESIGN CHOICE. -/
def State.pickClass (s : State) (p : Nat) : Option Nat :=
  let x := s.link p
  let has := fun c => !(x.bytesOf c).isEmpty
  let transit := if has 4 then some 4 else if has 6 then some 6 else none
  if has 0 && decide (countOf x.lastSent [0] < 16) then some 0
  else if transit.isSome && decide (countOf x.lastPlain [4, 6] < s.rf (F.CHAIN_TRANSIT_SHARE p)) && decide (p < 2) then transit
  else
    let ring := if p < 2 then [1, 2, 3] else [5]
    let order := ring.filter (fun c => decide (x.turn < c)) ++ ring.filter (fun c => decide (c ≤ x.turn))
    match order.find? has with
    | some c => some c
    | none => if has 0 then some 0 else transit

/-- The credits that the next flit returns: the lowest class with some due, at most 8,191. -/
def LinkX.dueField (x : LinkX) : Nat × LinkX :=
  match x.creditDue.find? (fun e => decide (0 < e.2)) with
  | none => (0, x)
  | some (c, n) =>
    let k := min n 8191
    (c + 8 * k, { x with creditDue := clsPut x.creditDue c (n - k), creditOut := clsPut x.creditOut c (clsGet x.creditOut c + k) })

/-- Compose a flit: its first four bytes, ACK, credits, payload, CREDIT2 under 1.1, CRC (R354). -/
def State.putFlit (s : State) (p lane : Nat) (first : Nat) (payload : List Byte) : State :=
  let x := s.link p
  let (c1, x) := x.dueField
  let (c2, x) := if s.rf (F.LINK_STATUS_VERSION p) = 0x0101 then x.dueField else (0, x)
  let body := natLe first 4 ++ natLe x.rxSeq 2 ++ natLe c1 2 ++ payload ++ List.replicate (4096 - payload.length) 0#8 ++ natLe c2 2 ++ natLe 0 2
  s.setLink p { x with out := some (lane, body ++ natLe (crc32c body) 4) }

/-- FLIT_SLOT_SEND (R357, R362): the slot of a lane that transmits. A NAK that is due goes first; resends next; then a new DATA flit while fewer than 1,024
are unacknowledged; else IDLE. DATA flit s goes on the lane of index s mod W, and another lane's slot takes IDLE. -/
def execFlitSlotSend (p lane : Nat) (s : State) : Res :=
  .next (if s.lk p < lkExchange ∨ !bit (s.rf (F.LINK_LANES_TX_MASK p)) lane then s
    else
      let s := ((List.range 7).filter (carries p)).foldl (fun (s : State) c => State.fillClass p c 512 s) s
      let x := s.link p
      let mine := fun q => laneOf (s.rf (F.LINK_LANES_TX_MASK p)) q == lane
      if x.nakDue then
        (s.setLink p { x with nakDue := false }).putFlit p lane (0x02 + 2 ^ 16 * x.rxSeq) []
      else match x.resend with
        | f :: fs =>
          if mine (flSeq f.head) then
            ((s.setLink p { x with resend := fs }).bump (F.LINK_CNT_COUNT p 4) 1).putFlit p lane (f.head.toNat % 2 ^ 32) f.payload
          else s.putFlit p lane 0 []
        | [] =>
          if 1024 ≤ x.retry.length ∨ !mine x.txSeq then s.putFlit p lane 0 []
          else match s.pickClass p with
            | none => s.putFlit p lane 0 []
            | some c =>
              let b := x.bytesOf c
              let data := b.take 4096
              let (left, gone) := takeUnits 4096 (x.unitsOf c)
              let first := 1 + 16 * c + 2 ^ 8 * (data.length / 16 - 1) + 2 ^ 16 * x.txSeq
              let s := s.setLink p { x with txSeq := (x.txSeq + 1) % 65536
                                            retry := x.retry ++ [⟨BitVec.ofNat 64 first, data⟩]
                                            sending := (c, left) :: x.sending.filter (fun e => e.1 != c)
                                            lastSent := (c :: x.lastSent).take 64
                                            lastPlain := if c = 0 then x.lastPlain else (c :: x.lastPlain).take 64
                                            turn := if c = 0 ∨ c = 4 ∨ c = 6 then x.turn else c }
              let s := (gone.foldl State.freeHeld s).bump (F.LINK_CNT_COUNT p 0) 1
              (if gone.isEmpty then s else s.showRestoring).putFlit p lane first data)

end Sys2Proof.Machine
end

