-- ==== Sys2Proof/Machine/Pipe.lean ====
section
/-! DEFINITION. The pipeline: micro-batch slots, transfers between stages, stash and park (R63 to R80). -/

namespace Sys2Proof.Machine

/-! ### Slots (R68, R69) -/

/-- Slot states (R69). -/
def slFree : Nat := 0
def slOpen : Nat := 1
def slFilling : Nat := 2
def slReady : Nat := 3
def slFwd : Nat := 4
def slStashed : Nat := 5
def slBwdReady : Nat := 6
def slBwd : Nat := 7
def slDone : Nat := 8
def slParked : Nat := 9

/-- The state of a slot, and the state it returns to from PARKED. -/
def State.slotState (s : State) (k : Nat) : Nat := s.rf (slotFld k 0 0 4)
def State.slotSaved (s : State) (k : Nat) : Nat := s.rf (slotFld k 0 4 4)

/-- What a slot holds beside its descriptor. -/
def slotDflt : Nat → SlotX := fun _ => ⟨0, 0, false, 0, 0, 0, [], [], none⟩
def State.slotX (s : State) (k : Nat) : SlotX := SMap.get slotDflt s.pipe.slots k
def State.setSlotX (s : State) (k : Nat) (x : SlotX) : State := { s with pipe := { s.pipe with slots := SMap.set slotDflt s.pipe.slots k x } }

/-- Slots that are not FREE. -/
def State.slotsOpen (s : State) : List Nat := (List.range 1024).filter (fun k => s.slotState k != slFree)

/-- PIPE.SLOT_USE shows the slots not FREE and the step's highest number (R81). -/
def State.showSlots (s : State) : State :=
  let n := s.slotsOpen.length
  (s.wf F.PIPE_SLOT_USE_OPEN n).wf F.PIPE_SLOT_USE_PEAK (max n (s.rf F.PIPE_SLOT_USE_PEAK))

/-- Round r of the step's list (R43, R282). -/
def State.roundEntry (s : State) (r : Nat) : Option (List Byte) :=
  match s.front.rounds with
  | none => none
  | some (g, v) => match s.versionOf g v with
    | some x => if r < imgRounds x.image then some (imgRound x.image r) else none
    | none => none

/-- Whether a round that has started names slot k in a direction (R70). -/
def State.roundNames (s : State) (k : Nat) (back : Bool) : Bool :=
  (List.range s.chain.round).any (fun r => match s.roundEntry r with
    | some e => roundDir e == b2n back && s.rf (slotFld k 1 0 3) == roundVstage e &&
        decide (leAt e 2 2 ≤ s.rf (slotFld k 8 0 16)) && decide (s.rf (slotFld k 8 0 16) < leAt e 2 2 + leAt e 1 1)
    | none => false)

/-- Put a slot in a state. One that becomes READY or BWD_READY after a round that names it has started goes on to FWD or BWD (R69, R70). -/
def State.setSlot (s : State) (k st : Nat) : State :=
  let go := if st = slReady ∧ s.roundNames k false then slFwd else if st = slBwdReady ∧ s.roundNames k true then slBwd else st
  (s.wf (slotFld k 0 0 4) go).showSlots

/-- A round begins to use a slot that is in the state the round requires. -/
def State.roundTakes (s : State) (k : Nat) : State :=
  let st := s.slotState k
  if st = slReady ∨ st = slBwdReady then s.setSlot k st else s

/-- The owner of a slot's forward buffer, and of the one its gradient lands in. -/
def slotOwner (k : Nat) (back : Bool) : Owner := ⟨.slotBuf, if back then 1024 + k else k⟩

/-- Free the buffers a slot holds (R69). -/
def State.freeSlotBuf (s : State) (k : Nat) : State := (s.freeOwner (slotOwner k false)).freeOwner (slotOwner k true)

/-- The containers of a slot's stash and park ranges are let go (R274). -/
def State.freeStash (s : State) (k : Nat) : State :=
  let x := s.slotX k
  let s := x.stashGens.foldl (fun (s : State) g => s.holdGen g.2 false) s
  s.setSlotX k { x with stashGens := [] }
def State.freePark (s : State) (k : Nat) : State :=
  let x := s.slotX k
  let s := x.parkGens.foldl (fun (s : State) g => s.holdGen g.2 false) s
  s.setSlotX k { x with parkGens := [] }

/-- The module address of a slot's live buffer and of its park range. -/
def State.bufAddr (s : State) (k : Nat) : Nat := stripeAddr (s.rf (slotFld k 0x10 0 32))
def State.parkAddr (s : State) (k : Nat) : Nat := s.rf F.PIPE_PARK_BASE_GIB * 2 ^ 30 + s.rf (slotFld k 0x1C 0 32) * 4096

/-- Bytes of the grant a slot's buffer lies in. -/
def State.bufBytes (s : State) (k : Nat) : Nat :=
  match s.casket.grants.find? (fun g => (g.owner == slotOwner k false || g.owner == slotOwner k true) && g.start == s.rf (slotFld k 0x10 0 32)) with
  | some g => g.count * 512
  | none => 0

/-- Signal a slot's arrival Clasp, attached to the last packet (R66). -/
def State.signalSlot (s : State) (k : Nat) : State := s.emit ⟨s.rf (slotFld k 0x18 0 12), 1, false, 0x1FF⟩

/-- An event that R69 does not list for the slot's state faults the issuing task and is recorded. -/
def State.slotFault (s : State) (m k : Nat) : State := (s.event 0x020E srcHub k (s.slotState k) 0 0).fault m 1

/-! ### Where a stage's output goes (R72) -/

/-- The chunk after or before that of virtual stage v, as the port it lies behind (4: this module) and its virtual stage; none at an end of the
model. -/
def State.nextHop (s : State) (forward : Bool) (v : Nat) : Option (Nat × Nat) :=
  let n := s.rf F.PIPE_SCHED_N_M1 + 1
  let st := s.rf F.SETUP_IDENT_STAGE
  let c := chunkOf n st v
  if (forward && decide (n * (s.rf F.PIPE_SCHED_V_M1 + 1) ≤ c + 1)) || (!forward && c == 0) then none
  else
    let c2 := if forward then c + 1 else c - 1
    let v2 := c2 / n
    let st2 := if v2 % 2 = 0 then c2 % n else n - 1 - c2 % n
    some (if st2 = st then 4 else if st < st2 then 3 else 2, v2)

/-- The port that a virtual stage's forward input arrives by: none for the first chunk and for a hand-off. -/
def State.inPort (s : State) (v : Nat) : Option Nat :=
  match s.nextHop false v with
  | some (4, _) => none
  | some (p, _) => some p
  | none => none

/-! ### Chunks (R63 to R66) -/

/-- The formats a KIND may carry (R64). -/
def chunkFormats (kind : Nat) : List Nat :=
  if kind = 0x10 ∨ kind = 0x12 then [1, 2, 3, 5] else if kind = 0x11 then [1, 2, 4] else []

/-- Whether a chunk is well formed (R63, R64): row 1 of R65. -/
def chunkOk (version : Nat) (u : List Byte) : Bool :=
  let at0 := fun o k => leAt u o k
  let kind := at0 2 1
  let len := at0 0x10 4
  let coded := bit (at0 0xB 1) 0
  let last := at0 0xC 2 + 1 == at0 0xE 2
  at0 0x38 4 == crc32c (u.take 0x38) && at0 0 2 == version && (chunkFormats kind).contains (at0 3 1) &&
    decide (at0 0xA 1 < 8) && decide (at0 0xB 1 < 4) && (!coded || version == 0x0101) && decide (at0 0xC 2 < at0 0xE 2) &&
    (bit (at0 0xB 1) 1 == last) && len % 512 == 0 && decide (512 ≤ len) && decide (len ≤ 1048576) && u.length == 64 + len &&
    (last || coded || len == 1048576) && decide (at0 0x16 1 < 32) && decide (1 ≤ at0 0x17 1) && decide (at0 0x17 1 ≤ 32) &&
    decide (at0 0x20 4 < 2 ^ 18) && ((kind == 0x11 && at0 3 1 == 2) || at0 0x24 1 == 0) && at0 0x25 3 == 0 && at0 0x2C 12 == 0 && at0 0x3C 4 == 0

/-- Count on a pipeline port (R81). -/
def State.pipeCnt (s : State) (p k : Nat) : State := s.bump (if p = 2 then F.PIPE_CNT_UP_COUNT k else F.PIPE_CNT_DN_COUNT k) 1

/-- The trace record of a chunk (R331). Whether a link retry preceded it is not kept: a free value. -/
def State.traceChunk (s : State) (p : Nat) (u : List Byte) (dropped : Bool) : State :=
  let (r, s) := s.freeBelow 2
  s.trace 0x05 p (r + 2 * b2n dropped + 2 ^ 8 * leAt u 2 1)
    (leAt u 8 2 + 2 ^ 16 * leAt u 0xA 1 + 2 ^ 24 * leAt u 2 1 + 2 ^ 32 * leAt u 0xC 2) u.length (leAt u 0x28 4)

/-- Drop a chunk: its credits go back, it is counted and flagged. -/
def State.dropQuiet (s : State) (p : Nat) (u : List Byte) (cnt : Nat) (err : Fld) : State :=
  let s := s.traceChunk p u true
  ((s.takeUnit p 5 u).returnCredits p 5 u).pipeCnt p cnt |>.raise err

/-- Drop a chunk and record it. -/
def State.dropChunk (s : State) (p : Nat) (u : List Byte) (cnt : Nat) (err : Fld) (code : Nat) : State :=
  (s.dropQuiet p u cnt err).event code (srcPort p) p (leAt u 8 2) (leAt u 0xC 2) 0

/-- The slot open for a chunk (R65): its STEP, MB, VSTAGE and KIND. A forward kind belongs to a slot of like EVAL fed by a port, a gradient to
a slot that has stashed. -/
def State.slotFor (s : State) (step mb v kind : Nat) : Option Nat :=
  s.slotsOpen.find? (fun k =>
    let st := if s.slotState k = slParked then s.slotSaved k else s.slotState k
    s.rf (slotFld k 4 0 32) == step && s.rf (slotFld k 8 0 16) == mb && s.rf (slotFld k 1 0 3) == v &&
      (if kind = 0x11 then s.rf (slotFld k 2 0 1) == 0 && decide (slStashed ≤ st)
       else s.rf (slotFld k 2 0 1) == b2n (kind == 0x12) && (s.slotX k).kind != 0xFF))

/-- The next chunk a slot expects of a KIND: past every chunk once another kind fills it. -/
def State.slotNext (s : State) (k kind : Nat) : Nat :=
  let x := s.slotX k
  if x.kind = kind then x.next else if kind = 0x11 ∨ s.slotState k = slOpen then 0 else 65536

/-- The tasks that wait on a Clasp fault with a cause. -/
def State.faultWaiters (s : State) (clasp cause : Nat) : State :=
  (s.front.tasks.filter (fun t => t.phase == .waiting && (match t.wait with | .clasp n _ _ _ => n == clasp | _ => false))).foldl
    (fun (s : State) t => s.fault t.core cause) s

/-- A cause of R153 from a free value: the rule lists none for what the task has met. -/
def freeCause (x : Nat) : Nat := x % 14 + 1

/-- Ask for a transfer again, once (R66); a second copy that fails is fatal: the task that waits on the slot aborts with a transfer-integrity fault, and the step
aborts with cause 4. R153 lists no code for that fault: DESIGN CHOICE, a free value among its codes. -/
def State.chunkFails (s : State) (p k kind idx : Nat) (u : List Byte) : State :=
  let x := s.slotX k
  let second := x.kind == kind && x.asked && (decide (0 < x.next) || idx == 0)
  if second then
    let s := (s.raise F.PIPE_ERR_DATA_CRC_FATAL).event 0x0207 (srcPort p) p (leAt u 8 2) k 0
    (s.faultWaiters (s.rf (slotFld k 0x18 0 12)) (freeCause Config.transferIntegrityCause)).raiseAbort 4
  else if x.kind = kind ∧ x.asked then s
  else
    let s := s.setSlotX k { x with kind := kind, next := 0, landed := 0, asked := true }
    s.sendCtrl p 6 0xFFFF (natLe (leAt u 8 2) 2 ++ natLe (leAt u 0xA 1) 1 ++ natLe kind 1)

/-- Whether a slot has the buffer its gradient lands in. -/
def State.hasGradBuffer (s : State) (k : Nat) : Bool := s.casket.grants.any (fun g => g.owner == slotOwner k true)

/-- The slot's buffer as a gradient begins to land: one of the arrival port's stream takes the place of the old one, unless it has one from a copy that failed; in
PARKED the chunk goes to the park range. -/
def State.gradBuffer (s : State) (p k : Nat) : AllocOut × State :=
  if s.slotState k = slParked then (.granted 0, s.freePark k)
  else if s.hasGradBuffer k then (.granted 0, s)
  else
    let st := 2 + p
    match s.request st (s.rf (F.CASKET_SLOT_STRIPES st)) (slotOwner k true) with
    | (.granted a, s) => (.granted a, (s.freeOwner (slotOwner k false)).wf (slotFld k 0x10 0 32) a)
    | r => r

/-- Land a good chunk (row 9): the first and the last advance the slot (R69). -/
def State.landChunk (s : State) (p k kind idx : Nat) (u raw : List Byte) : State :=
  let s := s.traceChunk p u false
  let x := s.slotX k
  let parked := s.slotState k == slParked
  let base := if parked then s.parkAddr k else s.bufAddr k
  let s := s.store (base + idx * 1048576) raw
  let s := s.setSlotX k { x with kind := kind, next := idx + 1, landed := x.landed + raw.length, gscale := leAt u 0x24 1, fmt := leAt u 3 1 }
  let s := (((s.takeUnit p 5 u).returnCredits p 5 u).pipeCnt p 0)
  let last := bit (leAt u 0xB 1) 1
  let s := if kind ≠ 0x11 ∧ s.slotState k = slOpen then s.setSlot k slFilling else s
  if last then
    let s := if kind ≠ 0x11 then s.setSlot k slReady
      else if parked then s.wf (slotFld k 0 4 4) slBwdReady else s.setSlot k slBwdReady
    (s.signalSlot k).sendCtrl p 5 0xFFFF (natLe (leAt u 8 2) 2 ++ natLe (leAt u 0xA 1) 1 ++ natLe kind 1)
  else s

/-- Bytes that a slot's buffer, or its park range, holds. -/
def State.slotRoom (s : State) (k : Nat) : Nat :=
  if s.slotState k = slParked then s.rf F.PIPE_PARK_SIZE_GIB * 2 ^ 30 - s.rf (slotFld k 0x1C 0 32) * 4096 else s.bufBytes k

/-- Rows 6 to 9 of R65 for a slot that is open. A coded chunk is decoded through stripes of the CODEC stream (R271). No row speaks of a good chunk that would pass the end
of its slot's buffer or park range: it is dropped as MALFORMED with event 0x0200, DESIGN CHOICE; and one whose buffer the allocator refuses is dropped so without
that event (R190). -/
def State.chunkRows (s : State) (p k : Nat) (u : List Byte) : State :=
  let kind := leAt u 2 1
  let idx := leAt u 0xC 2
  let next := s.slotNext k kind
  if idx < next then s.dropChunk p u 2 F.PIPE_ERR_DUP 0x0204
  else if next < idx then (s.dropChunk p u 3 F.PIPE_ERR_GAP 0x0205).chunkFails p k kind idx u
  else if leAt u 0x28 4 ≠ crc32c (u.drop 64) then (s.dropChunk p u 4 F.PIPE_ERR_DATA_CRC 0x0206).chunkFails p k kind idx u
  else s.codecStaged (bit (leAt u 0xB 1) 0) ⟨.codec, 16 + p⟩ (u.drop 64) fun s =>
    let (raw, s) := if bit (leAt u 0xB 1) 0 then s.decode kind (u.drop 64) else (some (u.drop 64), s)
    match raw with
    | none => (s.dropChunk p u 4 F.PIPE_ERR_DATA_CRC 0x0206).chunkFails p k kind idx u
    | some raw =>
      match (if kind = 0x11 ∧ idx = 0 then s.gradBuffer p k else (.granted 0, s)) with
      | (.waits, s) => s
      | (.refused, s) => s.dropQuiet p u 7 F.PIPE_ERR_MALFORMED
      | (.granted _, s) =>
        if s.slotRoom k < idx * 1048576 + raw.length then s.dropChunk p u 7 F.PIPE_ERR_MALFORMED 0x0200
        else s.landChunk p k kind idx u raw

/-- Whether a chunk is the first of those that wait at its port (row 5 of R65): what stands before it holds it back. -/
def State.firstChunk (s : State) (p : Nat) (u : List Byte) : Bool :=
  match (s.link p).handedOn.find? (fun e => e.1 == 5) with | some e => e.2 == u | none => true

/-- PIPE_CHUNK_RX (R65). -/
def execPipeChunkRx (p : Nat) (u : List Byte) (s : State) : Res :=
  .next (if p ≠ 2 ∧ p ≠ 3 ∨ !s.firstChunk p u then s
    else
      let now := s.rf F.CHAIN_STEP_STEP
      let step := leAt u 4 4
      if !chunkOk (s.rf (F.PIPE_STATUS_VER (p - 2))) u then s.dropChunk p u 7 F.PIPE_ERR_MALFORMED 0x0200
      else if leAt u 0x1E 2 ≠ s.rf F.SETUP_IDENT_MODULE_ID then s.dropChunk p u 7 F.PIPE_ERR_WRONG_DST 0x0201
      else if step < now then s.dropChunk p u 5 F.PIPE_ERR_STALE 0x0202
      else if now < step then s.dropChunk p u 6 F.PIPE_ERR_FUTURE 0x0203
      else
        match s.slotFor step (leAt u 8 2) (leAt u 0xA 1) (leAt u 2 1) with
        | none => s
        | some k => s.chunkRows p k u)

/-! ### Sending (R63, R66, R264) -/

/-- The header of a chunk. -/
def State.chunkHead (s : State) (p k kind v2 : Nat) (r : RoundOut) (coded : Bool) (i n : Nat) (payload : List Byte) : List Byte :=
  let me := s.rf F.SETUP_IDENT_MODULE_ID
  let f := fun o w => s.rf (slotFld k o 0 w)
  let body := natLe (s.rf (F.PIPE_STATUS_VER (p - 2))) 2 ++ natLe kind 1 ++ natLe r.format 1 ++ natLe (s.rf F.CHAIN_STEP_STEP) 4 ++
    natLe (f 8 16) 2 ++ natLe v2 1 ++ natLe (b2n coded + 2 * b2n (i + 1 == n)) 1 ++ natLe i 2 ++ natLe n 2 ++ natLe payload.length 4 ++
    natLe (f 0xA 16) 2 ++ natLe (if s.rf (slotFld k 2 1 1) = 1 then f 0x1A 8 else 0) 1 ++
    natLe (if s.rf (slotFld k 2 1 1) = 1 then f 0x1B 8 else 1) 1 ++ natLe r.width 4 ++
    natLe me 2 ++ natLe (if p = 2 then me - 32 else me + 32) 2 ++ natLe (f 0xC 18) 4 ++
    natLe (if kind = 0x11 ∧ r.format = 2 then r.gscale else 0) 1 ++ natLe 0 3 ++ natLe (crc32c payload) 4 ++ natLe 0 12
  body ++ natLe (crc32c body) 4 ++ natLe 0 4

/-- Whether a KIND is coded on a port (R264). -/
def State.codesChunk (s : State) (p kind : Nat) : Bool :=
  s.rf (F.PIPE_STATUS_VER (p - 2)) == 0x0101 && (if kind = 0x11 then s.flag F.CODEC_CFG_ACT_GRAD else s.flag F.CODEC_CFG_ACT)

/-- Cut a transfer into chunks, coding each where the link codes it. -/
def State.cutChunks (p k kind v2 : Nat) (r : RoundOut) (n : Nat) : Nat → List (List Byte) → State → List (List Byte) × State
  | _, [], s => ([], s)
  | i, b :: bs, s =>
    let raw := pad512 b
    let (c, s) := if s.codesChunk p kind then s.encode raw else (none, s)
    let payload := c.getD raw
    let u := s.chunkHead p k kind v2 r c.isSome i n payload ++ payload
    let (rest, s) := State.cutChunks p k kind v2 r n (i + 1) bs s
    (u :: rest, s)

/-- The containers among a transfer's chunks, as they lie in its output buffer (R274). -/
def State.keepChunks (s : State) (o : Owner) (l : List (List Byte)) : State :=
  l.foldl (fun (s : State) u => if bit (leAt u 0xB 1) 0 then s.keepCoded o (u.drop 64) else s) s

/-- Send a kept transfer's chunks, each behind the step gate, and count them (R66, R361). -/
def State.sendChunks (s : State) (o : OutX) : State :=
  o.chunks.foldl (fun (s : State) u => (s.send o.port 5 u (s.rf F.CHAIN_STEP_STEP) true).pipeCnt o.port 1) s

/-- The owner of an output buffer: its slot and whether it holds a gradient. -/
def outOwner (k : Nat) (back : Bool) : Owner := ⟨.outBuf, if back then 1024 + k else k⟩

/-- Change the holder of a grant. -/
def State.reown (s : State) (a b : Owner) : State :=
  { s with casket := { s.casket with grants := s.casket.grants.map (fun g => if g.owner == a then { g with owner := b } else g)
                                     coded := s.casket.coded.map (fun e => if e.1 == a then (b, e.2) else e) } }

/-- A gradient is handed over to another virtual stage's slot on this module (R72): the output buffer becomes its gradient buffer. -/
def State.handBack (s : State) (k v2 stripe : Nat) : State :=
  match s.slotFor (s.rf F.CHAIN_STEP_STEP) (s.rf (slotFld k 8 0 16)) v2 0x11 with
  | none => s
  | some j =>
    let s := (s.freeOwner (slotOwner j false)).reown (outOwner k true) (slotOwner j true)
    let s := (s.setSlotX j { s.slotX j with kind := 0x11, next := 65536 }).wf (slotFld j 0x10 0 32) stripe
    (s.setSlot j slBwdReady).signalSlot j

/-- A forward output is handed over to the next virtual stage's slot on this module (R72): the output buffer becomes its input buffer, without a copy, where the
slot has been opened for a hand-off; else it is kept until SLOT_OPEN opens it. -/
def State.handOnward (s : State) (k v2 stripe : Nat) : State :=
  match s.slotsOpen.find? (fun j => s.slotState j == slOpen && (s.slotX j).kind == 0xFF && s.rf (slotFld j 8 0 16) == s.rf (slotFld k 8 0 16) &&
      s.rf (slotFld j 1 0 3) == v2) with
  | some j => ((s.reown (outOwner k false) (slotOwner j false)).wf (slotFld j 0x10 0 32) stripe).setSlot j slReady
  | none => { s with pipe := { s.pipe with outbox := s.pipe.outbox ++ [⟨4, s.rf (slotFld k 8 0 16), v2, k, [], stripe⟩] } }

/-- Put a slot's output into an output buffer and send it, or hand it on (R66, R69, R72); none where the buffer, or the stripes that coding takes (R271), must wait. -/
def State.sendOutput (s : State) (k : Nat) (forward : Bool) (r : RoundOut) : Option State × State :=
  match s.nextHop forward (s.rf (slotFld k 1 0 3)) with
  | none => (some s, s)
  | some (p, v2) =>
    let kind := if !forward then 0x11 else if s.rf (slotFld k 2 0 1) = 1 then 0x12 else 0x10
    let codes := p != 4 && s.codesChunk p kind
    match s.request 6 (ceilDiv r.data.length 512) (outOwner k !forward) with
    | (.granted a, s) =>
      let s := s.store (stripeAddr a) r.data
      if p = 4 then (some (if forward then s.handOnward k v2 a else s.handBack k v2 a), s)
      else match (if codes then s.request 14 (s.rf (F.CASKET_SLOT_STRIPES 14)) ⟨.codec, 32 + k⟩ else (.granted 0, s)) with
      | (.waits, s) => (none, s)
      | (_, s) =>
        let s := s.freeOwner ⟨.codec, 32 + k⟩
        let ps := Sys2Proof.Machine.pieces 1048576 (r.data.length + 1) r.data
        let (us, s) := State.cutChunks p k kind v2 r ps.length 0 ps s
        let o : OutX := ⟨p, s.rf (slotFld k 8 0 16), v2, kind, us, a⟩
        let s : State := { s with pipe := { s.pipe with outbox := s.pipe.outbox ++ [o] } }
        (some ((s.keepChunks (outOwner k !forward) us).sendChunks o), s)
    | (_, s) => (none, s)

/-- Write pieces of 1 MiB into an LPDDR5X range, coding each where coding is on (R74, R266), a last one at its own length: the pieces coded, with their
generations. -/
def State.writeRange (base : Nat) (coded : Bool) : Nat → List (List Byte) → State → List (Nat × Nat) × State
  | _, [], s => ([], s)
  | i, b :: bs, s =>
    let (c, s) := if coded then s.encode b else (none, s)
    match c with
    | some c =>
      let g := leAt c 2 2
      let s := (s.store (base + i * 1048576) c).holdGen g true
      let (rest, s) := State.writeRange base coded (i + 1) bs s
      ((i, g) :: rest, s)
    | none => State.writeRange base coded (i + 1) bs (s.store (base + i * 1048576) b)

/-- Write the layer inputs to a slot's stash range in STASH_FMT, by round to nearest even (R74). SAT = 1 is DESIGN CHOICE; so is what happens where the inputs pass
the end of the stash region, which SLOT_OPEN, not knowing their size, could not refuse: ERR.RANGE and its event, and nothing is written past the end. -/
def State.writeStash (s : State) (k : Nat) (inputs : List Word) : State :=
  let f := s.rf (slotFld k 3 0 8)
  let (data, _) := convertTensor f true (fun _ => .nearest) (inputs.map f32)
  let room := s.rf F.PIPE_STASH_SIZE_GIB * 2 ^ 30 - s.rf (slotFld k 0x14 0 32) * 4096
  let s := if room < data.length then (s.raise F.PIPE_ERR_RANGE).event 0x020D srcHub k (s.rf (slotFld k 8 0 16)) 0 0 else s
  let data := data.take room
  let (gs, s) := State.writeRange (s.stashAddr k) (s.rf (slotFld k 2 2 1) == 1) 0 (Sys2Proof.Machine.pieces 1048576 (data.length + 1) data) s
  s.setSlotX k { s.slotX k with stashGens := gs }

/-- A round ends for one slot (R69). A slot of the model's last chunk receives no KIND 0x11 transfer, and the table gives no other event that would make it BWD_READY:
it stays STASHED, DESIGN CHOICE. -/
def State.endSlot (s : State) (r : RoundOut) : State :=
  let k := r.slot
  let st := s.slotState k
  if st ≠ slFwd ∧ st ≠ slBwd then s
  else
    match s.sendOutput k (st == slFwd) r with
    | (none, s) => s
    | (some s, _) =>
      if st = slBwd then ((s.freeSlotBuf k).freeStash k).setSlot k slDone
      else if s.rf (slotFld k 2 0 1) = 1 then (s.freeSlotBuf k).setSlot k slDone
      else
        let s := s.writeStash k r.inputs
        (s.setSlotX k { s.slotX k with kind := 0, next := 0, asked := false, landed := 0 }).setSlot k slStashed

/-- The slots a round names (R70, R282): those of its virtual stage whose MB lies in its range. -/
def State.roundSlots (s : State) (e : List Byte) : List Nat :=
  s.slotsOpen.filter (fun k => s.rf (slotFld k 1 0 3) == roundVstage e &&
    decide (leAt e 2 2 ≤ s.rf (slotFld k 8 0 16)) && decide (s.rf (slotFld k 8 0 16) < leAt e 2 2 + leAt e 1 1))

/-- ROUND_END (R69): each slot of the round's set whose results are given sends its output and moves on; one whose output buffer must wait stays, and
the command is given again for it. -/
def execRoundEnd (r : Nat) (results : List RoundOut) (s : State) : Res :=
  .next (match s.roundEntry r with
    | none => s
    | some e =>
      if s.chain.round ≤ r then s
      else (results.filter (fun o => (s.roundSlots e).contains o.slot)).foldl State.endSlot s)

/-- XFER_ACK (R66): the output buffer is freed. -/
def execXferAck (p : Nat) (m : List Byte) (s : State) : Res :=
  .next (s.messageIn p m (fun s =>
    match s.pipe.outbox.find? (fun o => o.port == p && o.mb == leAt m 0x10 2 && o.vstage == leAt m 0x12 1 && o.kind == leAt m 0x13 1) with
    | none => s
    | some o =>
      let s : State := { s with pipe := { s.pipe with outbox := s.pipe.outbox.erase o } }
      s.freeWhere (fun g => g.owner.kind == .outBuf && g.start == o.stripe)))

/-- RETRANSFER_REQ (R66): the whole transfer goes again from its kept buffer. -/
def execRetransferReq (p : Nat) (m : List Byte) (s : State) : Res :=
  .next (s.messageIn p m (fun s =>
    match s.pipe.outbox.find? (fun o => o.port == p && o.mb == leAt m 0x10 2 && o.vstage == leAt m 0x12 1 && o.kind == leAt m 0x13 1) with
    | none => s
    | some o => s.sendChunks o))

/-! ### CONTROL operations on slots (R67, R69, R291) -/

/-- The reserved fields of SLOT_OPEN (R291, R68). -/
def slotOpenDecode (d : BitVec 256) : Bool :=
  controlHeader d 6 && decide (descField d 2 2 < 1024) && decide (descField d 4 1 < 8) && decide (descField d 5 1 < 16) && descField d 9 1 == 0 &&
    decide (descField d 0xE 2 < 4096) && decide (descField d 0x10 4 < 2 ^ 18) && descZero d 0x18 32 &&
    [1, 3, 5].contains (descField d 6 1) && decide (descField d 7 1 < 32) && decide (descField d 8 1 < 64)

/-- Write a slot's descriptor (R68). -/
def State.writeSlot (s : State) (k : Nat) (d : BitVec 256) : State :=
  let w := fun (s : State) o n v => s.wf (slotFld k o 0 (8 * n)) v
  let s := w (w (w (w s 0 1 0) 1 1 (descField d 4 1)) 2 1 (descField d 5 1 % 8)) 3 1 (descField d 6 1)
  let s := w (w (w s 4 4 (s.rf F.CHAIN_STEP_STEP)) 8 2 (descField d 0xA 2)) 0xA 2 (descField d 0xC 2)
  let s := w (w (w s 0xC 4 (descField d 0x10 4)) 0x14 4 (descField d 0x14 4)) 0x18 2 (descField d 0xE 2)
  w (w (w s 0x1A 1 (descField d 7 1)) 0x1B 1 (descField d 8 1)) 0x1C 4 0xFFFFFFFF

/-- SLOT_OPEN's refusals that only the event code tells apart (R67, R80); with them a module strapped to a stage past the last, which runs no micro-batches (R61): that
it refuses at SLOT_OPEN is DESIGN CHOICE. -/
def State.openBad (s : State) (d : BitVec 256) : Bool :=
  decide (s.rf F.PIPE_SCHED_N_M1 < s.rf F.SETUP_IDENT_STAGE) || decide (s.rf F.CHAIN_ARC_LEN < descField d 8 1) || s.flag (F.PIPE_STATUS_COLUMN_OUT 0) ||
    (match s.pipe.evalStep with | some e => e != bit (descField d 5 1) 0 | none => false)

/-- SLOT_OPEN (R67, R69, R72, R254): a slot that the graph itself fills is READY at once, and so is one for a hand-off whose output is there; else it stays OPEN until
the hand-off gives it its buffer. -/
def execSlotOpen (m : Nat) (d : BitVec 256) (s : State) : Res :=
  let k := descField d 2 2
  let v := descField d 4 1
  let eval := bit (descField d 5 1) 0
  .next (s.issue m d fun s => if !slotOpenDecode d then s.fault m 1
    else if s.slotState k ≠ slFree then ((s.raise F.PIPE_ERR_SLOT_BUSY).event 0x020B srcHub k (descField d 0xA 2) 0 0).fault m 1
    else if s.rf F.PIPE_STASH_SIZE_GIB * 2 ^ 30 ≤ descField d 0x14 4 * 4096 then
      ((s.raise F.PIPE_ERR_RANGE).event 0x020D srcHub k (descField d 0xA 2) 0 0).fault m 1
    else if s.openBad d then s.slotFault m k
    else match s.ctxRefused (descField d 0x10 4) eval with
    | some e => s.ctxRefuse m k (descField d 0x10 4) e
    | none =>
      let hand := bit (descField d 5 1) 3
      let local0 := hand || (s.inPort v).isNone
      let st := if local0 then 6 else 2 + (s.inPort v).getD 2
      let kept := s.pipe.outbox.find? (fun o => hand && o.port == 4 && o.mb == descField d 0xA 2 && o.vstage == v)
      let (got, s) := match kept with
        | some o => (AllocOut.granted o.stripe, ({ s with pipe := { s.pipe with outbox := s.pipe.outbox.erase o } } : State).reown
            (outOwner o.kind false) (slotOwner k false))
        | none => if hand then (AllocOut.granted 0, s) else s.request st (s.rf (F.CASKET_SLOT_STRIPES st)) (slotOwner k false)
      match got with
      | .waits => s
      | .refused => s.slotFault m k
      | .granted a =>
        let s := (s.writeSlot k d).wf (slotFld k 0x10 0 32) a
        let s := s.setSlotX k { slotDflt k with kind := if local0 then 0xFF else 0 }
        let s : State := { s with pipe := { s.pipe with evalStep := some (s.pipe.evalStep.getD eval) } }
        let s := s.ctxOpen (descField d 0x10 4) (descField d 0xC 2 + 1) eval
        (s.setSlot k (if local0 && (!hand || kept.isSome) then slReady else slOpen)).nextDesc m)

/-- SLOT_PARK (R69, R76): the buffer goes to the park range, coded where CFG.PARK is set. -/
def execSlotPark (m : Nat) (d : BitVec 256) (s : State) : Res :=
  let k := descField d 2 2
  let st := s.slotState k
  .next (s.issue m d fun s => if !(controlHeader d 7 && decide (k < 1024) && descField d 4 4 == 0 && descZero d 0xC 32) then s.fault m 1
    else if st ≠ slReady ∧ st ≠ slStashed ∧ st ≠ slBwdReady then s.slotFault m k
    else if s.rf F.PIPE_PARK_SIZE_GIB * 2 ^ 30 < descField d 8 4 * 4096 + s.bufBytes k then
      ((s.raise F.PIPE_ERR_RANGE).event 0x020D srcHub k (s.rf (slotFld k 8 0 16)) 0 0).fault m 1
    else s.codecStaged (s.flag F.CODEC_CFG_PARK) ⟨.codec, 2048 + k⟩ (s.rbs (s.bufAddr k) (s.bufBytes k)) fun s =>
      let n := s.bufBytes k
      let data := s.rbs (s.bufAddr k) n
      let s := s.wf (slotFld k 0x1C 0 32) (descField d 8 4)
      let (gs, s) := State.writeRange (s.parkAddr k) (s.flag F.CODEC_CFG_PARK) 0 (Sys2Proof.Machine.pieces 1048576 (n + 1) data) s
      let s := s.setSlotX k { s.slotX k with parkGens := gs }
      let s := ((s.freeSlotBuf k).wf (slotFld k 0 4 4) st).bump F.PIPE_PARKS_COUNT 1
      (s.setSlot k slParked).nextDesc m)

/-- The stream and owner of a parked slot's next buffer. -/
def State.resumeStream (s : State) (k : Nat) : Nat × Owner :=
  let back := decide (slBwdReady ≤ s.slotSaved k)
  let v := s.rf (slotFld k 1 0 3)
  let p := if back then (s.nextHop true v).map (·.1) else s.inPort v
  ((match p with | some 2 => 4 | some 3 => 5 | _ => 6), slotOwner k back)

/-- SLOT_RESUME (R69): a buffer is allocated and the copy begins. -/
def execSlotResume (m : Nat) (d : BitVec 256) (s : State) : Res :=
  let k := descField d 2 2
  .next (s.issue m d fun s => if !(controlHeader d 8 && decide (k < 1024) && descZero d 4 32) then s.fault m 1
    else if s.slotState k ≠ slParked then s.slotFault m k
    else
      let (st, o) := s.resumeStream k
      match s.request st (s.rf (F.CASKET_SLOT_STRIPES st)) o with
      | (.waits, s) => s
      | (.refused, s) => s.slotFault m k
      | (.granted a, s) =>
        let s := s.setSlotX k { s.slotX k with resumer := (s.curTask m).map (·.id) }
        ((s.wf (slotFld k 0x10 0 32) a).bump F.PIPE_RESUMES_COUNT 1).nextDesc m)

/-- Read a parked range back, decoding what is coded; none where a container fails. -/
def State.readRange (base n : Nat) (gens : List (Nat × Nat)) : Nat → Nat → State → Option (List Byte) × State
  | 0, _, s => (some [], s)
  | fuel + 1, i, s =>
    if n ≤ i * 1048576 then (some [], s)
    else
      let len := min 1048576 (n - i * 1048576)
      let b := s.rbs (base + i * 1048576) len
      let (one, s) := if gens.any (fun g => g.1 == i) then s.decode 0xFF b else (some b, s)
      match one with
      | none => (none, s)
      | some one =>
        let (rest, s) := State.readRange base n gens fuel (i + 1) s
        (rest.map (fun r => one.take len ++ r), s)

/-- SLOT_RESUME_DONE (R69, R76): the slot has its buffer again and returns to the state it kept. Where a container fails to decode, the task that resumes it faults with
POISON (R270) if it still runs, and the slot stays PARKED. -/
def execSlotResumeDone (k : Nat) (s : State) : Res :=
  .next (if s.slotState k ≠ slParked ∨ s.bufBytes k = 0 then s
    else s.codecStaged (!(s.slotX k).parkGens.isEmpty) ⟨.codec, 4096 + k⟩ (s.rbs (s.parkAddr k) (s.bufBytes k)) fun s =>
      let n := s.bufBytes k
      match State.readRange (s.parkAddr k) n (s.slotX k).parkGens (n / 1048576 + 1) 0 s with
      | (none, s) =>
        (match (s.slotX k).resumer.bind (fun id => s.front.tasks.find? (fun t => t.id == id && t.phase.live)) with
        | some t => s.fault t.core 5
        | none => s)
      | (some data, s) =>
        let st := s.slotSaved k
        let s := ((s.store (s.bufAddr k) data).freePark k).wf (slotFld k 0x1C 0 32) 0xFFFFFFFF
        (s.wf (slotFld k 0 4 4) 0).setSlot k st)

/-- SLOT_CLOSE (R69). -/
def execSlotClose (m : Nat) (d : BitVec 256) (s : State) : Res :=
  let k := descField d 2 2
  .next (s.issue m d fun s => if !(controlHeader d 9 && decide (k < 1024) && descZero d 4 32) then s.fault m 1
    else if s.slotState k ≠ slDone then s.slotFault m k
    else (((s.ctxClose k).setSlotX k (slotDflt k)).setSlot k slFree).nextDesc m)

/-- Item 4 of R23 (R69): every slot that is not FREE is recorded and everything it holds is freed; the answer says whether one was not DONE, so that
the step lost its micro-batch. -/
def State.freeSlots (s : State) : State × Bool :=
  s.slotsOpen.foldl (fun (a : State × Bool) k =>
    let s := a.1
    let lost := s.slotState k != slDone
    let s := (s.raise F.PIPE_ERR_SLOT_OPEN_AT_BOUNDARY).event 0x020C srcHub k (s.rf (slotFld k 8 0 16)) 0 0
    let s := (((s.freeSlotBuf k).freeStash k).freePark k).ctxClose k
    let s := (s.wf (slotFld k 0 4 4) 0).wf (slotFld k 0x1C 0 32) 0xFFFFFFFF
    ((s.setSlotX k (slotDflt k)).setSlot k slFree, a.2 || lost)) (s, false)

end Sys2Proof.Machine
end

