-- ==== Sys2Proof/Machine/Bead.lean ====
section
/-! DEFINITION. Beads: their fields, their checks, their encryption, their way round the arc, and the home shard they rest in (R32 to R44,
R206 to R212). -/

namespace Sys2Proof.Machine

/-! ### Fields (R33) -/

def bdVersion (u : List Byte) : Nat := leAt u 0 2
def bdFormat (u : List Byte) : Nat := leAt u 2 1
def bdKind (u : List Byte) : Nat := leAt u 3 1
def bdId (u : List Byte) : Nat := leAt u 4 4
def bdLayer (u : List Byte) : Nat := leAt u 8 2
def bdShard (u : List Byte) : Nat := leAt u 0xC 4
def bdLen (u : List Byte) : Nat := leAt u 0x10 4
def bdHome (u : List Byte) : Nat := leAt u 0x1C 1
def bdArc (u : List Byte) : Nat := leAt u 0x1D 1
def bdKeySlot (u : List Byte) : Nat := leAt u 0x1E 1
def bdCompressed (u : List Byte) : Bool := bit (leAt u 0x1F 1) 0
def bdContent (u : List Byte) : Nat := leAt u 0x20 4
def bdGscale (u : List Byte) : Nat := leAt u 0x28 1
def bdStep (u : List Byte) : Nat := leAt u 0x2C 4
def bdRound (u : List Byte) : Nat := leAt u 0x30 2
def bdSeq (u : List Byte) : Nat := leAt u 0x32 2
def bdDir (u : List Byte) : Nat := leAt u 0x34 1
def bdHop (u : List Byte) : Nat := leAt u 0x35 1
def bdOrigin (u : List Byte) : Nat := leAt u 0x36 1
def bdTarget (u : List Byte) : Nat := leAt u 0x37 1

/-- Injection direction, and RESENT (R33). -/
def bdInjected (u : List Byte) : Nat := bits (bdDir u) 1 1
def bdResent (u : List Byte) : Bool := bit (bdDir u) 2

/-- Payload and tag of a Bead's bytes. -/
def bdPayload (u : List Byte) : List Byte := (u.drop 64).take (bdLen u)
def bdTag (u : List Byte) : List Byte := (u.drop (64 + bdLen u)).take 16

/-- The additional authenticated data (R36) and the IV (R37). -/
def bdAad (u : List Byte) : List Byte := u.take 0x2C
def bdIv (u : List Byte) : List Byte := (u.drop 4).take 4 ++ (u.drop 0x20).take 8

/-- PART and INDEX of Cameo and restore Beads (R238). -/
def bdPart (u : List Byte) : Nat := bits (bdId u) 27 3
def bdIndex (u : List Byte) : Nat := bits (bdId u) 0 27

/-- The weight Bead and the piece number of a gradient Bead (R206). -/
def bdWeight (u : List Byte) : Nat := bits (bdId u) 0 24
def bdPiece (u : List Byte) : Nat := bits (bdId u) 24 6

/-- A Bead with a new routing part: the rest of it stays as it is, and HDR_CRC follows (R36). -/
def bdRoute (u : List Byte) (step round seq dir hop origin target : Nat) : List Byte :=
  let h := u.take 0x2C ++ natLe step 4 ++ natLe round 2 ++ natLe seq 2 ++ natLe dir 1 ++ natLe hop 1 ++ natLe origin 1 ++ natLe target 1
  h ++ natLe (crc32c h) 4 ++ natLe 0 4 ++ u.drop 64

/-- A Bead one hop on (R44): HOP rises, the current direction is as given. -/
def bdOn (u : List Byte) (dir : Nat) : List Byte :=
  bdRoute u (bdStep u) (bdRound u) (bdSeq u) (insertBits (bdDir u) 0 1 dir) (bdHop u + 1) (bdOrigin u) (bdTarget u)

/-- The fixed part of a header (R33). -/
def bdHead (version format kind id layer tensor shard len home arc key flags content encId encSeq gscale : Nat) : List Byte :=
  natLe version 2 ++ natLe format 1 ++ natLe kind 1 ++ natLe id 4 ++ natLe layer 2 ++ natLe tensor 2 ++ natLe shard 4 ++ natLe len 4 ++
    natLe 0 8 ++ natLe home 1 ++ natLe arc 1 ++ natLe key 1 ++ natLe flags 1 ++ natLe content 4 ++ natLe encId 2 ++ natLe encSeq 2 ++
    natLe gscale 1 ++ natLe 0 3

/-! ### The checks of row 1 of R48 -/

/-- Whether a Bead is well formed under the arc version (R32 to R35, R40, R238). -/
def beadOk (version : Nat) (u : List Byte) : Bool :=
  let f := fun o k => leAt u o k
  let scaled := decide (blockLen (bdFormat u) ≠ 0)
  f 0x38 4 == crc32c (u.take 0x38) && bdVersion u == version && decide (bdFormat u ≤ 0x0D) && decide (bdKind u ≤ 4) &&
    decide (512 ≤ bdLen u) && decide (bdLen u ≤ 1048576) && bdLen u % 512 == 0 && u.length == 80 + bdLen u &&
    f 0x14 4 % 32 == 0 && decide (f 0x14 4 + f 0x18 4 ≤ bdLen u) && (scaled || (f 0x14 4 == 0 && f 0x18 4 == 0)) &&
    decide (bdHome u < 32) && decide (bdArc u < 32) && decide (bdKeySlot u < 2) && decide (f 0x1F 1 ≤ b2n (version == 0x0101)) &&
    (bdKind u != 0 || f 0x1F 1 == 0) && f 0x29 3 == 0 && decide (bdDir u < 8) && decide (bdOrigin u < 32) &&
    (bdTarget u == 0xFF || decide (bdTarget u < 32)) && f 0x3C 4 == 0 &&
    (decide (bdKind u < 3) || (decide (bdPart u < 6) && (!bdCompressed u || (decide (2 ≤ bdPart u) && decide (bdPart u ≤ 4)))))

/-! ### Keys (R38, R39) -/

/-- The content key in a slot. -/
def State.contentKey (s : State) (k : Nat) : Option (List Byte) := if k = 0 then s.locket.key0 else s.locket.key1

/-- Decrypt a Bead whose payload and tag are given (R38): none where its key slot is empty or its tag fails. -/
def State.openBead (s : State) (head payload tag : List Byte) : Option (List Byte) :=
  match s.contentKey (bdKeySlot head) with
  | none => none
  | some k => gcmOpen k (bdIv head) (bdAad head) payload tag

/-- Encrypt a payload under a fixed part (R36, R37): the Bead, its routing part still zero. Without a key in the slot nothing can be sent. -/
def State.sealBead (s : State) (fixed payload : List Byte) : Option (List Byte) :=
  match s.contentKey (bdKeySlot fixed) with
  | none => none
  | some k =>
    let (ct, tag) := gcmSeal k (bdIv fixed) (bdAad fixed) payload
    some (fixed ++ natLe 0 20 ++ ct ++ tag)

/-! ### The way round the arc (R43, R44) -/

/-- The hops of a route from a rank in a direction: the rank each reaches and the direction it is taken in. On a folded line a route turns at the ends. -/
def walk (closed : Bool) (l : Nat) : Nat → Nat → Nat → List (Nat × Nat)
  | 0, _, _ => []
  | k + 1, r, d =>
    let d := if closed then d else if d = 0 ∧ r + 1 = l then 1 else if d = 1 ∧ r = 0 then 0 else d
    let r := if d = 0 then (r + 1) % l else (r + l - 1) % l
    (r, d) :: walk closed l k r d

/-- The hops a Bead makes: L on a closed arc, 2 (L - 1) on a folded line. -/
def State.hops (s : State) : Nat := if s.closedNow then s.arcLen else 2 * (s.arcLen - 1)

/-- The route of a Bead from its origin's position in its injection direction: element h is where a copy received with HOP h arrives. -/
def State.route (s : State) (origin d : Nat) : List (Nat × Nat) :=
  if s.arcLen ≤ 1 then [] else walk s.closedNow s.arcLen s.hops (s.rank origin) d

/-- The HOP with which the route first passes a rank. -/
def firstPass (route : List (Nat × Nat)) (rank : Nat) : Option Nat := route.findIdx? (fun e => e.1 == rank)

/-- The passes of a rank before HOP h: the visit that h is. -/
def visitOf (route : List (Nat × Nat)) (rank h : Nat) : Nat := ((route.take h).filter (fun e => e.1 == rank)).length

/-! ### Homes (R42, R43, R56, R71) -/

/-- The home Beads of a position of the arc (R401). -/
def State.entries (s : State) (pos : Nat) : List BeadEntry := ((s.setup.arcBeads.find? (fun e => e.1 == pos)).map (·.2)).getD []

/-- The position that injects a home's Beads: the home, or its proxy. -/
def State.servedBy (s : State) (home : Nat) : Nat :=
  if s.members.contains home then home else (s.holderOf s.chain.out home).getD home

/-- Virtual stages of the schedule, and the one a layer belongs to (R71): the spec leaves a chunk's layers to the compiler. -/
def State.vstageOf (s : State) (layer : Nat) : Nat := Config.layerVstage layer % (s.rf F.PIPE_SCHED_V_M1 + 1)

/-- Whether a Bead is rotated in a round. -/
def State.inRound (s : State) (e : BeadEntry) (r : List Byte) : Bool := s.vstageOf e.layer == roundVstage r

/-- The format a Bead circulates in, is cast to, and may grow to (R107, R108). -/
def State.useFmt (s : State) (e : BeadEntry) : Nat := if e.managed then s.rf (F.FMT_ENT_STATE_USE e.fmtEntry) else e.fixedFmt
def State.castFmt (s : State) (e : BeadEntry) : Nat := if e.managed then s.rf (F.FMT_ENT_STATE_CAST e.fmtEntry) else e.fixedFmt
def State.ceilFmt (s : State) (e : BeadEntry) : Nat := if e.managed then s.rf (F.FMT_ENT_CFG_CEIL e.fmtEntry) else e.fixedFmt

/-- PAYLOAD_LEN of a Bead in a format (R108), and of its source copy (R42). -/
def BeadEntry.payload (e : BeadEntry) (f : Nat) : Nat := roundUp (tensorBytes f e.elems) 512
def BeadEntry.source (e : BeadEntry) : Nat := roundUp (2 * e.elems) 512

/-- Stripes of a Bead at rest (R32). -/
def beadStripes (len : Nat) : Nat := ceilDiv (80 + len) 512

/-- A home shard, or the image of one that a proxy serves (R42, R56): the home's position, the addresses of its two areas, its Beads. -/
structure Shard where
  pos : Nat
  work : Nat
  src : Nat
  beads : List BeadEntry
  deriving DecidableEq, Repr

/-- Stripes of the working-copy slots, and of the source-copy slots, of the Beads before k (R42). -/
def State.workBefore (s : State) (l : List BeadEntry) (k : Nat) : Nat := ((l.take k).map (fun e => beadStripes (e.payload (s.ceilFmt e)))).sum
def srcBefore (l : List BeadEntry) (k : Nat) : Nat := ((l.take k).map (fun e => beadStripes e.source)).sum

/-- Where a shard holds Bead k's working copy and its source copy. -/
def State.workAt (s : State) (h : Shard) (k : Nat) : Nat := h.work + s.workBefore h.beads k * 512
def State.srcAt (_ : State) (h : Shard) (k : Nat) : Nat := h.src + srcBefore h.beads k * 512

/-- This module's own home shard. -/
def State.ownShard (s : State) : Shard :=
  let l := s.setup.beads
  let base := Config.homeShardGib * 2 ^ 30
  ⟨s.pos, base, base + s.workBefore l l.length * 512, l⟩

/-- The Cameo region's slot and records area (R237). -/
def State.cameoBase (s : State) : Nat := s.rf F.HEALTH_CAMEO_REGION_BASE_GIB * 2 ^ 30
def State.cameoPart (s : State) (slot part : Nat) : Nat :=
  s.cameoBase + slot * (63 * 2 ^ 30) + s.rf (F.HEALTH_CAMEO_PART_OFFSET_MIB part) * 2 ^ 20
def State.cameoRecords (s : State) : Nat := s.cameoBase + 126 * 2 ^ 30

/-- The shard of the lost module that this module serves as proxy, while its Cameo is current (R56). -/
def State.proxyShard (s : State) : Option Shard :=
  if s.flag F.CHAIN_PROXY_ACTIVE && s.flag F.CHAIN_PROXY_CAMEO_CURRENT then
    let pos := s.rf F.CHAIN_PROXY_FOR_POS
    let slot := s.rf F.HEALTH_CAMEO_STATUS_IMAGE_SLOT
    some ⟨pos, s.cameoPart slot 0, s.cameoPart slot 1, s.entries pos⟩
  else none

/-- The shards this module injects: its own, then the one it serves. -/
def State.shards (s : State) : List Shard := s.ownShard :: s.proxyShard.toList

/-- The shard of a home position that this module injects. -/
def State.shardOf (s : State) (home : Nat) : Option Shard := s.shards.find? (fun h => h.pos == home)

/-- The Bead at rest at an address: its header says its length. -/
def State.storedBead (s : State) (a : Nat) : List Byte := s.rbs a (80 + min (leNat (s.rbs (a + 0x10) 4)) 1048576)

/-- A weight Bead of the arc by its ID: its home, its index in the shard, its entry. -/
def State.findBead (s : State) (id : Nat) : Option (Nat × Nat × BeadEntry) :=
  s.setup.arcBeads.findSome? (fun h => (h.2.findIdx? (fun e => e.id == id)).bind (fun k => (h.2[k]?).map (fun e => (h.1, k, e))))

/-! ### Gradient routes (R207, R210) -/

/-- Pieces of a Bead's gradient, and the elements of piece j: its first and their number (R207). -/
def piecesOf (elems len : Nat) : Nat := ceilDiv (2 * elems) len
def pieceRange (elems len j : Nat) : Nat × Nat := (j * (len / 2), min (len / 2) (elems - j * (len / 2)))

/-- The path of a weight Bead: the origin, then each rank it reaches with the direction of that hop. -/
def State.beadPath (s : State) (origin d : Nat) : List (Nat × Nat) := (s.rank origin, d) :: s.route origin d

/-- The place on a path where a rank lands the Bead. -/
def landsAt (path : List (Nat × Nat)) (rank : Nat) : Nat := path.findIdx (fun e => e.1 == rank)

/-- The place on a path where the last member lands it, m_L of R210. -/
def lastLanding (path : List (Nat × Nat)) (l : Nat) : Nat := ((List.range l).map (landsAt path)).foldl max 0

/-! ### Sending -/

/-- The class a Bead travels in on a port (R355): transit where the port closes the arc through other positions (R52). -/
def State.beadClass (s : State) (p kind : Nat) : Nat :=
  if s.closingPort p then 4 else if kind = 1 then 2 else if kind = 3 ∨ kind = 4 then 3 else 1

/-- Queue a Bead on a port behind the step gate (R361), and count it: the stripes of its holder are free once its last byte has left. -/
def State.sendBead (s : State) (p : Nat) (u : List Byte) (holds : Option Owner) : State :=
  (s.sendHeld p (s.beadClass p (bdKind u)) u (bdStep u) true holds).bump (F.CHAIN_CNT_COUNT p 1) 1

/-- The port that a Bead leaves by in a direction, and whether it turns there at once: the port is a fold end (R43). -/
def State.exitPort (s : State) (d : Nat) : Nat × Bool :=
  let p := 1 - d
  if s.flag (F.CHAIN_STATUS_END p) then (d, true) else (p, false)

/-- A Bead as it leaves in its injection direction, turned at once at a fold end the module itself forms (R43). -/
def State.outward (s : State) (u : List Byte) : List Byte :=
  if (s.exitPort (bdInjected u)).2 then
    bdRoute u (bdStep u) (bdRound u) (bdSeq u) (insertBits (bdDir u) 0 1 (1 - bdInjected u)) 0 (bdOrigin u) (bdTarget u)
  else u

/-- Send a Bead out in its injection direction (R43) from the stripes of a holder. -/
def State.injectBead (s : State) (u : List Byte) (holds : Option Owner) : State :=
  let (p, turned) := s.exitPort (bdInjected u)
  (if turned then s.bump (F.CHAIN_CNT_COUNT p 14) 1 else s).sendBead p (s.outward u) holds

/-- Forward a Bead that came by port p (R44): on through the other port, or back out of the same one at a fold end. A restore Bead for the position
the other port faces goes there although the arc ends (R59). -/
def State.forwardBead (s : State) (p : Nat) (u : List Byte) (holds : Option Owner) : State :=
  let through := bdKind u == 4 && bdTarget u == s.faces (1 - p)
  let q := if through then 1 - p else s.onward p
  let turned := q == p
  let s := if turned then s.bump (F.CHAIN_CNT_COUNT p 14) 1 else s
  s.sendBead q (bdOn u (1 - q)) holds

/-- The port that a Bead for one position leaves by: the one that faces it, else the shorter way (R59, R238). -/
def State.portTo (s : State) (target : Nat) : Nat := if s.faces 1 = target then 1 else if s.faces 0 = target then 0 else s.chainPort target

/-- Send a Bead through stripes of allocation streams (R188, R271), taken in order: all but the last are free again at once, the last hold it until its last byte has
left the port. While the allocator cannot give them it is kept to be sent later; a refused request sends nothing. -/
def State.sendStaged (o : Owner) (p : Nat) (u : List Byte) : List Nat → State → State
  | [], s => s.sendBead p u (some o)
  | i :: rest, s =>
    match s.request i (if rest.isEmpty then beadStripes (bdLen u) else s.rf (F.CASKET_SLOT_STRIPES i)) o with
    | (.granted a, s) =>
      if rest.isEmpty then (s.store (stripeAddr a) u).sendBead p u (some o)
      else State.sendStaged o p u rest (s.freeOwner o)
    | (.waits, s) => { s with chain := { s.chain with deferred := s.chain.deferred ++ [⟨i :: rest, o, p, u⟩] } }
    | (.refused, s) => s

/-- The Beads that wait for stripes are tried again, oldest first. -/
def State.sendDeferred (s : State) : State :=
  s.chain.deferred.foldl (fun (s : State) d => State.sendStaged d.owner d.port d.data d.streams s)
    { s with chain := { s.chain with deferred := [] } }

/-- The holder of the stripes of a Bead that is sent: a Cameo or restore Bead, or one that is injected or sent again. -/
def cameoOwner (u : List Byte) : Owner := ⟨.cameo, leNat (u.take 0x38)⟩
def injectOwner (u : List Byte) : Owner := ⟨.inject, leNat (u.take 0x38)⟩

/-- Send a Cameo or restore Bead of this module to one position, coded or not (R188: CAMEO, and CODEC where it is coded). -/
def State.sendTo (s : State) (u : List Byte) (step round seq resent target : Nat) : State :=
  let p := s.portTo target
  let d := 1 - p
  let u := bdRoute u step round seq (d + 2 * d + 4 * resent) 0 s.pos target
  State.sendStaged (cameoOwner u) p u (if bdCompressed u then [14, 15] else [15]) s

/-! ### Landing (R38, R45, R214) -/

/-- The holders of a Bead's ciphertext stripes and of its landing stripes. -/
def cipherOwner (u : List Byte) : Owner := ⟨.cipher, leNat (u.take 0x38)⟩
def landOwner (u : List Byte) : Owner := ⟨.landing, leNat (u.take 0x34)⟩

/-- The allocation streams of an arriving Bead's ciphertext and of its landing copy (R188): Cameo and restore traffic has its own. -/
def rxStream (p : Nat) (u : List Byte) : Nat := if bdKind u = 3 ∨ bdKind u = 4 then 15 else p
def landStream (p : Nat) (u : List Byte) : Nat := if bdKind u = 3 ∨ bdKind u = 4 then 15 else 2 + p

/-- Stripes that a Bead's decoded payload may take: those of its payload, or a whole slot where it is coded. -/
def State.landStripes (s : State) (st : Nat) (u : List Byte) : Nat :=
  if bdCompressed u then s.rf (F.CASKET_SLOT_STRIPES st) else ceilDiv (bdLen u) 512

/-- READERS of the round entry of a Bead's round (R493), for the kinds it governs. -/
def State.readersOf (s : State) (u : List Byte) : Nat :=
  if bdKind u = 0 ∨ bdKind u = 2 then (match s.roundEntry (bdRound u) with | some e => leAt e 4 2 | none => 0) else 0

/-- Record a landing copy. -/
def State.addLanding (s : State) (l : Landing) : State := { s with chain := { s.chain with landings := s.chain.landings ++ [l] } }

/-- A landing copy goes, its landing stripes are free; the ciphertext's stay with their holder. -/
def State.dropLand (s : State) (l : Landing) : State :=
  let s : State := { s with chain := { s.chain with landings := s.chain.landings.erase l } }
  s.freeWhere (fun g => g.owner.kind == .landing && g.start == l.stripe)

/-- A landing copy is discarded or done with: all its stripes are free. -/
def State.dropLanding (s : State) (l : Landing) : State :=
  let s := s.dropLand l
  match l.cipher with
  | some c => s.freeWhere (fun g => g.owner.kind == .cipher && g.start == c)
  | none => s

/-- A landing copy's tag has passed: its decoded payload lies in its stripes, and the container that it was is no longer held. -/
def State.passLanding (s : State) (l : Landing) (raw : List Byte) : State :=
  let s := (s.casket.grants.filter (fun g => g.owner.kind == .landing && g.start == l.stripe)).foldl (fun (s : State) g => s.dropCoded g.owner) s
  let s := (s.store (stripeAddr l.stripe) raw).bump (F.CHAIN_CNT_COUNT l.port 2) 1
  { s with chain := { s.chain with landings := s.chain.landings.map (fun x => if x = l then { x with checked := true } else x) } }

/-- Signal a Bead's landing Clasp (R38). -/
def State.signalLanding (s : State) (u : List Byte) : State :=
  s.emit ⟨Config.landingClasp (bdId u) (bdRound u) % 65536, 1, false, 0x1FF⟩

end Sys2Proof.Machine
end

