-- ==== Sys2Proof/Machine/Grad.lean ====
section
/-! DEFINITION. The reducer: contributions, gradient pieces on their way home, late contributions and the CARRY region (R206 to R217). -/

namespace Sys2Proof.Machine

/-- Replace the reducer's state. -/
def State.setGrad (s : State) (g : GradX) : State := { s with grad := g }

/-! ### The CARRY region (R216, R217) -/

/-- Entry k of the CARRY region: the region divided into equal slots, each a 16 B header (flags: bit 0 in use, bit 1 used in this step; weight BEAD_ID;
the step that created it; E) and FP32 words in canonical order. The spec gives no layout: DESIGN CHOICE. -/
def State.carryAt (s : State) (k : Nat) : Nat :=
  let n := s.rf F.GRAD_CARRY_ENTRIES_ENTRIES
  s.rf (F.GRAD_REGION_BASE_GIB 3) * 2 ^ 30 + k * (s.rf (F.GRAD_REGION_SIZE_GIB 3) * 2 ^ 30 / (n * 512) * 512)

/-- The entries in use. -/
def State.carries (s : State) : List Nat :=
  (List.range (s.rf F.GRAD_CARRY_ENTRIES_ENTRIES)).filter (fun k => bit (s.rle (s.carryAt k) 4) 0)

/-- The entry that holds a Bead's carry: one that this step has created, or one that an earlier step has (R217). -/
def State.carryFor (s : State) (bead : Nat) (new : Bool) : Option Nat :=
  s.carries.find? (fun k => s.rle (s.carryAt k + 4) 4 == bead && (s.rle (s.carryAt k + 8) 4 == s.rf F.CHAIN_STEP_STEP) == new)

/-- Word i of an entry. -/
def State.carryWord (s : State) (k i : Nat) : Word := BitVec.ofNat 32 (s.rle (s.carryAt k + 16 + 4 * i) 4)

/-- Add words into an entry, by fp32_rne addition in element order. -/
def State.addCarry (s : State) (k : Nat) (l : List (Nat × Word)) : State :=
  l.foldl (fun (s : State) e => s.store (s.carryAt k + 16 + 4 * e.1) (natLe (fAdd (s.carryWord k e.1) e.2).toNat 4)) s

/-- A new entry for a Bead: none where the region is full (R216). -/
def State.newCarry (s : State) (bead elems : Nat) : Option (Nat × State) :=
  match (List.range (s.rf F.GRAD_CARRY_ENTRIES_ENTRIES)).find? (fun k => !bit (s.rle (s.carryAt k) 4) 0) with
  | none => none
  | some k =>
    let head := natLe 1 4 ++ natLe bead 4 ++ natLe (s.rf F.CHAIN_STEP_STEP) 4 ++ natLe elems 4
    some (k, s.store (s.carryAt k) (head ++ List.replicate (4 * elems) 0#8))

/-- Note that the step has written one of the parts a Cameo carries (R239). -/
def State.cameoWrote (s : State) : State := { s with health := { s.health with cameo := { s.health.cameo with wrote := true } } }

/-- Entries that this step has used leave the region, once its statistics close (R216, R217). -/
def State.clearCarries (s : State) : State :=
  s.carries.foldl (fun (s : State) k => if bit (s.rle (s.carryAt k) 4) 1 then (s.store (s.carryAt k) (natLe 0 4)).cameoWrote else s) s

/-- A step that aborts before its close: the entries it created are discarded, those it used stand as they were (R217). -/
def State.restoreCarries (s : State) : State :=
  s.carries.foldl (fun (s : State) k =>
    s.store (s.carryAt k) (natLe (if s.rle (s.carryAt k + 8) 4 = s.rf F.CHAIN_STEP_STEP then 0 else 1) 4)) s

/-! ### Contributions (R211) -/


/-- A member's contribution for a weight Bead and a round. -/
def State.contrib (s : State) (bead round : Nat) : Option Contrib := s.grad.contribs.find? (fun c => c.bead == bead && c.round == round)

/-- Put a contribution. -/
def State.setContrib (s : State) (c : Contrib) : State :=
  s.setGrad { s.grad with contribs := c :: s.grad.contribs.filter (fun x => !(x.bead == c.bead && x.round == c.round)) }

/-- Whether every part has come. -/
def Contrib.whole (c : Contrib) : Bool := c.got == c.parts

/-- Element i of a contribution: +0 where no part covers it. -/
def Contrib.word (c : Contrib) (i : Nat) : Word := SMap.get (fun _ => f32Zero) c.words i

/-- The first backward round of the list that covers a layer. -/
def State.firstBackward (s : State) (layer : Nat) : Option Nat :=
  (List.range 65536).find? (fun r => match s.roundEntry r with | some e => roundDir e == 1 && s.vstageOf layer == roundVstage e | none => false)

/-- The backward round before r that covers a layer. -/
def State.backwardBefore (s : State) (layer r : Nat) : Option Nat :=
  (List.range r).reverse.find? (fun q => match s.roundEntry q with | some e => roundDir e == 1 && s.vstageOf layer == roundVstage e | none => false)

/-- The contribution of the first backward round takes up the carry entry of an earlier step (R216). -/
def State.foldCarry (s : State) (c : Contrib) (e : BeadEntry) : Contrib × State :=
  match (if s.evaluates ∨ s.firstBackward e.layer ≠ some c.round then none else s.carryFor c.bead false) with
  | none => (c, s)
  | some k =>
    if bit (s.rle (s.carryAt k) 4) 1 then (c, s)
    else
      let ws := SMap.setMany (fun _ => f32Zero) [] 0 ((List.range e.elems).map (fun i => fAdd (c.word i) (s.carryWord k i)))
      ({ c with words := ws }, (s.store (s.carryAt k) (natLe 3 4)).cameoWrote)

/-- PAYLOAD_LEN of a weight Bead as it circulates (R207). -/
def State.useLen (s : State) (e : BeadEntry) : Nat := e.payload (s.useFmt e)

/-- A contribution has come whole after pieces left without it: LATE_POLICY carries or drops the elements of those pieces (R216). -/
def State.applyLate (s : State) (c : Contrib) (e : BeadEntry) (task : Nat) : State :=
  if c.late.isEmpty then s
  else
    let s := match s.curTask task with
      | some t => s.updTask t.id (fun t => { t with variance := min (t.variance + c.late.length) (2 ^ 32 - 1) })
      | none => s
    let ranges := c.late.map (pieceRange e.elems (s.useLen e))
    let l := ranges.flatMap (fun r => (List.range r.2).map (fun i => (r.1 + i, c.word (r.1 + i))))
    if s.flag F.GRAD_CFG_LATE_POLICY then s.bump (F.GRAD_CNT_COUNT 5) 1
    else
      match (match s.carryFor c.bead true with | some k => some (k, s) | none => s.newCarry c.bead e.elems) with
      | some (k, s) => ((s.addCarry k l).bump (F.GRAD_CNT_COUNT 4) 1).cameoWrote
      | none => ((s.bump (F.GRAD_CNT_COUNT 6) 1).raise F.GRAD_ERR_CARRY_FULL).event 0x0701 srcHub c.bead c.round 0 0

/-- GCONTRIB's reserved fields (R226). -/
def gcontribDecode (d : BitVec 256) : Bool :=
  descHeader d 4 && descField d 1 1 == 2 && decide (descField d 2 1 < 64) && decide (descField d 3 1 < 64) && descField d 0xB 1 == 0 &&
    descField d 0xF 1 == 0 && descField d 0x13 1 == 0 && descField d 0x17 1 == 0 && descField d 0x1B 1 == 0 && descField d 0x1E 2 == 0

/-- The runs of elements a part covers: first element and count. -/
def partRuns (d : BitVec 256) : List (Nat × Nat) :=
  (List.range (descField d 0x10 3)).map (fun n => (descField d 8 3 + n * descField d 0x14 3, descField d 0xC 3))

/-- Whether two lists of runs share an element. -/
def runsMeet (a b : List (Nat × Nat)) : Bool :=
  a.any (fun x => b.any (fun y => decide (x.1 < y.1 + y.2) && decide (y.1 < x.1 + x.2)))

/-- Whether a list of runs meets itself. -/
def runsSelf : List (Nat × Nat) → Bool
  | [] => false
  | x :: l => runsMeet [x] l || runsSelf l

/-- The holder of the reducer's staging stripes for a core (R13, R188). -/
def gradOwner (m : Nat) : Owner := ⟨.grad, m⟩

/-- GCONTRIB (R211): one part of a contribution. The last one makes it whole, and settles what left without it. -/
def execGcontrib (m : Nat) (d : BitVec 256) (u : Upset) (s : State) : Res :=
  let h := descField d 2 1
  let bead := descField d 4 4
  let round := descField d 0x1C 2
  let off := descField d 0x18 3 * 4
  let len := descField d 0xC 3 * descField d 0x10 3 * 4
  .next (s.issue m d fun s => match s.physOf m with
    | none => s
    | some n =>
      if !gcontribDecode d then s.fault m 1
      else if s.hWritten n h then s
      else if !s.hValid n h || decide (s.hBytes n h < off + len) then s.fault m 4
      else
        let runs := partRuns d
        let c := (s.contrib bead round).getD ⟨bead, round, descField d 3 1 + 1, 0, [], [], m, []⟩
        let past := match s.findBead bead with | some (_, _, e) => runs.any (fun r => decide (e.elems < r.1 + r.2)) | none => true
        if past || c.whole || runsMeet runs c.cover || runsSelf runs then
          ((s.raise F.GRAD_ERR_COVER).event 0x0706 srcHub bead round m 0).fault m 4
        else
          let (s, ready) := s.touch n (s.hStart n h + off) len true
          let s := if ready then s.meet u else s
          if !ready then s
          else if s.poisonedAt (s.hAddr n h off) len then s.fault m 5
          else
            match s.request 8 8 (gradOwner m), s.findBead bead with
            | (.granted _, s), some (_, _, e) =>
              let s := s.freeOwner (gradOwner m)
              let ks := runs.flatMap (fun r => (List.range r.2).map (fun i => r.1 + i))
              let ws := (List.range ks.length).map (fun i => BitVec.ofNat 32 (s.rle (s.hAddr n h (off + 4 * i)) 4))
              let c : Contrib := { c with got := c.got + 1, cover := c.cover ++ runs, core := m
                                          words := (ks.zip ws).foldl (fun a p => SMap.set (fun _ => f32Zero) a p.1 p.2) c.words }
              if c.whole then
                let (c, s) := s.foldCarry c e
                ((s.setContrib c).applyLate c e m).nextDesc m
              else (s.setContrib c).nextDesc m
            | (_, s), _ => s)

/-! ### Pieces (R207, R208, R212) -/

/-- The elements of a piece as it arrives, widened under R92. -/
def pieceWords (format gscale : Nat) (raw : List Byte) (n : Nat) : List Word :=
  (tensorNums format n 0 raw).map (fun x => toF32 (x.scale (-(sbyte gscale))))

/-- The payload and GSCALE of a piece's sums on the wire (R212). -/
def wirePiece (format : Nat) (ws : List Word) : List Byte × Nat :=
  let xs := ws.map f32
  let a := amaxOf (xs.filter Num.finite)
  let g : Int := if format ≠ 2 ∨ a.isZero then 0 else min 127 (max (-127) (14 - a.log2))
  (pad512 (convertTensor format false (fun _ => .nearest) (xs.map (fun x => x.scale g))).1, (g % 256).toNat)

/-- The wire format of gradients. -/
def State.wireFmt (s : State) : Nat := 1 + s.rf F.GRAD_CFG_WIRE_FMT

/-- Encode a payload where a class of traffic is coded (R264). -/
def State.codeBead (s : State) (on : Bool) (raw : List Byte) : List Byte × Bool × State :=
  if on && s.rf F.CHAIN_BEAD_VER_ACTIVE == 0x0101 then
    match s.encode raw with
    | (some c, s) => (c, true, s)
    | (none, s) => (raw, false, s)
  else (raw, false, s)

/-- Make and send a piece from place i of the weight Bead's path (R208, R210): it retraces the hop by which the Bead came. Its sums lie in a LAND slot; the
departing edge die writes its ciphertext into a CHAIN_RX slot, which is free once its last byte has left the port (R209, R214). -/
def State.sendPiece (s : State) (home : Nat) (e : BeadEntry) (path : List (Nat × Nat)) (last i piece round seq starter : Nat) (ws : List Word)
    (rx land : Nat) (holds : Option Owner) : State :=
  let (raw, g) := wirePiece s.wireFmt ws
  let (payload, coded, s) := (s.store (stripeAddr land) raw).codeBead (s.flag F.CODEC_CFG_GRAD) raw
  let fixed := bdHead (s.rf F.CHAIN_BEAD_VER_ACTIVE) s.wireFmt 1 (2 ^ 30 + piece * 2 ^ 24 + e.id) e.layer e.tensor e.shard payload.length home
    (s.rf F.CHAIN_ARC_ARC_ID) s.locket.encSlot (b2n coded) (s.rf F.CHAIN_STEP_STEP) (s.rf F.SETUP_IDENT_MODULE_ID) round g
  match s.sealBead fixed payload with
  | none => s
  | some u =>
    let dir := (nth path i (0, 0)).2
    let u := bdRoute u (s.rf F.CHAIN_STEP_STEP) round seq ((1 - dir) + 2 * (1 - b2n e.west)) (last - i) starter 0xFF
    let s := s.store (stripeAddr rx) u
    let s := match holds with | some o => if coded then s.keepCoded o payload else s | none => s
    (s.sendBead dir u holds).bump (F.GRAD_CNT_COUNT 1) 1

/-- Where the home keeps the accumulators of Bead k of a shard (R213): FP32 words, the shards one after the other. The spec gives no layout: DESIGN
CHOICE. -/
def State.accAt (s : State) (home k : Nat) : Nat :=
  let own := s.setup.beads
  let before := if home = s.pos then own.take k else own ++ (s.entries home).take k
  s.rf (F.GRAD_REGION_BASE_GIB 0) * 2 ^ 30 + 4 * (before.map (·.elems)).sum

/-- Word i of a Bead's accumulators. -/
def State.accWord (s : State) (home k i : Nat) : Word := BitVec.ofNat 32 (s.rle (s.accAt home k + 4 * i) 4)

/-- Add a piece's result into the accumulators (R213): the first backward round sets them, later rounds add in turn. -/
def State.accumulate (s : State) (home k bead piece round first : Nat) (ts : List Word) : State :=
  let fresh := !s.grad.acc.any (fun a => a.1 == bead && a.2.1 == piece)
  let vs := (List.range ts.length).map (fun i =>
    let t := nth ts i f32Zero
    if fresh then t else fAdd (s.accWord home k (first + i)) t)
  let s := s.store (s.accAt home k + 4 * first) (vs.flatMap (fun v => natLe v.toNat 4))
  s.setGrad { s.grad with acc := (bead, piece, round) :: s.grad.acc.filter (fun a => !(a.1 == bead && a.2.1 == piece)) }

/-- Whether a piece's earlier rounds have been added (R213). -/
def State.accReady (s : State) (layer bead piece round : Nat) : Bool :=
  match s.backwardBefore layer round with
  | none => true
  | some q => s.grad.acc.any (fun a => a.1 == bead && a.2.1 == piece && decide (q ≤ a.2.2))

/-- A piece retires at m₁ (R218). -/
def State.retirePiece (s : State) : State := s.wf F.GRAD_PENDING_PIECES (s.rf F.GRAD_PENDING_PIECES - 1)

/-- The landing copy of a piece that has reached its adding visit here. -/
def State.pieceHere (s : State) (bead round piece : Nat) : Option Landing :=
  s.chain.landings.find? (fun l => l.checked && bdKind l.head == 1 && bdWeight l.head == bead && bdPiece l.head == piece && bdRound l.head == round)

/-- The holders of the two slots of a piece that starts here: its ciphertext's and its sums' (R214). -/
def pieceOwner (bead round piece : Nat) (land : Bool) : Owner := ⟨.grad, 2 * (1024 + (bead * 65536 + round) * 64 + piece) + b2n land⟩

/-- Whether a piece that this module sends is coded (R264). -/
def State.codesPieces (s : State) : Bool := s.flag F.CODEC_CFG_GRAD && s.rf F.CHAIN_BEAD_VER_ACTIVE == 0x0101

/-- The holder of the stripes that begin at one: the ciphertext's, where it is held. -/
def State.heldAt (s : State) (a : Nat) : Option Owner := (s.casket.grants.find? (fun g => g.owner.kind == .cipher && g.start == a)).map (·.owner)

/-- GRAD_ADD (R210 to R213): the contribution is whole, so m_L starts the piece, or the piece that waits here takes it up and goes on, or adds into the
accumulators at the home. On an arc of one member the contribution itself is the result: DEDUCED. An evaluation step sends no gradients (R78). -/
def execGradAdd (bead round piece : Nat) (s : State) : Res :=
  .next (match s.contrib bead round, s.findBead bead with
    | some c, some (home, k, e) =>
      let len := s.useLen e
      let (first, n) := pieceRange e.elems len piece
      let origin := s.servedBy home
      let path := s.beadPath origin (b2n e.west)
      let last := lastLanding path s.arcLen
      let me := landsAt path (s.rank s.pos)
      let cs := (List.range n).map (fun i => c.word (first + i))
      if s.evaluates || !c.whole || decide (piecesOf e.elems len ≤ piece) || c.late.contains piece then s
      else if s.arcLen ≤ 1 then
        if s.grad.started.contains (bead, round, piece) || !s.accReady e.layer bead piece round then s
        else
          let s := s.setGrad { s.grad with started := (bead, round, piece) :: s.grad.started }
          ((s.accumulate home k bead piece round first cs).retirePiece).bump (F.GRAD_CNT_COUNT 2) 1
      else if me = last then
        if s.grad.started.contains (bead, round, piece) then s
        else
          let p := (nth path me (0, 0)).2
          let o := pieceOwner bead round piece
          match s.request p (beadStripes (roundUp (2 * n) 512)) (o false) with
          | (.granted a, s) =>
            match s.request (2 + p) (ceilDiv (roundUp (2 * n) 512) 512) (o true) with
            | (.granted b, s) => s.codecStaged s.codesPieces ⟨.codec, 8192 + p⟩ (s.rbs (stripeAddr b) 512) fun s =>
              let s := s.setGrad { s.grad with started := (bead, round, piece) :: s.grad.started }
              ((s.sendPiece home e path last me piece round k s.pos cs a b (some (o false))).freeOwner (o true)).bump (F.GRAD_CNT_COUNT 2) 1
            | (_, s) => s
          | (_, s) => s
      else
        match s.pieceHere bead round piece with
        | none => s
        | some l =>
          let xs := pieceWords (bdFormat l.head) (bdGscale l.head) (s.rbs (stripeAddr l.stripe) (2 * n)) n
          let ts := (xs.zip cs).map (fun p => fAdd p.1 p.2)
          if me = 0 then
            if !s.accReady e.layer bead piece round then s
            else
              let s := ((s.dropLanding l).accumulate home k bead piece round first ts).retirePiece
              (s.bump (F.CHAIN_CNT_COUNT l.port 3) 1).bump (F.GRAD_CNT_COUNT 2) 1
          else
            match l.cipher with
            | none => s
            | some a => s.codecStaged s.codesPieces ⟨.codec, 8192 + l.port⟩ (s.rbs (stripeAddr l.stripe) 512) fun s =>
              ((s.sendPiece home e path last me piece round k (bdOrigin l.head) ts a l.stripe (s.heldAt a)).dropLand l).bump (F.GRAD_CNT_COUNT 2) 1
    | _, _ => s)

/-- GRAD_LATE (R216): the landing copy of an index is a piece whose adding visit here has waited LATE_WINDOW: its ciphertext goes on unchanged. At the home it
retires without the home's contribution: DEDUCED. -/
def execGradLate (i : Nat) (s : State) : Res :=
  .next (match s.chain.landings[i]? with
    | none => s
    | some l =>
      let bead := bdWeight l.head
      let round := bdRound l.head
      let piece := bdPiece l.head
      match s.findBead bead with
      | none => s
      | some (home, k, e) =>
        let c := (s.contrib bead round).getD ⟨bead, round, 65, 0, [], [], 0x1FF, []⟩
        if bdKind l.head ≠ 1 ∨ s.rf F.GRAD_LATE_WINDOW_TICKS = 0 ∨ c.whole then s
        else
          let path := s.beadPath (s.servedBy home) (b2n e.west)
          let me := landsAt path (s.rank s.pos)
          let (first, n) := pieceRange e.elems (s.useLen e) piece
          let note := fun (s : State) =>
            let s := s.setContrib { c with late := piece :: c.late }
            let s := (s.bump (F.GRAD_CNT_COUNT 3) 1).raise F.GRAD_ERR_LATE
            let s := s.event 0x0700 srcHub bead round piece (s.rf F.GRAD_CFG_LATE_POLICY)
            s.variance 0x04 0x1FF bead
          if me = 0 then
            if !l.checked || !s.accReady e.layer bead piece round then s
            else
              let xs := pieceWords (bdFormat l.head) (bdGscale l.head) (s.rbs (stripeAddr l.stripe) (2 * n)) n
              note ((((s.dropLanding l).accumulate home k bead piece round first xs).retirePiece).bump (F.CHAIN_CNT_COUNT l.port 3) 1)
          else
            match l.cipher with
            | none => s
            | some a =>
              let u := s.storedBead (stripeAddr a)
              note (((s.dropLand l).sendBead (nth path me (0, 0)).2
                (bdOn u (1 - (nth path me (0, 0)).2)) (s.heldAt a)).bump (F.GRAD_CNT_COUNT 1) 1))

end Sys2Proof.Machine
end

