-- ==== Sys2Proof/Machine/Cameo.lean ====
section
/-! DEFINITION. Cameos: what a sender sends, what a holder keeps, how a module is restored (R56, R237 to R245). -/

namespace Sys2Proof.Machine

/-- Replace the Cameo state. -/
def State.setCameo (s : State) (c : CameoX) : State := { s with health := { s.health with cameo := c } }

/-! ### Content keys in use (R431) -/

/-- The shard whose committed image this module holds, for its proxied position or for the member that sends to it. -/
def State.heldShard (s : State) : Option Shard :=
  if s.flag F.HEALTH_CAMEO_STATUS_HELD_VALID then
    let sender := s.members.find? (fun p => p != s.pos && s.holderOf s.chain.out p == some s.pos)
    let pos := if s.flag F.CHAIN_PROXY_ACTIVE then s.rf F.CHAIN_PROXY_FOR_POS else sender.getD s.pos
    let slot := s.rf F.HEALTH_CAMEO_STATUS_IMAGE_SLOT
    some ⟨pos, s.cameoPart slot 0, s.cameoPart slot 1, s.entries pos⟩
  else none

/-- The stored Beads of a shard that name key slot k; where no Bead has been stored, VERSION reads 0. -/
def State.namesKey (s : State) (h : Shard) (k : Nat) : Nat :=
  let at1 := fun (a : Nat) => if s.rle a 2 ≠ 0 ∧ s.rle (a + 0x1E) 1 = k then 1 else 0
  ((List.range h.beads.length).map (fun i => at1 (s.workAt h i) + at1 (s.srcAt h i))).sum

/-- LOCKET.KEY_USE counts the stored Beads that name each slot (R431). -/
def State.showKeyUse (s : State) : State :=
  let l := s.ownShard :: s.heldShard.toList
  [0, 1].foldl (fun (s : State) k => s.wf (F.LOCKET_KEY_USE_COUNT k) ((l.map (fun h => s.namesKey h k)).sum)) s

/-! ### Sending (R237 to R239) -/

/-- The holder of this module's Cameo, where the arc has one (R237, R241): an arc of length 1 takes none. -/
def State.cameoHolder (s : State) : Option Nat := if s.arcLen ≤ 1 then none else s.holderOf s.chain.out s.pos

/-- The member whose Cameo this module holds. -/
def State.cameoSender (s : State) : Option Nat :=
  s.members.find? (fun p => p != s.pos && s.holderOf s.chain.out p == some s.pos)

/-- Whether this step, a training step, would carry an image (R239). -/
def State.imageStep (s : State) : Bool :=
  let i := s.rf F.HEALTH_CAMEO_CFG_INTERVAL
  decide (i ≠ 0) && !s.evaluates && s.rf F.CHAIN_STEP_STEP % i == 0

/-- Send one chunk of a part (R238). -/
def State.sendChunk (s : State) (restore : Bool) (resent target part index off : Nat) (data : List Byte) : State :=
  let raw := pad512 data
  let (payload, coded, s) := s.codeBead (decide (2 ≤ part ∧ part ≤ 4) && s.flag F.CODEC_CFG_CAMEO) raw
  let step := s.rf F.CHAIN_STEP_STEP
  let fixed := bdHead (s.rf F.CHAIN_BEAD_VER_ACTIVE) 0 (if restore then 4 else 3) (3 * 2 ^ 30 + part * 2 ^ 27 + index) 0 0 off payload.length s.pos
    (s.rf F.CHAIN_ARC_ARC_ID) s.locket.encSlot (b2n coded) step (s.rf F.SETUP_IDENT_MODULE_ID) (if restore then 0xFFFD else 0xFFFE) 0
  match s.sealBead fixed payload with
  | none => s
  | some u =>
    let c := s.health.cameo
    let s := if part < 4 ∨ restore then s else s.setCameo { c with kept := (part, u) :: c.kept.filter (fun e => e.1 != part) }
    s.sendTo u step 0xFFFF 0 resent target

/-- Send a chunk of the sender's own Cameo and count it. -/
def State.sendCameo (s : State) (part index off : Nat) (data : List Byte) : State :=
  match s.cameoHolder with
  | none => s
  | some h =>
    let c := s.health.cameo
    let n := SMap.get (fun _ => 0) c.sent part
    (s.setCameo { c with sent := if part < 4 then SMap.set (fun _ => 0) c.sent part (n + 1) else c.sent }).sendChunk false 0 h part index off data

/-- The stored Beads of a shard's part 0 or 1 as chunk data: whole stripes. -/
def State.chunkAt (s : State) (a : Nat) : List Byte := s.rbs a (beadStripes ((s.storedBead a).length - 80) * 512)

/-- Send Bead k of the own shard: its working copy and its source copy as they stand (R239). -/
def State.cameoBead (s : State) (k : Nat) : State :=
  let h := s.ownShard
  let w := s.workAt h k
  let v := s.srcAt h k
  (s.sendCameo 0 k ((w - h.work) / 512) (s.chunkAt w)).sendCameo 1 k ((v - h.src) / 512) (s.chunkAt v)

/-- Chunks of 1 MiB of this module's own parts 2 and 3: its CARRY region, and the used extent of its Charm region (R217, R237, R261). -/
def State.partChunks (s : State) (p : Nat) : Nat :=
  if p = 3 then s.rf F.CHARM_REGION_USED_GIB * 1024 else s.rf (F.GRAD_REGION_SIZE_GIB 3) * 1024

/-- Send part 2 or 3 in chunks of 1 MiB: the CARRY region, the Charm adapters (R237). -/
def State.cameoRegion (s : State) (p : Nat) : State :=
  let base := (if p = 2 then s.rf (F.GRAD_REGION_BASE_GIB 3) else s.rf F.CHARM_REGION_BASE_GIB) * 2 ^ 30
  (List.range (s.partChunks p)).foldl (fun (s : State) i => s.sendCameo p i (i * 2048) (s.rbs (base + i * 1048576) 1048576)) s

/-- Part 3 goes once the host has raised CHARM.CLASP's UPD Clasp to HO_RECORDS (R260). -/
def State.charmsUpdated (s : State) : Bool := decide (s.rf F.CHARM_HO_RECORDS_COUNT ≤ s.claspValue (s.rf F.CHARM_CLASP_UPD))

/-- After DONE: part 2, and part 3 where the host has finished with it (R239, R260). -/
def State.cameoParts (s : State) : State :=
  let s := s.cameoRegion 2
  if s.charmsUpdated then s.cameoRegion 3 else s

/-- The presented map (R323): two bytes of each logical core, the rest 0. -/
def State.presentedMap (s : State) : List Byte :=
  (List.range 320).flatMap (fun m => natLe (match s.physOf m with | some n => s.rf (F.CORE_COLMAP_WIDTH n) + 128 | none => 0) 2) ++
    List.replicate 384 0#8

/-- The Setting hash, as SETUP.HASH holds it (R399, R415). -/
def State.settingHash (s : State) : List Byte := (List.range 8).flatMap (fun i => natLe (s.rf (F.SETUP_HASH_HASH i)) 4)

/-- Bytes with a list put in at an offset. -/
def putAt (l : List Byte) (o : Nat) (x : List Byte) : List Byte := l.take o ++ x ++ l.drop (o + x.length)

/-- The state record (R240). The EWMA and its count are those to be committed at item 11 of this step. -/
def State.stateRecord (s : State) : List Byte :=
  let (e, n) := match s.health.pending with
    | some (e, n, _) => (e.toNat, n.toNat)
    | none => (s.rf F.HEALTH_EWMA_VALUE, s.rf F.HEALTH_EWMA_N_N)
  let top := putAt (List.replicate 0x1000 0#8) 0 (natLe 0x0100 2 ++ natLe 0 2 ++ natLe (s.rf F.CHAIN_STEP_STEP) 4 ++ natLe s.setup.seed.toNat 8 ++
    natLe s.setup.stream.toNat 2 ++ natLe 0 2 ++ natLe (s.rf F.LOCKET_FW_VERSION_VERSION) 4 ++ natLe 0 8 ++ s.settingHash ++
    sha256 s.presentedMap ++ natLe e 4 ++ natLe n 4 ++ natLe (s.rf F.FMT_CLEAN_RUN_RUN) 4)
  let table := (List.range 131072).flatMap (fun i => natLe (s.rd (0x01880000 + 4 * i)).toNat 4)
  let body := top ++ table ++ List.replicate (0xFFFFC - 0x1000 - 524288) 0#8
  body ++ natLe (crc32c body) 4

/-- The commit record (R240). -/
def State.commitRecord (s : State) (slot : Nat) (restamp : Bool) : List Byte :=
  let n := fun p => if restamp then 0 else SMap.get (fun _ => 0) s.health.cameo.sent p
  let body := natLe 0x0100 2 ++ natLe (slot + 2 * b2n restamp) 1 ++ natLe 0 1 ++ natLe (s.rf F.CHAIN_STEP_STEP) 4 ++
    (List.range 4).flatMap (fun p => natLe (n p) 4) ++ List.replicate (0x1FC - 24) 0#8
  body ++ natLe (crc32c body) 4

/-- The slot the next image goes to, as the sender knows it: the other one than its last commit named. DESIGN CHOICE: nothing tells a
sender of a refused commit. -/
def State.nextImage (s : State) : Nat := match s.health.cameo.slot with | some k => 1 - k | none => 0

/-- Item 10 of R23 at a sender (R239, R241): after an image, part 3 if the host was not yet done with it at DONE, the state record and the commit record, held back under
VERDICT.HOLD; after a step that wrote none of the parts, a restamp, if the last commit was of the step before. A step without GCLOSE carries no image, whatever
its number (R239 lists it). Part 3 goes only once both DONE and the UPD count have come (R260); an image that still lacks it is not committed: DESIGN CHOICE, since
only a graph that breaks R260 gets here. -/
def State.cameoClose (s : State) : State :=
  if s.cameoHolder.isNone ∨ s.rf F.HEALTH_CAMEO_CFG_INTERVAL = 0 then s
  else
    let step := s.rf F.CHAIN_STEP_STEP
    let c := s.health.cameo
    let image := s.imageStep && s.grad.closed
    let part3 := decide (0 < s.partChunks 3) && SMap.get (fun _ => 0) c.sent 3 == 0
    let restamp := !image && !c.wrote && s.rf F.HEALTH_SENT_STEP_STEP + 1 == step
    if (!image && !restamp) || (image && part3 && !(s.rf F.GRAD_STATUS_PHASE == 5 && s.charmsUpdated)) then s
    else if s.flag F.HEALTH_VERDICT_HOLD then (s.raise F.HEALTH_ERR_CAMEO_HELD).event 0x0803 srcHub step 0 0 0
    else
      let s := if image && part3 then s.cameoRegion 3 else s
      let slot := if image then s.nextImage else c.slot.getD 0
      let rec0 := s.commitRecord slot restamp
      let s := (s.sendCameo 4 0 0 s.stateRecord).sendCameo 5 0 0 rec0
      (s.setCameo { s.health.cameo with slot := some slot }).wf F.HEALTH_SENT_STEP_STEP step

/-! ### Holding (R237, R241 to R243) -/

/-- The image slot and the state record that are not committed. -/
def State.freeImage (s : State) : Nat := if s.flag F.HEALTH_CAMEO_STATUS_HELD_VALID then 1 - s.rf F.HEALTH_CAMEO_STATUS_IMAGE_SLOT else 0
def State.freeState (s : State) : Nat := if s.flag F.HEALTH_CAMEO_STATUS_HELD_VALID then 1 - s.rf F.HEALTH_CAMEO_STATUS_STATE_SLOT else 0

/-- Store a chunk of the west neighbour's Cameo (R237, R241). -/
def State.keepChunk (s : State) (part index off : Nat) (raw : List Byte) : State :=
  let c := s.health.cameo
  if part < 4 then
    let s := s.store (s.cameoPart s.freeImage part + off * 512) raw
    (s.setCameo { c with got := ((part, index) :: c.got).eraseDups }).wf F.HEALTH_CAMEO_STATUS_RECEIVING 1
  else if part = 4 then s.store (s.cameoRecords + s.freeState * 1048576) (raw.take 1048576)
  else s.setCameo { c with commit := some (raw.take 512) }

/-- Why a commit record is refused, or none (R241): 1 its CRC, 2 the state record's, 3 the chunk counts of the named slot. -/
def State.commitReason (s : State) (rec0 state : List Byte) (counted : Bool) : Option Nat :=
  let got := fun p => (s.health.cameo.got.filter (fun g => g.1 == p)).length
  let restamp := bit (leAt rec0 2 1) 1
  let slot := leAt rec0 2 1 % 2
  if leAt rec0 0x1FC 4 ≠ crc32c (rec0.take 0x1FC) then some 1
  else if leAt state 0xFFFFC 4 ≠ crc32c (state.take 0xFFFFC) then some 2
  else if restamp then (if s.flag F.HEALTH_CAMEO_STATUS_HELD_VALID ∧ slot = s.rf F.HEALTH_CAMEO_STATUS_IMAGE_SLOT then none else some 3)
  else if slot ≠ s.freeImage ∨ (counted ∧ !(List.range 4).all (fun p => leAt rec0 (8 + 4 * p) 4 == got p)) then some 3
  else none

/-- The home Beads of a round that a shard injects, in shard order. -/
def State.roundBeads (s : State) (r : Nat) (e : List Byte) (h : Shard) : List (Nat × Nat × Nat) :=
  ((List.range h.beads.length).filter (fun k => match h.beads[k]? with | some b => s.inRound b e | none => false)).map (fun k => (r, h.pos, k))

/-- A proxy that begins to serve within a step injects the Beads of the rounds that have started without it (R56). -/
def State.queueProxied (s : State) : State :=
  match s.proxyShard with
  | none => s
  | some h =>
    if stepDrain < s.rf F.FRONT_STATUS_STEP then s
    else
      let l := (List.range s.chain.round).flatMap (fun r => match s.roundEntry r with | some e => s.roundBeads r e h | none => [])
      { s with chain := { s.chain with waiting := s.chain.waiting ++ l } }

/-- HELD_STEP, which CHAIN.PROXY_STEP equals while this module is proxy (R247). -/
def State.setHeld (s : State) (step : Nat) : State :=
  let s := s.wf F.HEALTH_HELD_STEP_STEP step
  if s.flag F.CHAIN_PROXY_ACTIVE then
    let was := s.flag F.CHAIN_PROXY_CAMEO_CURRENT
    let now := step + 1 == s.rf F.CHAIN_STEP_STEP
    let s := (s.wf F.CHAIN_PROXY_STEP_CAMEO_STEP step).wflag F.CHAIN_PROXY_CAMEO_CURRENT now
    if now && !was then s.queueProxied else s
  else s

/-- Commit the named slot and the new state record, or keep what is held (R241). The code of the failing check is a free value. -/
def State.decideCommit (s : State) (rec0 : List Byte) (counted : Bool) : State :=
  let state := s.rbs (s.cameoRecords + s.freeState * 1048576) 1048576
  let step := leAt rec0 4 4
  match s.commitReason rec0 state counted with
  | none =>
    let kept := s.freeState
    let s := s.store (s.cameoRecords + 2 * 1048576) rec0
    let s := (s.wf F.HEALTH_CAMEO_STATUS_IMAGE_SLOT (leAt rec0 2 1 % 2)).wf F.HEALTH_CAMEO_STATUS_STATE_SLOT kept
    let s := if bit (leAt rec0 2 1) 1 then s
      else s.setCameo { s.health.cameo with counts := (List.range 4).map (fun p => leAt rec0 (8 + 4 * p) 4) }
    (s.wf F.HEALTH_CAMEO_STATUS_HELD_VALID 1).setHeld step
  | some _ =>
    let (r, s) := s.freeWord 32
    (s.raise F.HEALTH_ERR_CAMEO_INCOMPLETE).event 0x0804 srcHub step (s.cameoSender.getD 0) r.toNat 0

/-- CAMEO_COMMIT (R241): the commit record that has landed is checked. -/
def execCameoCommit (s : State) : Res :=
  .next (match s.health.cameo.commit with
    | none => s
    | some rec0 =>
      let s := s.decideCommit rec0 true
      (s.setCameo { s.health.cameo with commit := none, got := [] }).wf F.HEALTH_CAMEO_STATUS_RECEIVING 0)

/-- CAMEO_REWRITE_CHECK (R242): the host has signalled the restore Clasp. Chunk counts have nothing landed to match, so only the CRCs and the named slot
are checked: DEDUCED. -/
def execCameoRewriteCheck (s : State) : Res :=
  .next (if s.claspValue (s.rf F.HEALTH_CAMEO_CFG_RESTORE_CLASP) = 0 then s
    else s.decideCommit (s.rbs (s.cameoRecords + 2 * 1048576) 512) false)

/-! ### Restoring (R244, R245, R59) -/

/-- Send the committed Cameo to a position (R244): parts 0 to 3 as the committed image counts them, the state record, the commit record. -/
def State.sendRestore (s : State) (target : Nat) : State :=
  let slot := s.rf F.HEALTH_CAMEO_STATUS_IMAGE_SLOT
  let l := s.entries target
  let h : Shard := ⟨target, s.cameoPart slot 0, s.cameoPart slot 1, l⟩
  let beads := fun (s : State) (p : Nat) (at0 : Nat → Nat) (base : Nat) => (List.range l.length).foldl (fun (s : State) k =>
    s.sendChunk true 0 target p k ((at0 k - base) / 512) (s.chunkAt (at0 k))) s
  let s := beads (beads s 0 (s.workAt h) h.work) 1 (s.srcAt h) h.src
  let part := fun (s : State) (p : Nat) => (List.range (nth s.health.cameo.counts p 0)).foldl (fun (s : State) i =>
    s.sendChunk true 0 target p i (i * 2048) (s.rbs (s.cameoPart slot p + i * 1048576) 1048576)) s
  let s := part (part s 2) 3
  let s := s.sendChunk true 0 target 4 0 0 (s.rbs (s.cameoRecords + s.rf F.HEALTH_CAMEO_STATUS_STATE_SLOT * 1048576) 1048576)
  ((s.sendChunk true 0 target 5 0 0 (s.rbs (s.cameoRecords + 2 * 1048576) 512)).wf F.HEALTH_CAMEO_STATUS_RESTORING 1).showRestoring

/-- Store a chunk of a restore in the region it belongs to (R244). -/
def State.restoreChunk (s : State) (part index off step : Nat) (raw : List Byte) : State :=
  let h := s.ownShard
  let base := if part = 0 then h.work else if part = 1 then h.src else if part = 2 then s.rf (F.GRAD_REGION_BASE_GIB 3) * 2 ^ 30
    else s.rf F.CHARM_REGION_BASE_GIB * 2 ^ 30
  let s := if part < 4 then s.store (base + off * 512) raw else s
  let c := s.health.cameo
  s.setCameo (if part < 4 then { c with back := ((part, index) :: c.back).eraseDups, step := step }
    else if part = 4 then { c with state := some (raw.take 1048576), step := step } else { c with backCommit := some (raw.take 512), step := step })

/-- Whether the commit record of the restore has come, and every chunk it counts. A restamp counts none, so every chunk of the own shard is looked for:
DEDUCED. -/
def State.restoreWhole (s : State) : Bool :=
  let c := s.health.cameo
  let got := fun p => (c.back.filter (fun g => g.1 == p)).length
  match c.state, c.backCommit with
  | some _, some r =>
    if bit (leAt r 2 1) 1 then decide (s.setup.beads.length ≤ got 0) && decide (s.setup.beads.length ≤ got 1)
    else (List.range 4).all (fun p => decide (leAt r (8 + 4 * p) 4 ≤ got p))
  | _, _ => false

/-- Forget the chunks of a restore, so that it can start again. -/
def State.restartRestore (s : State) : State :=
  let s := s.setCameo { s.health.cameo with back := [], state := none, backCommit := none }
  { s with chain := { s.chain with seen := s.chain.seen.filter (fun e => e.key.head? != some 4) } }

/-- A word as the defined fields of a register hold it: reserved bits are 0 (R10). -/
def definedBits (x v : Nat) : Nat :=
  match rowOf x with
  | none => 0
  | some r => r.fields.foldl (fun a f => insertBits a f.lo f.width (bits v f.lo f.width)) 0

/-- Apply a restore whose chunks have all come, at item 10 (R244): the format table, the EWMA and CLEAN_RUN. False where the state record fails its
CRC: the restore starts again. -/
def State.applyRestore (s : State) (rollback : Bool) : State × Bool :=
  match s.health.cameo.state with
  | none => (s, false)
  | some r =>
    if leAt r 0xFFFFC 4 ≠ crc32c (r.take 0xFFFFC) then ((s.raise F.HEALTH_ERR_RESTORE_FAIL).restartRestore, false)
    else
      let s := (List.range 131072).foldl (fun (s : State) i =>
        s.wr (0x01880000 + 4 * i) (BitVec.ofNat 32 (definedBits (0x01880000 + 4 * i) (leAt r (0x1000 + 4 * i) 4)))) s
      let s := ((s.wf F.HEALTH_EWMA_VALUE (leAt r 0x60 4)).wf F.HEALTH_EWMA_N_N (leAt r 0x64 4)).wf F.FMT_CLEAN_RUN_RUN (leAt r 0x68 4)
      let from0 := (s.holderOf s.chain.out s.pos).getD 0
      let s := s.event 0x0805 srcHub (leAt r 4 4) from0 (b2n rollback) 0
      (s.restartRestore, true)

/-- The items in which a replacement differs from the Cameo record: firmware version, presented map, Setting hash, one event each (R58). -/
def State.joinDiffs (s : State) : State :=
  match s.health.cameo.state with
  | none => s
  | some r =>
    let note := fun (s : State) (b : Bool) (item : Nat) => if b then s.event 0x010E srcHub item 0 0 0 else s
    let s := note s (leAt r 0x14 4 != s.rf F.LOCKET_FW_VERSION_VERSION) 0
    let s := note s (((r.drop 0x40).take 32) != sha256 s.presentedMap) 1
    note s (((r.drop 0x20).take 32) != s.settingHash) 2

/-! ### The host's bits -/

/-- VERDICT_HOLD_SET (R242): a write of VERDICT with HOLD set withholds this step's commit. -/
def execVerdictHoldSet (v : Word) (s : State) : Res := .next (if bit v.toNat 2 then s.wf F.HEALTH_VERDICT_HOLD 1 else s)

/-- ROLLBACK_SET (R245). -/
def execRollbackSet (v : Word) (s : State) : Res := .next (if bit v.toNat 0 then s.wf F.HEALTH_CTRL_ROLLBACK 1 else s)

/-- SKIP_SET (R118). -/
def execSkipSet (v : Word) (s : State) : Res := .next (if bit v.toNat 1 then s.wf F.FMT_VERDICT_SKIP 1 else s)

end Sys2Proof.Machine
end

