-- ==== Sys2Proof/Machine/Chain.lean ====
section
/-! DEFINITION. The Chain: rounds and injection, arriving Beads, tag checks, resends, version negotiation (chapter 2). -/

namespace Sys2Proof.Machine

/-- Replace the Chain layer's state. -/
def State.setChain (s : State) (c : ChainX) : State := { s with chain := c }

/-! ### Rounds and injection (R43) -/

/-- ROUND_START (R43, R70): the next round of the list starts once every home Bead of the last has been injected, and none after GCLOSE (R218); its own shard goes
first, then the one a proxy serves: DESIGN CHOICE. Slots that are in the state the round requires go on to it. -/
def execRoundStart (s : State) : Res :=
  .next (match s.roundEntry s.chain.round with
    | none => s
    | some e =>
      if s.grad.closed || !s.chain.waiting.isEmpty || !s.chain.fetching.isEmpty || s.rf F.CHAIN_MEMBER_STATE ≠ memMember ||
          decide (stepDrain < s.rf F.FRONT_STATUS_STEP) then s
      else
        let r := s.chain.round
        let s := s.setChain { s.chain with round := r + 1, waiting := s.shards.flatMap (s.roundBeads r e) }
        let s := if roundDir e = 1 ∧ s.rf F.GRAD_STATUS_PHASE = 0 then s.wf F.GRAD_STATUS_PHASE 1 else s
        (s.roundSlots e).foldl State.roundTakes s)

/-- A tag failure that cannot be mended (R49, R50): the tasks that wait for the Bead abort with a Bead-integrity fault, then the step aborts. R153 lists no code for
that fault: DESIGN CHOICE, a free value among its codes. -/
def State.tagFatal (s : State) (p : Nat) (head : List Byte) : State :=
  let s := (s.raise (F.CHAIN_ERR_BAD_TAG_FATAL p)).event 0x0101 (srcPort p) (bdId head) (bdOrigin head) (bdRound head) (bdSeq head)
  (s.faultWaiters (Config.landingClasp (bdId head) (bdRound head) % 65536) (freeCause Config.beadIntegrityCause)).raiseAbort 4

/-- A home Bead fails its own check at injection: its Cameo copy is asked for (R50). -/
def State.fetchCameo (s : State) (p home : Nat) (u : List Byte) (entry : Nat × Nat × Nat) : State :=
  match s.cameoHolder with
  | some h =>
    if home = s.pos then
      let s := s.setChain { s.chain with fetching := s.chain.fetching ++ [entry] }
      s.sendCtrl (s.chainPort h) 4 (s.rf F.SETUP_IDENT_STAGE * 32 + h) (natLe (bdId u) 4 ++ natLe (bdContent u) 4)
    else s.tagFatal p u
  | none => s.tagFatal p u

/-- A home Bead goes out from its stripes, and its own landing copy is ready (R38, R43). -/
def State.injectHome (s : State) (p : Nat) (e : BeadEntry) (back : Bool) (stripe : Nat) (u pt : List Byte) : State :=
  let l : Landing := ⟨p, u.take 64, bdTag u, stripe, none, true, 0, s.readersOf u⟩
  let s := (((s.addLanding l).store (stripeAddr stripe) pt).bump (F.CHAIN_CNT_COUNT p 2) 1).signalLanding u
  let s := if s.arcLen ≤ 1 then s.freeOwner (injectOwner u) else s.injectBead u (some (injectOwner u))
  if back then s.wf F.GRAD_PENDING_PIECES (s.rf F.GRAD_PENDING_PIECES + piecesOf e.elems (s.useLen e)) else s

/-- The fields of a key and value block (R77): those of weight Beads where the rule names no other. -/
def State.kvHead (s : State) (b : KvBlock) (payload : Nat) (coded : Bool) : List Byte :=
  let f := fun o w => s.rf (slotFld b.slot o 0 w)
  let id := 2 ^ 31 + b.slot % 1024 * 2 ^ 20 + b.layer % 4096 * 2 ^ 8 + b.group % 128 * 2 + b2n b.values
  let h := bdHead (s.rf F.CHAIN_BEAD_VER_ACTIVE) b.format 2 id b.layer 0 (f 8 16 * 2 ^ 16 + f 0x1A 8 % 32) payload s.pos (s.rf F.CHAIN_ARC_ARC_ID)
    s.locket.encSlot (b2n coded) (s.rf F.CHAIN_STEP_STEP) (s.rf F.SETUP_IDENT_MODULE_ID) b.round 0
  h.take 0x14 ++ natLe b.scaleOff 4 ++ natLe b.scaleLen 4 ++ h.drop 0x1C

/-- A key and value block that the stored graph schedules goes out (R77): coded where CFG.KV is set, encrypted, the next of its round in SEQ. One that carries
gradients goes to the block's origin. It is staged as an injected Bead is: DEDUCED. -/
def State.injectKv (s : State) (b : KvBlock) : State :=
  let coded := s.flag F.CODEC_CFG_KV && s.rf F.CHAIN_BEAD_VER_ACTIVE == 0x0101
  s.codecStaged coded ⟨.codec, 16384 + b.slot⟩ b.data fun s =>
    let (payload, coded, s) := s.codeBead coded (pad512 b.data)
    match s.sealBead (s.kvHead b payload.length coded) payload with
    | none => s
    | some u =>
      let seq := SMap.get (fun _ => 0) s.chain.kvNext b.round
      let s := s.setChain { s.chain with kvNext := SMap.set (fun _ => 0) s.chain.kvNext b.round (seq + 1) }
      let u := bdRoute u (s.rf F.CHAIN_STEP_STEP) b.round seq (3 * b2n b.west) 0 s.pos (b.back.getD 0xFF)
      let (p, turned) := s.exitPort (bdInjected u)
      State.sendStaged (injectOwner u) p (s.outward u) [7] (if turned then s.bump (F.CHAIN_CNT_COUNT p 14) 1 else s)

/-- BEAD_INJECT (R43, R45, R77): a key and value block, or the first home Bead that waits, is injected. While the allocator cannot hold its copies, or while its home is
not served (R56), a home Bead waits. One whose stored words are poisoned (R185) fails its own check: DEDUCED. -/
def execBeadInject (s : State) (kv : Option KvBlock := none) (m : Upset := .none) : Res :=
  .next (match kv, s.chain.waiting with
    | some b, _ => if s.rf F.CHAIN_MEMBER_STATE = memMember ∧ 1 < s.arcLen then s.injectKv b else s
    | none, [] => s
    | none, (r, home, k) :: rest =>
      match s.shardOf home with
      | none => s
      | some h =>
        match h.beads[k]? with
        | none => s
        | some e =>
          let d := b2n e.west
          let u := bdRoute (s.storedBead (s.workAt h k)) (s.rf F.CHAIN_STEP_STEP) r k (3 * d) 0 s.pos 0xFF
          let p := if s.arcLen ≤ 1 then 0 else (s.exitPort d).1
          let o := injectOwner u
          match s.request 7 (beadStripes (bdLen u)) o with
          | (.granted b, s) =>
            match s.request (2 + p) (s.landStripes (2 + p) u) (landOwner u) with
            | (.granted a, s) =>
              let s := ((s.meet m).store (stripeAddr b) u).setChain { s.chain with waiting := rest }
              let poisoned := s.poisonedAt (s.workAt h k) u.length
              match (if poisoned then none else s.openBead (u.take 64) (bdPayload u) (bdTag u)) with
              | none => ((s.freeOwner o).freeOwner (landOwner u)).fetchCameo p home u (r, home, k)
              | some pt => s.injectHome p e (match s.roundEntry r with | some x => roundDir x == 1 | none => false) a u pt
            | (_, s) => s
          | (_, s) => s)

/-! ### The order of arrival (rows 6 and 7 of R48, R209, R238) -/

/-- The shard indices a key expects (R48): those of the origin's Beads injected in a direction in a round. -/
def State.expected (s : State) (u : List Byte) : List Nat :=
  match s.roundEntry (bdRound u) with
  | none => []
  | some r =>
    let l := s.entries (bdHome u)
    (List.range l.length).filter (fun k => match l[k]? with | some e => e.west == (bdInjected u == 1) && s.inRound e r | none => false)

/-- The place on its path at which a gradient piece arrives here (R210): the path and the place; none for a Bead the arc does not have. -/
def State.piecePlace (s : State) (u : List Byte) : Option (List (Nat × Nat) × Nat) :=
  match s.findBead (bdWeight u) with
  | none => none
  | some (home, _, e) =>
    let path := s.beadPath (s.servedBy home) (b2n e.west)
    some (path, lastLanding path s.arcLen - (bdHop u + 1))

/-- The visit of a Bead here (R48, R209). -/
def State.visit (s : State) (u : List Byte) : Nat :=
  let me := s.rank s.pos
  if bdKind u = 1 then
    match s.piecePlace u with
    | some (path, i) => ((path.drop (i + 1)).filter (fun e => e.1 == me)).length
    | none => 0
  else visitOf (s.route (bdOrigin u) (bdInjected u)) me (bdHop u)

/-- The key of a Bead's sequence. The home stands in a weight Bead's key beside the origin, so that a proxy's two shards keep two sequences:
DEDUCED. -/
def State.seqKey (s : State) (u : List Byte) : List Nat :=
  if bdKind u = 0 then [0, bdOrigin u, bdHome u, bdRound u, s.visit u, bdInjected u]
  else if bdKind u = 1 then [1, bdHome u, bdRound u, s.visit u]
  else if bdKind u = 2 then [2, bdOrigin u, bdRound u, s.visit u]
  else [bdKind u, bdOrigin u, bdPart u]

/-- Whether a list of numbers comes before another in lexicographic order, or equals it. -/
def lexLe : List Nat → List Nat → Bool
  | a :: x, b :: y => decide (a < b) || (a == b && lexLe x y)
  | [], _ => true
  | _, [] => false

/-- What a sequence says of a Bead: 6 duplicate, 7 out of order, 8 as expected; and the sequence after it. -/
def State.seqRow (s : State) (u : List Byte) : Nat × SeqSeen :=
  let key := s.seqKey u
  let seen := s.chain.seen.find? (fun e => e.key == key)
  if bdKind u = 0 ∨ bdKind u = 2 then
    let x := bdSeq u
    let all := if bdKind u = 0 then s.expected u else List.range 65536
    let n := match seen with | some e => e.next.headD 0 | none => all.headD 0
    let skipped := match seen with | some e => e.skipped | none => []
    let after := [(all.find? (fun k => decide (x < k))).getD 65536]
    if x < n then (if skipped.contains [x] then (8, ⟨key, [n], skipped.erase [x]⟩) else (6, ⟨key, [n], skipped⟩))
    else if x = n then (8, ⟨key, after, skipped⟩)
    else (7, ⟨key, after, skipped ++ (all.filter (fun k => decide (n ≤ k) && decide (k < x))).map (fun k => [k])⟩)
  else if bdKind u = 1 then
    let x := [bdSeq u, bdPiece u]
    match seen with
    | some e => if lexLe x e.next then (6, e) else (8, ⟨key, x, []⟩)
    | none => (8, ⟨key, x, []⟩)
  else
    let x := [bdIndex u, bdShard u]
    match seen with
    | some e =>
      let n := e.next.headD 0 + 1
      if lexLe x e.next then (if e.skipped.contains [bdIndex u] then (8, ⟨key, e.next, e.skipped.erase [bdIndex u]⟩) else (6, e))
      else if n < bdIndex u then
        (7, ⟨key, x, e.skipped ++ ((List.range (bdIndex u)).filter (fun k => decide (n ≤ k))).map (fun k => [k])⟩)
      else (8, ⟨key, x, e.skipped⟩)
    | none => if 0 < bdIndex u then (7, ⟨key, x, (List.range (bdIndex u)).map (fun k => [k])⟩) else (8, ⟨key, x, []⟩)

/-- Keep a sequence. -/
def State.putSeen (s : State) (e : SeqSeen) : State :=
  s.setChain { s.chain with seen := e :: s.chain.seen.filter (fun x => x.key != e.key) }

/-! ### An arriving Bead (R48) -/

/-- Whether this module is between items 4 and 11 of R23. -/
def State.betweenItems (s : State) : Bool := s.rf F.FRONT_STATUS_STEP == stepApply || s.rf F.FRONT_STATUS_STEP == stepAborted

/-- Whether a port carries transit for an arc (R52). -/
def State.transits (s : State) (p arc : Nat) : Bool := s.flag (F.CHAIN_STATUS_TRANSIT p) && s.transitArc p == arc

/-- The row of R48 that an arriving Bead meets: 0 stands for a Bead of the own arc at a module that is no member, 9 for a Bead of an arc this port carries
transit for, 12 for row 2's second case. -/
def State.beadRow (s : State) (p : Nat) (u : List Byte) : Nat :=
  let st := s.rf F.CHAIN_MEMBER_STATE
  let member := st == memMember || st == memHalted
  let mine := bdKind u == 4 && bdTarget u == s.pos
  let own := bdArc u == s.rf F.CHAIN_ARC_ARC_ID
  let now := s.rf F.CHAIN_STEP_STEP
  if !member && own && !mine then 0
  else if !beadOk (s.rf F.CHAIN_BEAD_VER_ACTIVE) u then 1
  else if !own then (if s.transits p (bdArc u) then 9 else 2)
  else if !s.members.contains (bdOrigin u) then 12
  else if s.hops ≤ bdHop u then 3
  else if !(mine && st != memMember) && (decide (bdStep u < now) || (bdStep u == now && s.betweenItems)) then 4
  else if !(mine && st != memMember) && decide (now < bdStep u) then 5
  else if bdResent u then 8
  else (s.seqRow u).1

/-- The class an arriving Bead came in. -/
def State.cameIn (s : State) (p : Nat) (u : List Byte) : Nat := s.beadClass p (bdKind u)

/-- The trace record of a Bead (R331). Whether a link retry preceded it is not kept: a free value. -/
def State.traceBead (s : State) (p : Nat) (u : List Byte) (dropped : Bool) : State :=
  let (r, s) := s.freeBelow 2
  s.trace 0x04 p (r + 2 * b2n dropped + 2 ^ 8 * bdKind u) (bdId u + 2 ^ 32 * bdRound u + 2 ^ 48 * bdSeq u) u.length (leNat ((bdTag u).take 4))

/-- An arrived Bead leaves the link's hands: its credits go back. -/
def State.doneBead (s : State) (p : Nat) (u : List Byte) : State := (s.takeUnit p (s.cameIn p u) u).returnCredits p (s.cameIn p u) u

/-- Drop a Bead that came in a class: neither landed nor forwarded, its credits returned, counted and flagged (R48). -/
def State.dropFrom (s : State) (p cls : Nat) (u : List Byte) (cnt : Nat) (err : Fld) : State :=
  ((((s.takeUnit p cls u).returnCredits p cls u).traceBead p u true).bump (F.CHAIN_CNT_COUNT p cnt) 1).raise err
def State.dropBead (s : State) (p : Nat) (u : List Byte) (cnt : Nat) (err : Fld) : State := s.dropFrom p (s.cameIn p u) u cnt err

/-- The SEQ values that a Bead out of order has passed over (row 7). -/
def State.gapOf (s : State) (u : List Byte) : Nat :=
  let before := match s.chain.seen.find? (fun e => e.key == s.seqKey u) with | some e => e.skipped.length | none => 0
  (s.seqRow u).2.skipped.length - before

/-- An event about an arriving Bead. -/
def State.beadEvent (s : State) (code p : Nat) (u : List Byte) (arg : Nat) : State :=
  s.event code (srcPort p) (bdId u) (bdOrigin u) arg 0

/-- What an accepted Bead is to this member: whether it lands here, whether it ends here, whether its ciphertext is kept (R44, R49, R210). A Bead with a
TARGET ends there: DEDUCED. The origin's own landing copy came with the injection (R43), so no later pass lands it again. -/
def State.beadRole (s : State) (u : List Byte) : Bool × Bool × Bool :=
  let me := s.rank s.pos
  let atEnd := decide (s.hops ≤ bdHop u + 1)
  if bdTarget u ≠ 0xFF then (let mine := bdTarget u == s.pos; (mine, mine || atEnd, false))
  else if bdKind u = 1 then
    match s.piecePlace u with
    | none => (false, atEnd, false)
    | some (path, i) => let adds := landsAt path me == i; (adds, adds, adds)
  else (bdOrigin u != s.pos && firstPass (s.route (bdOrigin u) (bdInjected u)) me == some (bdHop u), atEnd, false)

/-- A Bead's first copy is late where its consumer's wait has reached LATE_TICKS (R51). -/
def State.noteLate (s : State) (p : Nat) (u : List Byte) : State :=
  let key := (bdId u, bdRound u)
  if bdKind u = 0 ∧ s.chain.late.contains key then
    let s := s.setChain { s.chain with late := s.chain.late.erase key }
    (s.bump (F.CHAIN_CNT_COUNT p 12) 1).event 0x010D (srcPort p) (bdId u) (bdRound u) (Config.landingClasp (bdId u) (bdRound u) % 65536) 0
  else s

/-- The container of a coded Bead that lands is held until it has been decoded (R274). Its generation is known once the edge die has decrypted it. -/
def State.holdLanding (s : State) (u : List Byte) : State :=
  if bdCompressed u then match s.openBead (u.take 64) (bdPayload u) (bdTag u) with | some pt => s.keepCoded (landOwner u) pt | none => s
  else s

/-- Stripes of a Bead's ciphertext: a whole slot where a gradient piece's successor will take its place (R214). -/
def State.cipherStripes (s : State) (st : Nat) (u : List Byte) (keeps : Bool) : Nat :=
  if keeps then max (beadStripes (bdLen u)) (s.rf (F.CASKET_SLOT_STRIPES st)) else beadStripes (bdLen u)
/-- Accept a Bead (rows 7 and 8): land it and forward it, land it and retire it, or forward it only. While the allocator cannot hold its copies it stays
with the link (R45); a refused request drops it as malformed, the allocator's event standing for row 1's (R190). Its ciphertext's stripes are free once the
forwarded copy has left. -/
def State.acceptBead (s : State) (p : Nat) (u : List Byte) (row : Nat) (seen : Option SeqSeen) : State :=
  let (lands, ends, keeps) := s.beadRole u
  match s.request (rxStream p u) (s.cipherStripes (rxStream p u) u keeps) (cipherOwner u) with
  | (.granted a, s) =>
    match (if lands then s.request (landStream p u) (s.landStripes (landStream p u) u) (landOwner u) else (.granted 0, s)) with
    | (.waits, s) => s
    | (.refused, s) => (s.freeOwner (cipherOwner u)).dropBead p u 11 (F.CHAIN_ERR_MALFORMED p)
    | (.granted b, s) =>
      let s := (s.store (stripeAddr a) u).traceBead p u false
      let s := if lands then
          (s.store (stripeAddr b) (bdPayload u)).addLanding ⟨p, u.take 64, bdTag u, b, if keeps then some a else none, false, 0, s.readersOf u⟩ |>.holdLanding u
        else s
      let s := if lands then s.noteLate p u else s
      let s := match seen with | some e => s.putSeen e | none => s
      let s := s.bump (F.CHAIN_CNT_COUNT p (if row = 7 then 5 else 0)) 1
      let s := if bdKind u = 1 then s.bump (F.GRAD_CNT_COUNT 0) 1 else s
      let s := if ends then (if keeps then s else s.bump (F.CHAIN_CNT_COUNT p 3) 1)
        else (if bdKind u = 1 then s.bump (F.GRAD_CNT_COUNT 1) 1 else s).forwardBead p u (some (cipherOwner u))
      (if keeps || !ends then s else s.freeOwner (cipherOwner u)).doneBead p u
  | (.refused, s) => s.dropBead p u 11 (F.CHAIN_ERR_MALFORMED p)
  | (.waits, s) => s

/-! ### Transit (R53, R195) -/

/-- Room of a transit ring in stripes, and the Beads it holds, oldest first. -/
def State.ringRoom (s : State) (d : Nat) : Nat := s.rf (F.CASKET_TRANSIT_SIZE d) * 1024
def State.ringBeads (s : State) (d : Nat) : List (Nat × Nat) := if d = 0 then s.casket.transit0 else s.casket.transit1

/-- The stripe of a ring at which the next Bead of n stripes goes (R195): after the newest, or at the start where it would pass the end; none while it would reach
the oldest. -/
def State.ringAt (s : State) (d n : Nat) : Option Nat :=
  let size := s.ringRoom d
  match (s.ringBeads d).head?, (s.ringBeads d).getLast? with
  | some (old, _), some (a, k) =>
    let fin := a + k
    if old ≤ a then
      (if fin + n ≤ size then some fin else if n ≤ old then some 0 else none)
    else if fin + n ≤ old then some fin else none
  | _, _ => if n ≤ size then some 0 else none

/-- A transit Bead is written into the ring of its direction and goes on unchanged; its stripes are free once its last byte has left the other port. One that the ring
cannot hold stays with its own link (R53, R195). CNT[13] counts on the port it leaves by: R60 does not say which port, DESIGN CHOICE. -/
def State.passTransit (s : State) (p : Nat) (u : List Byte) (cls : Nat) : State :=
  let d := p
  let n := beadStripes (bdLen u)
  match s.ringAt d n with
  | none => s
  | some at0 =>
    let s := s.store (stripeAddr (s.rf (F.CASKET_TRANSIT_BASE d) * 1024 + at0)) u
    let s : State := { s with casket := if d = 0 then { s.casket with transit0 := s.casket.transit0 ++ [(at0, n)] }
                                        else { s.casket with transit1 := s.casket.transit1 ++ [(at0, n)] } }
    let s := s.sendHeld (1 - p) 4 u (bdStep u) false (some ⟨.transit, d * 2 ^ 32 + at0⟩)
    let s := (s.bump (F.CHAIN_CNT_COUNT (1 - p) 13) (ceilDiv u.length 1024))
    (s.takeUnit p cls u).returnCredits p cls u

/-- BEAD_RX (R48). -/
def execBeadRx (p : Nat) (u : List Byte) (s : State) : Res :=
  .next (if 1 < p then s
    else
      match s.beadRow p u with
      | 0 => (s.dropBead p u 11 (F.CHAIN_ERR_WRONG_ARC p)).beadEvent 0x0107 p u 0
      | 1 => (s.dropBead p u 11 (F.CHAIN_ERR_MALFORMED p)).beadEvent 0x0106 p u 0
      | 2 => s.dropBead p u 11 (F.CHAIN_ERR_WRONG_ARC p)
      | 12 => (s.dropBead p u 11 (F.CHAIN_ERR_WRONG_ARC p)).beadEvent 0x0107 p u 0
      | 3 => (s.dropBead p u 11 (F.CHAIN_ERR_HOP_EXCEEDED p)).beadEvent 0x0108 p u (bdHop u)
      | 4 => (s.dropBead p u 9 (F.CHAIN_ERR_STALE p)).beadEvent 0x0104 p u (bdStep u)
      | 5 => (s.dropBead p u 10 (F.CHAIN_ERR_FUTURE p)).beadEvent 0x0105 p u (bdStep u)
      | 6 => (s.dropBead p u 4 (F.CHAIN_ERR_DUP p)).beadEvent 0x0102 p u (bdSeq u)
      | 9 => s.passTransit p u (s.cameIn p u)
      | 7 =>
        let t := s.acceptBead p u 7 (some (s.seqRow u).2)
        if t.chain.seen = s.chain.seen then t
        else (t.raise (F.CHAIN_ERR_OOO p)).beadEvent 0x0103 p u (s.gapOf u)
      | _ => s.acceptBead p u 8 (if bdResent u then none else some (s.seqRow u).2))

/-- TRANSIT_BEAD_RX (R53): a Bead of another arc in the transit class; one of an arc that the port does not carry is dropped (row 2 of R48). A Bead of this module's own
arc is none of these: BEAD_RX takes it. -/
def execTransitBeadRx (p : Nat) (u : List Byte) (s : State) : Res :=
  .next (if 1 < p ∨ bdArc u = s.rf F.CHAIN_ARC_ARC_ID then s
    else if s.transits p (bdArc u) then s.passTransit p u 4
    else s.dropFrom p 4 u 11 (F.CHAIN_ERR_WRONG_ARC p))

/-! ### Tag checks (R38, R49) -/

/-- A landing copy fails its tag, or its container does (R49, R209). -/
def State.tagFails (s : State) (l : Landing) : State :=
  let h := l.head
  let p := l.port
  let s := s.dropLanding l
  if bdKind h = 1 then
    ((s.raise F.GRAD_ERR_BAD_TAG).event 0x0702 (srcPort p) (bdId h) (bdOrigin h) (bdRound h) (bdSeq h)).raiseAbort 4
  else
    let key := (bdOrigin h, bdRound h, bdSeq h, bdId h)
    let s := ((s.raise (F.CHAIN_ERR_BAD_TAG p)).bump (F.CHAIN_CNT_COUNT p 6) 1).event 0x0100 (srcPort p) (bdId h) (bdOrigin h) (bdRound h) (bdSeq h)
    if bdResent h || s.chain.asked.contains key then
      if bdKind h = 4 ∧ s.rf F.CHAIN_MEMBER_STATE ≠ memMember then (s.restartRestore).setMember memJoinWait else s.tagFatal p h
    else
      let s := s.setChain { s.chain with asked := key :: s.chain.asked }
      let s := s.bump (F.CHAIN_CNT_COUNT p 7) 1
      s.sendCtrl p 3 (s.rf F.SETUP_IDENT_STAGE * 32 + bdOrigin h)
        (natLe (bdId h) 4 ++ natLe (bdRound h) 2 ++ natLe (bdSeq h) 2 ++ natLe (bdKind h) 1 ++ natLe (bdOrigin h) 1 ++ natLe s.pos 1)

/-- A restore Bead that is a member's own Cameo copy (R50): it takes the place of the stored Bead, which is injected next; a copy of another CONTENT_STEP is fatal. -/
def State.takeCopy (s : State) (p : Nat) (head raw : List Byte) : State :=
  match s.chain.fetching.find? (fun f => f.2.2 == bdIndex head) with
  | none => s
  | some f =>
    let h := s.ownShard
    let at0 := s.workAt h f.2.2
    let s := s.setChain { s.chain with fetching := s.chain.fetching.erase f }
    if bdContent raw = bdContent (s.storedBead at0) then
      (s.store at0 raw).setChain { s.chain with waiting := f :: s.chain.waiting }
    else s.tagFatal p head

/-- A landing copy passes its tag: what it carries goes where its kind goes. -/
def State.tagPasses (s : State) (l : Landing) (raw : List Byte) : State :=
  let h := l.head
  let s := s.passLanding l raw
  let done := { l with checked := true }
  if bdKind h = 0 ∨ bdKind h = 2 then s.signalLanding h
  else if bdKind h = 1 then s
  else
    let s := s.dropLanding done
    if bdKind h = 3 then s.keepChunk (bdPart h) (bdIndex h) (bdShard h) raw
    else if s.rf F.CHAIN_MEMBER_STATE = memMember ∧ !s.flag F.HEALTH_CTRL_ROLLBACK then s.takeCopy l.port h raw
    else (if s.rf F.CHAIN_MEMBER_STATE = memJoinWait then s.setMember memRestoring else s).restoreChunk (bdPart h) (bdIndex h) (bdShard h) (bdStep h) raw

/-- BEAD_TAG_CHECK_DONE (R49): the edge die finishes the landing copy of an index, decoding it where it is coded (R270), through stripes of the CODEC stream
(R271). -/
def execBeadTagCheckDone (i : Nat) (s : State) : Res :=
  .next (match s.chain.landings[i]? with
    | none => s
    | some l =>
      if l.checked then s
      else match s.openBead l.head (s.rbs (stripeAddr l.stripe) (bdLen l.head)) l.tag with
        | none => s.tagFails l
        | some pt =>
          s.codecStaged (bdCompressed l.head) ⟨.codec, l.port⟩ pt fun s =>
            if bdCompressed l.head then
              match s.decode (bdKind l.head) pt with
              | (some raw, s) => s.tagPasses l raw
              | (none, s) => s.tagFails l
            else s.tagPasses l pt)

/-- BEAD_LATE (R51): a task has waited LATE_TICKS of a port on a weight Bead's landing Clasp; the Bead counts as LATE when it arrives. One that has arrived already is
not late. -/
def execBeadLate (p bead round : Nat) (s : State) : Res :=
  .next (let n := Config.landingClasp bead round % 65536
    let waits := s.front.tasks.any (fun t => t.phase == .waiting && (match t.wait with | .clasp k _ _ _ => k == n | _ => false))
    let here := s.chain.landings.any (fun l => bdKind l.head == 0 && bdId l.head == bead && bdRound l.head == round)
    if 1 < p ∨ s.rf (F.CHAIN_LATE_TICKS_TICKS p) = 0 ∨ !waits ∨ here ∨ s.chain.late.contains (bead, round) then s
    else s.setChain { s.chain with late := s.chain.late ++ [(bead, round)] })

/-- Serve a resend request (R49): the Bead goes out again from its stored ciphertext, RESENT, for the requester alone. CNT[8] counts on the port it leaves by: R60 does
not say which port, DESIGN CHOICE. -/
def State.resendBead (s : State) (m : List Byte) : State :=
  let id := leAt m 0x10 4
  let round := leAt m 0x14 2
  let seq := leAt m 0x16 2
  let kind := leAt m 0x18 1
  let dest := leAt m 0x1A 1 % 32
  let step := s.rf F.CHAIN_STEP_STEP
  let part := bits id 27 3
  let index := bits id 0 27
  let count := fun (s : State) => s.bump (F.CHAIN_CNT_COUNT (s.portTo dest) 8) 1
  if kind = 0 then
    match s.shards.find? (fun h => h.beads.any (fun e => e.id == id)) with
    | none => s
    | some h =>
      let k := h.beads.findIdx (fun e => e.id == id)
      let d := match h.beads[k]? with | some e => b2n e.west | none => 0
      let u := bdRoute (s.storedBead (s.workAt h k)) step round seq (3 * d + 4) 0 s.pos dest
      let (p, turned) := s.exitPort (bdInjected u)
      let s := if turned then s.bump (F.CHAIN_CNT_COUNT p 14) 1 else s
      State.sendStaged (injectOwner u) p (s.outward u) [7] (s.bump (F.CHAIN_CNT_COUNT p 8) 1)
  else if kind = 3 then
    if part = 0 ∨ part = 1 then
      let h := s.ownShard
      let a := if part = 0 then s.workAt h index else s.srcAt h index
      (count s).sendChunk false 1 dest part index ((a - if part = 0 then h.work else h.src) / 512) (s.chunkAt a)
    else if part < 4 then
      let base := if part = 2 then s.rf (F.GRAD_REGION_BASE_GIB 3) * 2 ^ 30 else s.rf F.CHARM_REGION_BASE_GIB * 2 ^ 30
      (count s).sendChunk false 1 dest part index (index * 2048) (s.rbs (base + index * 1048576) 1048576)
    else match s.health.cameo.kept.find? (fun e => e.1 == part) with
      | none => s
      | some (_, u) => (count s).sendTo u step round seq 1 dest
  else if kind = 4 then
    let slot := s.rf F.HEALTH_CAMEO_STATUS_IMAGE_SLOT
    let h : Shard := ⟨dest, s.cameoPart slot 0, s.cameoPart slot 1, s.entries dest⟩
    if part = 0 ∨ part = 1 then
      let a := if part = 0 then s.workAt h index else s.srcAt h index
      (count s).sendChunk true 1 dest part index ((a - if part = 0 then h.work else h.src) / 512) (s.chunkAt a)
    else if part < 4 then (count s).sendChunk true 1 dest part index (index * 2048) (s.rbs (s.cameoPart slot part + index * 1048576) 1048576)
    else if part = 4 then
      (count s).sendChunk true 1 dest 4 0 0 (s.rbs (s.cameoRecords + s.rf F.HEALTH_CAMEO_STATUS_STATE_SLOT * 1048576) 1048576)
    else (count s).sendChunk true 1 dest 5 0 0 (s.rbs (s.cameoRecords + 2 * 1048576) 512)
  else s

/-- RESEND_REQ (R49). -/
def execResendReq (p : Nat) (m : List Byte) (s : State) : Res :=
  .next (s.messageIn p m (fun s => if msgDst m = s.rf F.SETUP_IDENT_MODULE_ID then s.resendBead m else s.forwardDst p m))

/-- CAMEO_FETCH (R50): the holder sends the Cameo copy of the Bead, marked RESENT so that it is taken whatever came before: DEDUCED. -/
def execCameoFetch (p : Nat) (m : List Byte) (s : State) : Res :=
  .next (s.messageIn p m (fun s =>
    if msgDst m ≠ s.rf F.SETUP_IDENT_MODULE_ID then s.forwardDst p m
    else match s.findBead (leAt m 0x10 4) with
      | none => s
      | some (home, k, _) =>
        if !s.flag F.HEALTH_CAMEO_STATUS_HELD_VALID then s
        else
          let h : Shard := ⟨home, s.cameoPart (s.rf F.HEALTH_CAMEO_STATUS_IMAGE_SLOT) 0, 0, s.entries home⟩
          let a := s.workAt h k
          s.sendChunk true 1 (msgSrc m % 32) 0 k ((a - h.work) / 512) (s.chunkAt a)))

/-! ### Versions and joining (R40, R41) -/

/-- The lowest and highest versions of a list of members, and whether they share one at or below the pin. -/
def sharedVersion (pin : Nat) (l : List (Nat × Nat × Nat)) : Option Nat :=
  let lo := (l.map (fun e => e.2.1)).foldl max 0
  let hi := (l.map (fun e => e.2.2)).foldl min 0xFFFF
  if l.isEmpty ∨ hi < lo ∨ (pin ≠ 0 ∧ pin < lo) then none else some (if pin = 0 then hi else min hi pin)

/-- The member that stays out next (R41): of those with the highest lowest version, the one nearest the arc's first position, eastward. -/
def staysOut (first : Nat) (l : List (Nat × Nat × Nat)) : Nat :=
  let lo := (l.map (fun e => e.2.1)).foldl max 0
  let far := fun (p : Nat) => (p + 32 - first) % 32
  let c := (l.filter (fun e => e.2.1 == lo)).map (fun e => e.1)
  c.foldl (fun a p => if far p < far a then p else a) (c.headD 0)

/-- The arc version and the members that share it (R40, R41). -/
def negotiate (first pin : Nat) : Nat → List (Nat × Nat × Nat) → Option Nat × List Nat
  | 0, _ => (none, [])
  | k + 1, l =>
    match sharedVersion pin l with
    | some v => (some v, l.map (·.1))
    | none => if l.isEmpty then (none, []) else negotiate first pin k (l.filter (fun e => e.1 != staysOut first l))

/-- A member that stays out for its version (R41). -/
def State.versionOut (s : State) : State :=
  let s := (s.raise (F.CHAIN_ERR_VER_MISMATCH 0)).raise (F.CHAIN_ERR_VER_MISMATCH 1)
  (s.event 0x010B srcHub s.beadLow s.beadHigh 0 0).setMember memOut

/-- Whether a content key is installed (R39). -/
def State.keyed (s : State) : Bool := s.locket.key0.isSome || s.locket.key1.isSome

/-- JOIN_NEGOTIATE (R40, R41, the join table): a module that is OUT advertises its versions once its Setting is loaded and its Chain ports have trained or are
down; one that negotiates decides from the ranges of every member, a position with none being absent, and whether the arc runs already. A position that a miswired port has folded out stays out (R30). -/
def execJoinNegotiate (ranges : List (Nat × Nat × Nat)) (running : Bool) (s : State) : Res :=
  let st := s.rf F.CHAIN_MEMBER_STATE
  .next (if s.rf F.SETUP_STATE_STATE ≠ 10 ∨ !s.arcPositions.contains s.pos then s
    else if st = memOut then
      if (List.range 2).any (fun p => s.lk p == lkTrain || s.lk p == lkAlign || s.lk p == lkExchange) then s else s.setMember memNegotiating
    else if st ≠ memNegotiating then s
    else
      let own := (s.pos, s.beadLow, s.beadHigh)
      let all := own :: ranges.filter (fun e => s.arcPositions.contains e.1 && e.1 != s.pos)
      match negotiate (s.rf F.CHAIN_ARC_FIRST) (s.rf F.CHAIN_BEAD_VER_PIN) (all.length + 1) all with
      | (none, _) => s.versionOut
      | (some v, ms) =>
        if !ms.contains s.pos then s.versionOut
        else
          let miswired := fun (q : Nat) => s.chain.out.contains q && (List.range 2).any (fun p => s.faces p == q && s.lk p != lkUp)
          let s := (s.setChain { s.chain with out := s.arcPositions.filter (fun p => !ms.contains p || miswired p) }).wf F.CHAIN_BEAD_VER_ACTIVE v
          if running then s.setMember memJoinWait
          else if s.keyed then (s.setMember memMember).showArc else s.showArc)

end Sys2Proof.Machine
end

