-- ==== Sys2Proof/Machine/Close.lean ====
section
/-! DEFINITION. The statistics close, the global norm, the handover, and the cast of the host's update records (R114, R218 to R225, R233, R234, R259). -/

namespace Sys2Proof.Machine

/-! ### GCLOSE (R218) -/

/-- The rounds of the list that this step runs (R280). -/
def State.roundCount (s : State) : Nat :=
  match s.front.rounds with
  | some (g, v) => (match s.versionOf g v with | some x => imgRounds x.image | none => 0)
  | none => 0

/-- GCLOSE (R218): it waits. One in an evaluation step, a second one, or one before every round has started faults. -/
def execGclose (m : Nat) (d : BitVec 256) (s : State) : Res :=
  .next (s.issue m d fun s => if !(descHeader d 4 && descField d 1 1 == 3 && descZero d 2 32) then s.fault m 1
    else if s.evaluates ∨ s.grad.closed ∨ s.chain.round < s.roundCount then (s.raise F.GRAD_ERR_CLOSE_ORDER).fault m 1
    else ((s.setGrad { s.grad with closing := some m, closed := true }).wf F.GRAD_STATUS_PHASE 2).block m .close)

/-- The GCLOSE of a task of logical core m completes (R218); a task that has been saved finds itself past it.  -/
def State.endClose (s : State) (m : Nat) : State :=
  match s.front.tasks.find? (fun t => t.core == m && t.wait == .close) with
  | none => s
  | some t => if t.phase == .saved then s.updTask t.id (fun t => { t with desc := t.desc + 1, wait := .none }) else s.nextDesc m

/-! ### The local sums (R218, R230, R234, R235) -/

/-- Every Bead this module closes: its shard's position, its index there, its entry; the own shard's, then the proxied one's. -/
def State.closeBeads (s : State) : List (Nat × Nat × BeadEntry) :=
  s.shards.flatMap (fun h => ((List.range h.beads.length).zip h.beads).map (fun p => (h.pos, p.1, p.2)))

/-- The sum of squares of a Bead's accumulators, with the non-finite ones counted. -/
def State.beadSquares (s : State) (b : Nat × Nat × BeadEntry) : SqAcc :=
  (List.range b.2.2.elems).foldl (fun a i => a.add (f32 (s.accWord b.1 b.2.1 i))) ⟨0, 0⟩

/-- The layer row of a layer, where it has one (R230). -/
def State.layerRow (s : State) (layer : Nat) : Option Nat :=
  (List.range 256).find? (fun r => s.flag (F.HEALTH_LNORM_LAYER_VALID r) && s.rf (F.HEALTH_LNORM_LAYER_LAYER r) == layer)

/-- Add to a sum of a layer's row: 0 W, 1 U, 2 G. -/
def State.addRow (s : State) (layer which : Nat) (f : SqAcc → SqAcc) : State :=
  match s.layerRow layer with
  | none => s
  | some r =>
    let k := r * 4 + which
    { s with health := { s.health with rows := SMap.set (fun _ => ⟨0, 0⟩) s.health.rows k (f (SMap.get (fun _ => ⟨0, 0⟩) s.health.rows k)) } }

/-- The loss verdicts of a step that received a finite pair (R234). With SHIFT 0 the EWMA stays: DEDUCED. -/
def State.lossVerdict (s : State) : State :=
  let a := s.health.train
  if !a.any || decide (a.tokens ≤ 0) then s
  else
    let x := toF32 ((Num.ofInt a.loss (-149)).div (Num.ofInt a.tokens (-149)))
    let e : Word := BitVec.ofNat 32 (s.rf F.HEALTH_EWMA_VALUE)
    let n := s.rf F.HEALTH_EWMA_N_N
    let shift := s.rf F.HEALTH_CFG_SHIFT
    let ratio : Word := BitVec.ofNat 32 (s.rf F.HEALTH_RATIO_RATIO)
    let spike := decide (shift ≠ 0) && !(f32 ratio).isZero && decide (s.rf F.HEALTH_CFG_WARMUP ≤ n) && (f32 (fMul e ratio)).lt (f32 x)
    let e2 := if n = 0 then x
      else if spike && !s.flag F.HEALTH_CFG_EWMA_ON_SPIKE then e
      else fAdd e (toF32 ((f32 (fSub x e)).scale (-((shift : Nat) : Int))))
    let next := if shift = 0 then (e, BitVec.ofNat 32 n, x) else (e2, BitVec.ofNat 32 (satAdd 32 n 1), x)
    let s : State := { s with health := { s.health with pending := some next } }
    let s := s.wf F.HEALTH_VERDICT_LOSS_VALID 1
    if spike then
      let s := ((s.wf F.HEALTH_VERDICT_SPIKE 1).raise F.HEALTH_ERR_SPIKE).event 0x0800 srcHub (s.rf F.CHAIN_STEP_STEP) x.toNat e.toNat ratio.toNat
      if s.flag F.HEALTH_CFG_HOLD_ON_SPIKE then s.wf F.HEALTH_VERDICT_HOLD 1 else s
    else s

/-! ### Window summaries (R114) -/

/-- The valid entries of the format table. -/
def State.fmtValid (s : State) : List Nat := (List.range 4096).filter s.fmtEntryOk

/-- The summary of an entry's window under its thresholds. -/
def State.summarise (s : State) (e : Nat) : FmtSum :=
  let w := s.win e
  let t := s.rf (F.FMT_ENT_CFG_THR e)
  let bin := s.rf (F.FMT_THR_A_BIN t)
  ⟨w.samples, (w.hist.take bin).sum, (w.hist.take (min 63 (bin + s.rf (F.FMT_THR_A_HYST t)))).sum, w.ovf + w.scHi, w.nf, w.amax⟩

/-- A summary's 32 bytes: its six numbers as words in R114's order, then zeros. The spec gives no offsets: DESIGN CHOICE. -/
def FmtSum.bytes (f : FmtSum) : List Byte :=
  let w := fun n => natLe (min n (2 ^ 32 - 1)) 4
  w f.samples ++ w f.badP ++ w f.badC ++ w f.ovfSc ++ w f.nf ++ natLe f.amax.toNat 4 ++ natLe 0 8

/-- The summary that 32 bytes spell. -/
def sumOf (b : List Byte) : FmtSum := ⟨leAt b 0 4, leAt b 4 4, leAt b 8 4, leAt b 12 4, leAt b 16 4, BitVec.ofNat 32 (leAt b 20 4)⟩

/-- Summaries of two members together: integer sums, the larger AMAX. -/
def FmtSum.join (a b : FmtSum) : FmtSum :=
  ⟨a.samples + b.samples, a.badP + b.badP, a.badC + b.badC, a.ovfSc + b.ovfSc, a.nf + b.nf, maxMag a.amax b.amax⟩

/-! ### The norm record (R219) -/

/-- The bytes of a map in which the given bits of 4,096 are set. -/
def bitMap (l : List Nat) : List Byte :=
  (List.range 512).map (fun i => BitVec.ofNat 8 (((List.range 8).filter (fun j => l.contains (8 * i + j))).map (fun j => 2 ^ j)).sum)

/-- Late forwards of this step, and contributions that DROP discarded. -/
def State.stepLate (s : State) : Nat := (s.grad.contribs.map (fun c => c.late.length)).sum
def State.stepDropped (s : State) : Nat :=
  if s.flag F.GRAD_CFG_LATE_POLICY then (s.grad.contribs.filter (fun c => c.whole && !c.late.isEmpty)).length else 0

/-- The record. -/
def State.normRecord (s : State) (sumsq nf : Nat) (marks : List Nat) : List Byte :=
  natLe 0x0100 2 ++ natLe (s.rf F.SETUP_IDENT_MODULE_ID) 2 ++ natLe (s.rf F.CHAIN_STEP_STEP) 4 ++ natLe sumsq 8 ++ natLe nf 8 ++
    natLe s.stepLate 4 ++ natLe s.stepDropped 4 ++ List.replicate 32 0#8 ++ bitMap marks

/-- STATISTICS_CLOSE (R218, R114, R217): the local sums, the verdicts, the windows' close, the norm record on its way. -/
def execStatisticsClose (s : State) : Res :=
  .next (if s.grad.closing.isNone ∨ s.grad.sent ∨ s.rf F.GRAD_PENDING_PIECES ≠ 0 then s
    else
      let l := s.closeBeads.map (fun b => (b, s.beadSquares b))
      let all : SqAcc := ⟨(l.map (fun p => p.2.sum)).sum, (l.map (fun p => p.2.nf)).sum⟩
      let s := (s.wpair F.GRAD_LOCAL_LO_SUMSQ F.GRAD_LOCAL_HI_SUMSQ all.f64).countClass 3 all.nf
      let s := l.foldl (fun (s : State) p => s.addRow p.1.2.2.layer 2 (fun a => ⟨a.sum + p.2.sum, a.nf + p.2.nf⟩)) s
      let s := s.lossVerdict
      let sums := s.fmtValid.map (fun e => (e, s.summarise e))
      let s : State := { s with fmt := ⟨[], sums⟩ }
      let record := s.normRecord all.f64 all.nf ((l.filter (fun p => p.2.nf != 0)).map (fun p => p.1.2.2.gradTensor)) ++ sums.flatMap (fun p => p.2.bytes)
      let s := s.clearCarries
      let s := s.setGrad { s.grad with sent := true, records := (s.rf F.SETUP_IDENT_MODULE_ID, record) :: s.grad.records }
      let job := s.flag F.GRAD_CFG_SPAN
      s.spanFlood job (natLe 0 1 ++ natLe (b2n job) 1 ++ List.replicate 14 0#8 ++ record) none)

/-! ### Span messages (R313, R219) -/

/-- Whether a module belongs to a span. -/
def State.inSpan (s : State) (id : Nat) (job : Bool) : Bool :=
  s.members.contains (id % 32) && (if job then decide (id / 32 ≤ s.rf F.PIPE_SCHED_N_M1) else id / 32 == s.rf F.SETUP_IDENT_STAGE)

/-- SPAN_ARRIVE_MSG (R313): recorded and forwarded once; duplicates and messages of other steps are dropped. A norm record of another version aborts the
step (R219), and so does one whose own STEP does not match: DEDUCED. R365 gives no cause for that: 4. -/
def execSpanArriveMsg (p : Nat) (m : List Byte) (s : State) : Res :=
  let id := leAt m 0x10 1
  let job := bit (leAt m 0x11 1) 0
  let src := msgSrc m
  .next (s.messageIn p m (fun s =>
    let ports := s.arcPorts ++ (if job then s.pipePorts else [])
    if msgStep m ≠ s.rf F.CHAIN_STEP_STEP ∨ 15 < id ∨ !s.inSpan src job then s
    else if id = 0 then
      if s.grad.records.any (fun r => r.1 == src) then s
      else
        let s := s.forwardFlood p ports m
        if leAt m 0x20 2 ≠ 0x0100 ∨ leAt m 0x24 4 ≠ s.rf F.CHAIN_STEP_STEP then s.raiseAbort 4
        else s.setGrad { s.grad with records := (src, m.drop 0x20) :: s.grad.records }
    else
      let x := s.span id job
      if x.arrived.contains src then s
      else ((s.setSpan { x with job := job, arrived := src :: x.arrived }).forwardFlood p ports m).spanCheck id job))

/-! ### The global norm (R219, R220) -/

/-- Records in ascending module ID. -/
def byModule (l : List (Nat × List Byte)) : List (List Byte) := (l.mergeSort (fun a b => decide (a.1 ≤ b.1))).map (·.2)

/-- The FP64 sum of a list in its order. -/
def sum64 : List Nat → Nat
  | [] => 0
  | a :: l => l.foldl (fun x y => toF64 ((fpF64.decode x).add (fpF64.decode y))) a

/-- The clip factor (R220). -/
def clipFactor (max0 : Word) (g : Num) (norm : Num) : Word :=
  if (f32 max0).isZero ∨ !g.finite ∨ !(f32 max0).lt norm then f32One else toF32 ((f32 max0).div norm)

/-- Whether the combined NFMAP marks a gradient tensor (R118, R219). -/
def State.tensorMarked (s : State) (t : Nat) : Bool := s.grad.records.any (fun r => bit (leAt r.2 (0x40 + t / 8) 1) (t % 8))

/-- A skipped step (R118): NF_SPAN or SKIP. -/
def State.skipped (s : State) : Bool := s.flag F.FMT_VERDICT_NF_SPAN || s.flag F.FMT_VERDICT_SKIP

/-! ### The base handover (R222) -/

/-- The bytes of a whole 64 B unit. -/
def pad64 (l : List Byte) : List Byte := l ++ List.replicate (roundUp l.length 64 - l.length) 0#8

/-- The weights of a Bead's source copy as stored, decrypted (R221): one whose tag fails gives free bytes. -/
def State.sourceBytes (s : State) (h : Shard) (k : Nat) (e : BeadEntry) : List Byte × State :=
  let u := s.storedBead (s.srcAt h k)
  match s.openBead u (bdPayload u) (bdTag u) with
  | some p => (p.take (2 * e.elems), s)
  | none => s.freeBytes (2 * e.elems)

/-- FP16's scale exponent of a payload: HS of R222. -/
def scaleExp (format : Nat) (xs : List Num) : Int :=
  let a := amaxOf (xs.filter Num.finite)
  if format ≠ 2 ∨ a.isZero then 0 else min 127 (max (-127) (14 - a.log2))

/-- Size of a handover record. -/
def State.hoSize (s : State) (e : BeadEntry) : Nat := 64 + (if s.flag F.GRAD_CFG_MODE then 2 else 1) * roundUp (2 * e.elems) 64

/-- The handover record of a Bead. -/
def State.hoRecord (s : State) (h : Shard) (k : Nat) (e : BeadEntry) : List Byte × State :=
  let format := 1 + s.rf F.GRAD_CFG_HO_FMT
  let clip : Word := BitVec.ofNat 32 (s.rf F.GRAD_CLIP_CLIP)
  let q := s.beadSquares (h.pos, k, e)
  let vs := (List.range e.elems).map (fun i => f32 (fMul (s.accWord h.pos k i) clip))
  let hs := scaleExp format vs
  let grads := pad64 (convertTensor format false (fun _ => .nearest) (vs.map (fun x => x.scale hs))).1
  let (high, s) := if s.flag F.GRAD_CFG_MODE then (let (b, s) := s.sourceBytes h k e; (pad64 b, s)) else ([], s)
  let data := grads ++ high
  let proxy := h.pos != s.pos
  let marked := s.flag F.FMT_POLICY_HIST && s.tensorMarked e.gradTensor
  let head := natLe 0x0100 2 ++ natLe format 1 ++ natLe (b2n (q.nf != 0) + 2 * b2n marked + 4 * b2n proxy) 1 ++ natLe e.id 4 ++ natLe e.layer 2 ++
    natLe e.tensor 2 ++ natLe e.shard 4 ++ natLe e.elems 4 ++ natLe (hs % 256).toNat 1 ++ natLe 0 1 ++
    natLe (s.rf F.SETUP_IDENT_STAGE * 32 + h.pos) 2 ++ natLe (s.rf F.CHAIN_STEP_STEP) 4 ++ natLe clip.toNat 4 ++ natLe q.f64 8 ++ natLe 0 16 ++
    natLe (crc32c data) 4
  (head ++ natLe (crc32c head) 4 ++ data, s)

/-- Write a handover record through stripes of the HOST stream (R188), or let it wait for them or for the DMA gate (R384). -/
def State.handOver (s : State) (charm : Bool) (n off : Nat) (data : List Byte) : State :=
  let wait := fun (s : State) => ({ s with pcie := { s.pcie with waiting := s.pcie.waiting ++ [⟨charm, n, off, data⟩] } } : State)
  if s.gated ∨ !s.pcie.waiting.isEmpty then wait s
  else s.stagedOr 11 ⟨.host, 256⟩ data wait fun s =>
    let base := if charm then s.pairNow F.CHARM_HO_ADDR_LO_ADDR.off else s.pairNow (F.GRAD_HO_ADDR_LO_ADDR n).off
    s.dmaWrite (base + off) data

/-- Signal the HO Clasp of a unit once its last record is written; one whose records wait signals when they go (R222, R259). -/
def State.handedOver (s : State) (charm : Bool) : State :=
  if s.pcie.waiting.any (fun w => w.charm == charm) then s
  else s.emit ⟨if charm then s.rf F.CHARM_CLASP_HO else s.rf F.GRAD_CLASP_A_HO, 1, false, 0x1FF⟩

/-- The records of a shard. -/
def State.hoShard (s : State) (n : Nat) (h : Shard) : State :=
  (((List.range h.beads.length).zip h.beads).foldl (fun (a : State × Nat) p =>
    let (data, s) := a.1.hoRecord h p.1 p.2
    (s.handOver false n a.2 data, a.2 + data.length)) (s, 0)).1

/-- The base handover (R222): none under SKIP with NF_SPAN, none where an area is too small. Without a record no signal goes out: DEDUCED. -/
def State.baseHandover (s : State) : State :=
  let l := (List.range 2).zip s.shards
  let need := fun (h : Shard) => (h.beads.map s.hoSize).sum
  if !s.flag F.FMT_POLICY_HIST && s.flag F.FMT_VERDICT_NF_SPAN then s.wf F.GRAD_HO_RECORDS_COUNT 0
  else match l.find? (fun p => decide (s.rf (F.GRAD_HO_SIZE_SIZE p.1) * 4096 < need p.2)) with
    | some (n, h) =>
      ((s.wf F.GRAD_HO_RECORDS_COUNT 0).raise F.GRAD_ERR_HO_SPACE).event 0x0705 srcHub (ceilDiv (need h) 4096) (s.rf (F.GRAD_HO_SIZE_SIZE n)) n 0
    | none =>
      let count := (s.shards.map (fun h => h.beads.length)).sum
      let s := (l.foldl (fun (s : State) p => s.hoShard p.1 p.2) s).wf F.GRAD_HO_RECORDS_COUNT count
      if count = 0 then s else s.handedOver false

/-! ### The Charm handover (R259) -/

/-- The contexts with a contribution in this attempt of the step, in ascending variant number. -/
def State.charmContexts (s : State) : List Nat :=
  (((s.charm.adds.map (·.variant)).eraseDups).filter s.ctxTrain).mergeSort (fun a b => decide (a ≤ b))

/-- The accumulator words of a context, in layout order without padding. -/
def State.ctxAcc (s : State) (v : Nat) : List Word :=
  let base := s.rf F.CHARM_ACC_REGION_BASE_GIB * 2 ^ 30 + s.ctx v 0x14 4 * 4096
  let l := s.ctxLayout v
  (List.range l.length).flatMap (fun k => match l[k]? with
    | none => []
    | some p => (List.range p.2.2).map (fun i => BitVec.ofNat 32 (s.rle (base + layoutBytes 4 (l.take k) + 4 * i) 4)))

/-- Bytes of an element of a Charm handover, and of a record. -/
def State.charmElem (s : State) : Nat := if s.flag F.CHARM_CFG_HO_FMT then 4 else 2
def State.charmSize (s : State) (v : Nat) : Nat := 64 + roundUp (((s.ctxLayout v).map (·.2.2)).sum * s.charmElem) 64

/-- A context's record (R259): its non-finite elements are counted into class 5 and into NF of the entry. -/
def State.charmRecord (s : State) (v : Nat) : List Byte × State :=
  let ws := s.ctxAcc v
  let q := (ws.map f32).foldl SqAcc.add ⟨0, 0⟩
  let format := if s.flag F.CHARM_CFG_HO_FMT then 0 else 1
  let data := pad64 (convertTensor format false (fun _ => .nearest) (ws.map f32)).1
  let head := natLe 0x0100 2 ++ natLe format 1 ++ natLe (b2n (q.nf != 0) + 2 * b2n s.skipped) 1 ++ natLe v 4 ++ natLe (s.rf F.CHAIN_STEP_STEP) 4 ++
    natLe (s.ctx v 0x28 4) 4 ++ natLe ws.length 4 ++ natLe 0 4 ++ natLe q.f64 8 ++ natLe 0 24 ++ natLe (crc32c data) 4
  let s := (s.setCtx v 0x2C 4 q.nf).countClass 5 q.nf
  (head ++ natLe (crc32c head) 4 ++ data, (s.bump (F.CHARM_CNT_COUNT 3) 1).bump (F.CHARM_CNT_COUNT 4) q.nf)

/-- The Charm handover (R259). -/
def State.charmHandover (s : State) : State :=
  let l := s.charmContexts
  let need := (l.map s.charmSize).sum
  if s.rf F.CHARM_HO_SIZE_SIZE * 4096 < need then
    ((s.wf F.CHARM_HO_RECORDS_COUNT 0).raise F.CHARM_ERR_HO_SPACE).event 0x0903 srcHub (ceilDiv need 4096) (s.rf F.CHARM_HO_SIZE_SIZE) 0 0
  else
    let s := (l.foldl (fun (a : State × Nat) v =>
      let (data, s) := a.1.charmRecord v
      (s.handOver true 0 a.2 data, a.2 + data.length)) (s, 0)).1
    let s := (if l.isEmpty then s else s.cameoWrote).wf F.CHARM_HO_RECORDS_COUNT l.length
    s.handedOver true

/-- SPAN_CLOSE_COMPLETE (R219, R220, R222, R259, R313). -/
def execSpanCloseComplete (s : State) : Res :=
  .next (if !s.grad.sent ∨ s.flag F.FMT_VERDICT_CLOSED ∨ s.grad.records.length < s.spanSize (s.flag F.GRAD_CFG_SPAN) then s
    else
      let rs := byModule s.grad.records
      let g := sum64 (rs.map (fun r => leAt r 8 8))
      let norm := fpF64.decode (toF64 (fpF64.decode g).sqrt)
      let clip := clipFactor (BitVec.ofNat 32 (s.rf F.GRAD_CLIP_MAX_MAXNORM)) (fpF64.decode g) norm
      let nf := (rs.map (fun r => leAt r 0x10 8)).sum
      let s := ((s.wpair F.GRAD_NORM_LO_G F.GRAD_NORM_HI_G g).wf F.GRAD_CLIP_CLIP clip.toNat).wf F.GRAD_NF_COUNT (min nf (2 ^ 32 - 1))
      let s := if nf ≠ 0 ∧ !s.flag F.FMT_POLICY_HIST then s.wf F.FMT_VERDICT_NF_SPAN 1 else s
      let places := (List.range s.fmt.sums.length).zip s.fmt.sums
      let joined := places.map (fun p =>
        if s.flag (F.FMT_ENT_CFG_SCOPE p.2.1) then
          (p.2.1, rs.foldl (fun a r => a.join (sumOf ((r.drop (576 + 32 * p.1)).take 32))) ⟨0, 0, 0, 0, 0, 0⟩)
        else p.2)
      let total := fun o => (rs.map (fun r => leAt r o 4)).sum
      let s : State := { s with fmt := { s.fmt with sums := joined }, grad := { s.grad with lateAll := total 0x18, droppedAll := total 0x1C } }
      let s := (s.wf F.FMT_VERDICT_CLOSED 1).trace 0x06 0xFF (2 * 256) 0 0 0
      let s := (s.bump (F.CLASP_CNT_COUNT 4) 1).event 0x0703 srcHub (s.rf F.CHAIN_STEP_STEP) (s.rf F.GRAD_NORM_HI_G) clip.toNat (min nf (2 ^ 32 - 1))
      let s := (s.baseHandover).charmHandover
      let s := s.wf F.GRAD_STATUS_PHASE (if s.pcie.waiting.isEmpty then 4 else 3)
      match s.grad.closing with
      | some m => (s.setGrad { s.grad with closing := none }).endClose m
      | none => s)

/-! ### Update records (R223, R224) -/

/-- Bytes of an update record. -/
def updSize (e : BeadEntry) : Nat := 64 + roundUp (2 * e.elems) 64

/-- Whether an update record passes its checks (R224 step 2). -/
def State.updGood (s : State) (e : BeadEntry) (r : List Byte) : Bool :=
  leAt r 0 2 == 0x0100 && leAt r 2 1 == 1 && decide (leAt r 3 1 < 2) && leAt r 4 4 == e.id && leAt r 8 4 == s.rf F.CHAIN_STEP_STEP &&
    leAt r 0xC 4 == e.elems && ((r.drop 0x14).take 40).all (fun b => b == 0#8) && leAt r 0x10 4 == crc32c (r.drop 64) &&
    leAt r 0x3C 4 == crc32c (r.take 0x3C)

/-- Encrypt a Bead of a shard under its fixed part, at rest in a home shard (R42, R221, R224). -/
def State.sealAtRest (s : State) (h : Shard) (e : BeadEntry) (format encSeq : Nat) (data : List Byte) : Option (List Byte) :=
  let payload := pad512 data
  let fixed := bdHead (s.rf F.CHAIN_BEAD_VER_ACTIVE) format 0 e.id e.layer e.tensor e.shard payload.length h.pos (s.rf F.CHAIN_ARC_ARC_ID) s.locket.encSlot 0
    (s.rf F.CHAIN_STEP_STEP) (s.rf F.SETUP_IDENT_MODULE_ID) encSeq 0
  let scale := if blockLen format = 0 then natLe 0 8 else natLe (scaleOff format e.elems) 4 ++ natLe (blocksOf format e.elems * recBytes format) 4
  s.sealBead (putAt fixed 0x14 scale) payload

/-- The error samples of a cast Bead (R110): one for each run of 256 elements. -/
def State.castSamples (s : State) (entry : Nat) : Nat → List Num → List Num → State
  | 0, _, _ => s
  | _, _, [] => s
  | k + 1, ys, zs => State.castSamples (s.sample entry (errorBin (ys.take 256) (zs.take 256))) entry k (ys.drop 256) (zs.drop 256)

/-- The element of a Bead's tensor that the Bead begins with (R33, R84, R101): the tensor's shards lie one after the other. The BEADS sections of the arc list
them all: DEDUCED. -/
def State.shardStart (s : State) (e : BeadEntry) : Nat :=
  (((s.setup.arcBeads.flatMap (·.2)).filter (fun x => x.layer == e.layer && x.tensor == e.tensor && decide (x.shard < e.shard))).map (·.elems)).sum

/-- Encode a Bead's weights as its working copy (R107, R108, R224): SAT 1, which the spec gives for feeds only: DESIGN CHOICE. A NaN scale of a Bead in a fixed format
is recorded too (R121), under entry 0. -/
def State.castBead (s : State) (e : BeadEntry) (xs : List Num) : List Byte × State :=
  let f := s.castFmt e
  let k : Int := if e.managed then sbyte (s.rf (F.FMT_ENT_STATE_CAST_K e.fmtEntry)) else 0
  let random := e.managed && s.flag (F.FMT_ENT_CFG_CAST_SR e.fmtEntry)
  let rnd := fun i => if random then Rnd.stochastic (glintX (s.glintWord (e.layer * 65536 + e.tensor) (s.shardStart e + i) 2)) else .nearest
  let ins := xs.map (fun x => let y := x.scale (-k); if blockLen f ≠ 0 ∧ k ≠ 0 then f32 (toF32 y) else y)
  let (data, t) := convertTensor f true rnd ins
  if e.managed then
    let s := (s.countConv e.fmtEntry t xs).nanScale t e.fmtEntry
    (data, State.castSamples s e.fmtEntry xs.length (tensorNums f e.elems k data) xs)
  else (data, s.nanScale t 0)

/-- New weights for a Bead (R224 step 4, R230, R235). -/
def State.castRecord (s : State) (h : Shard) (k : Nat) (e : BeadEntry) (payload : List Byte) : State :=
  let xs := tensorNums 1 e.elems 0 payload
  let (old, s) := s.sourceBytes h k e
  let ds := (xs.zip (tensorNums 1 e.elems 0 old)).map (fun p => p.1.add p.2.neg)
  let s := (s.addRow e.layer 0 (fun a => xs.foldl SqAcc.add a)).addRow e.layer 1 (fun a => ds.foldl SqAcc.add a)
  let s := s.countClass 2 (xs.filter (fun x => !x.finite)).length
  let (data, s) := s.castBead e xs
  match s.sealAtRest h e 1 0xFFFF (payload.take (2 * e.elems)), s.sealAtRest h e (s.castFmt e) 0 data with
  | some src, some work =>
    let s := ((s.store (s.srcAt h k) src).store (s.workAt h k) work).cameoWrote
    { s with health := { s.health with cast := true } }
  | _, _ => s

/-- Casting ends (R224 step 5): DONE, and in an image step what of the Cameo follows it (R239). -/
def State.castDone (s : State) : State :=
  let s := ((s.emit ⟨s.rf F.GRAD_CLASP_B_DONE, 1, false, 0x1FF⟩).wf F.GRAD_STATUS_PHASE 5).showKeyUse
  if s.imageStep then
    let s := if s.rf F.GRAD_UPD_DONE_COUNT = 0 then (List.range s.setup.beads.length).foldl State.cameoBead s else s
    s.cameoParts
  else s

/-- The Bead of record k: the region its record lies in, where, its shard, its index there, its entry. -/
def State.updTarget (s : State) (k : Nat) : Option (Nat × Shard × Nat × BeadEntry) :=
  let own := s.setup.beads.length
  let (n, i) := if k < own then (0, k) else (1, k - own)
  (s.shards[n]?).bind (fun h => (h.beads[i]?).map (fun e =>
    (s.rf (F.GRAD_REGION_BASE_GIB (1 + n)) * 2 ^ 30 + ((h.beads.take i).map updSize).sum, h, i, e)))

/-- UPDATE_RECORD_CAST (R224, R239): the next record of the step, once the UPD Clasp has reached it. -/
def execUpdateRecordCast (s : State) : Res :=
  let k := s.rf F.GRAD_UPD_DONE_COUNT
  let o : Owner := ⟨.cast, 0⟩
  .next (if !s.flag F.FMT_VERDICT_CLOSED || s.rf F.GRAD_STATUS_PHASE == 5 || decide (s.claspValue (s.rf F.GRAD_CLASP_A_UPD) < k + 1) then s
    else if k = 0 ∧ s.skipped then s.castDone
    else match s.updTarget k with
      | none => s.castDone
      | some (a, h, i, e) =>
        match s.request 13 (min (beadStripes e.source) (s.rf (F.CASKET_SLOT_STRIPES 13))) o with
        | (.granted _, s) =>
          let s := s.freeOwner o
          let r := s.rbs a (updSize e)
          let good := s.updGood e r
          let s := if good then s
            else
              let (c, s) := s.freeWord 32
              ((s.bump (F.GRAD_CNT_COUNT 7) 1).raise F.GRAD_ERR_UPD_BAD).event 0x0704 srcHub k (leAt r 4 4) (leAt r 8 4) c.toNat
          let s := if good && !bit (leAt r 3 1) 0 then s.castRecord h i e (r.drop 64) else s
          let s := if s.imageStep ∧ k < s.setup.beads.length then s.cameoBead k else s
          let s := s.wf F.GRAD_UPD_DONE_COUNT (k + 1)
          if (s.updTarget (k + 1)).isNone then s.castDone else s
        | (_, s) => s)

/-! ### LOSS (R233) -/

/-- Add a pair to loss accumulators, exactly. -/
def LossAcc.add (a : LossAcc) (x y : Num) : LossAcc := ⟨a.loss + x.units (-149), a.tokens + y.units (-149), true⟩

/-- LOSS (R233, R291). -/
def execLoss (m : Nat) (d : BitVec 256) (s : State) : Res :=
  let h := descField d 4 1
  let off := descField d 8 4 * 4
  .next (s.issue m d fun s => match s.physOf m with
    | none => s
    | some n =>
      if !(controlHeader d 0xA && descField d 2 2 == 0 && decide (h < 64) && descField d 5 3 == 0 && descZero d 0xC 32) || s.grad.closed then s.fault m 1
      else if s.hWritten n h then s
      else if !s.hValid n h || decide (s.hBytes n h < off + 8) then s.fault m 4
      else
        let (s, ready) := s.touch n (s.hStart n h + off) 8 true
        if !ready then s
        else if s.poisonedAt (s.hAddr n h off) 8 then s.fault m 5
        else
          let x := f32 (BitVec.ofNat 32 (s.rle (s.hAddr n h off) 4))
          let y := f32 (BitVec.ofNat 32 (s.rle (s.hAddr n h (off + 4)) 4))
          let s := if !x.finite || !y.finite then s.countClass 4 1
            else if s.evaluates then { s with health := { s.health with eval := s.health.eval.add x y } }
            else { s with health := { s.health with train := s.health.train.add x y } }
          s.nextDesc m)

end Sys2Proof.Machine
end

