-- ==== Sys2Proof/Machine/Charm.lean ====
section
/-! DEFINITION. Charms: addresses bound into stream programs, and gradient contributions in their order (R255 to R258). -/

namespace Sys2Proof.Machine

/-- The variant of a slot's context (R68). -/
def State.slotVariant (s : State) (k : Nat) : Nat := s.rf (slotFld k 0xC 0 18)

/-- CHARM_ADDR (R255). -/
def execCharmAddr (m : Nat) (d : BitVec 256) (s : State) : Res :=
  let k := descField d 2 2
  let v := s.slotVariant k
  .next (s.issue m d fun s => if !(controlHeader d 0xB && decide (k < 1024) && decide (descField d 5 1 < 4) && decide (descField d 6 1 < 64) && descField d 7 1 == 0 &&
        descZero d 0xC 32) then s.fault m 1
    else match s.physOf m with
      | none => s
      | some n =>
        let o := descField d 8 4
        if s.slotState k = slFree ∨ o % 16 ≠ 0 ∨ s.ctxTensors v ≤ descField d 4 1 then s.fault m 4
        else match s.ctxPart v (descField d 4 1) (descField d 5 1) (s.ctxElem v) with
          | none => s.fault m 4
          | some (off, _) =>
            s.putAddress m n (descField d 6 1) o (s.rf F.CHARM_REGION_BASE_GIB * 2 ^ 30 + s.ctx v 0xC 4 * 4096 + off))

/-! ### CGACC (R256, R257) -/

/-- A micro-batch's contribution to a part so far. -/
def State.charmAdd (s : State) (v j part : Nat) (k : CharmSlot) : CharmAdd :=
  (s.charm.adds.find? (fun a => a.variant == v && a.tensor == j && a.part == part && a.slot == k)).getD ⟨v, j, part, k, 0, false⟩

/-- Put a contribution. -/
def State.setCharmAdd (s : State) (a : CharmAdd) : State :=
  let l := s.charm.adds.filter (fun b => !(b.variant == a.variant && b.tensor == a.tensor && b.part == a.part && b.slot == a.slot))
  { s with charm := { s.charm with adds := a :: l } }

/-- The backward round of a micro-batch, after every other where the list names none. -/
def State.backRound (s : State) (k : CharmSlot) : Nat :=
  ((List.range s.roundCount).find? (fun r => match s.roundEntry r with
    | some e => roundDir e == 1 && roundVstage e == k.vstage && decide (leAt e 2 2 ≤ k.mb) && decide (k.mb < leAt e 2 2 + leAt e 1 1)
    | none => false)).getD 65536

/-- The slots of a context that train in this step: those open, then those that have been closed. -/
def State.charmSlots (s : State) (v : Nat) : List CharmSlot :=
  ((s.slotsOpen.filter (fun i => s.slotVariant i == v && s.rf (slotFld i 2 0 1) != 1)).map s.charmSlot) ++
    (s.charm.past.filter (fun e => e.1 == v)).map (·.2)

/-- Whether every slot of the context that comes before a slot has completed a part (R257): in the order of their backward rounds, then of their numbers. One that was
closed without LAST goes on holding those after it. -/
def State.charmTurn (s : State) (v j part : Nat) (k : CharmSlot) : Bool :=
  (s.charmSlots v).all (fun i => i == k || decide (s.backRound k * 1024 + k.slot < s.backRound i * 1024 + i.slot) || (s.charmAdd v j part i).last)

/-- CGACC's fields (R291). -/
def cgaccDecode (d : BitVec 256) : Bool :=
  controlHeader d 0xC && decide (descField d 2 2 < 1024) && bits (descField d 5 1) 2 5 == 0 && decide (descField d 6 1 < 64) && descField d 7 1 == 0 &&
    descZero d 0x14 32

/-- What a CGACC names: its variant, tensor, part and micro-batch. -/
def State.cgaccKey (s : State) (d : BitVec 256) : Nat × Nat × Nat × CharmSlot :=
  (s.slotVariant (descField d 2 2), descField d 4 1, bits (descField d 5 1) 0 2, s.charmSlot (descField d 2 2))

/-- The elements of a part that a micro-batch's CGACCs have covered, those that are held included, and whether LAST is among them (R256). -/
def State.cgaccCovered (s : State) (d : BitVec 256) : Nat × Bool :=
  let k := s.cgaccKey d
  let a := s.charmAdd k.1 k.2.1 k.2.2.1 k.2.2.2
  (s.charm.held.filter (fun e => s.cgaccKey e.2.2 == k)).foldl (fun (c : Nat × Bool) e =>
    (descField e.2.2 0xC 4 + descField e.2.2 0x10 4, c.2 || bit (descField e.2.2 5 1) 7)) (a.covered, a.last)

/-- Where the accumulators of a CGACC's part begin in its range (R256), where it is permitted and comes in order; none where it faults. -/
def State.cgaccPart (s : State) (d : BitVec 256) : Option Nat :=
  let k := descField d 2 2
  let v := s.slotVariant k
  let (covered, closed) := s.cgaccCovered d
  let last := bit (descField d 5 1) 7
  let at0 := descField d 0xC 4
  let past := at0 + descField d 0x10 4
  match s.ctxPart v (descField d 4 1) (bits (descField d 5 1) 0 2) 4 with
  | none => none
  | some (off, elems) =>
    if s.slotState k = slFree || !s.ctxTrain v || s.rf (slotFld k 2 0 1) == 1 || s.evaluates || s.grad.closed || closed || at0 ≠ covered ||
        decide (elems < past) || (last && past != elems) then none
    else some off

/-- Whether a contribution to a part writes it (R257): the accumulators are of another step or another attempt of it, or no other micro-batch has added to the part
in this attempt. -/
def State.charmFresh (s : State) (v j part : Nat) (k : CharmSlot) : Bool :=
  s.ctx v 0x20 4 != s.rf F.CHAIN_STEP_STEP || s.ctx v 0x24 2 != s.rf F.CHARM_ATTEMPT_COUNT % 65536 ||
    !s.charm.adds.any (fun a => a.variant == v && a.tensor == j && a.part == part && a.slot != k)

/-- The words that a CGACC adds: the module address of the first. -/
def State.cgaccSrc (s : State) (n : Nat) (d : BitVec 256) : Nat := s.hAddr n (descField d 6 1) (4 * descField d 8 4)

/-- Add a CGACC whose turn has come (R257): the first contribution to a part in an attempt of the step writes it, later ones add. -/
def State.cgaccAdd (s : State) (n : Nat) (d : BitVec 256) (off : Nat) : State :=
  let (v, j, part, k) := s.cgaccKey d
  let count := descField d 0x10 4
  let src := s.cgaccSrc n d
  let dst := s.rf F.CHARM_ACC_REGION_BASE_GIB * 2 ^ 30 + s.ctx v 0x14 4 * 4096 + off + 4 * descField d 0xC 4
  let fresh := s.charmFresh v j part k
  let word := fun a i => BitVec.ofNat 32 (s.rle (a + 4 * i) 4)
  let out := (List.range count).map (fun i => fAdd (if fresh then f32Zero else word dst i) (word src i))
  let last := bit (descField d 5 1) 7
  let s := (s.wake dst (4 * count)).store dst (out.flatMap (fun w => natLe w.toNat 4))
  let s := (s.setCtx v 0x20 4 (s.rf F.CHAIN_STEP_STEP)).setCtx v 0x24 2 (s.rf F.CHARM_ATTEMPT_COUNT % 65536)
  let s := s.setCharmAdd ⟨v, j, part, k, descField d 0xC 4 + count, last⟩
  (s.bump (F.CHARM_CNT_COUNT 0) 1).bump (F.CHARM_CNT_COUNT 1) (b2n last)

/-- A CGACC before its turn is held, its task going on (R124, R257). -/
def State.cgaccHold (s : State) (m : Nat) (d : BitVec 256) : State :=
  let id := match s.curTask m with | some t => t.id | none => 0
  ({ s with charm := { s.charm with held := s.charm.held ++ [(m, id, d)] } } : State).bump (F.CHARM_CNT_COUNT 2) 1

/-- CGACC (R256, R257): out of order or not permitted, it faults; before its turn, it is held. -/
def execCgacc (m : Nat) (d : BitVec 256) (u : Upset) (s : State) : Res :=
  let k := descField d 2 2
  let h := descField d 6 1
  .next (s.issue m d fun s => if !cgaccDecode d then s.fault m 1
    else match s.physOf m with
      | none => s
      | some n =>
        if s.hWritten n h then s
        else match s.cgaccPart d with
          | none =>
            ((s.raise F.CHARM_ERR_COVER).event 0x0901 srcHub m (s.slotVariant k) (descField d 4 1) (bits (descField d 5 1) 0 2)).fault m 4
          | some off =>
            if !s.hValid n h || decide (s.hBytes n h < 4 * (descField d 8 4 + descField d 0x10 4)) then s.fault m 4
            else
              let (s, ready) := s.touchHandles n [(h, true)]
              if !ready then s
              else
                let s := s.meet u
                if s.poisonedAt (s.cgaccSrc n d) (4 * descField d 0x10 4) then s.fault m 5
                else if s.charmTurn (s.slotVariant k) (descField d 4 1) (bits (descField d 5 1) 0 2) (s.charmSlot k) then (s.cgaccAdd n d off).nextDesc m
                else (s.cgaccHold m d).nextDesc m)

/-- CGACC_RELEASE (R257): the first CGACC held for a core whose turn has come. A task that waited for nothing else ends. -/
def execCgaccRelease (m : Nat) (s : State) : Res :=
  let turn := fun (d : BitVec 256) => let k := s.cgaccKey d; s.charmTurn k.1 k.2.1 k.2.2.1 k.2.2.2
  .next (match s.charm.held.find? (fun e => e.1 == m && turn e.2.2), s.physOf m with
    | some (_, id, d), some n =>
      match s.ctxPart (s.slotVariant (descField d 2 2)) (descField d 4 1) (bits (descField d 5 1) 0 2) 4 with
      | none => s
      | some (off, _) =>
        let (s, ready) := s.touchHandles n [(descField d 6 1, true)]
        if !ready then s
        else (State.cgaccAdd { s with charm := { s.charm with held := s.charm.held.erase (m, id, d) } } n d off).settleTask m
    | _, _ => s)

end Sys2Proof.Machine
end

