-- ==== Sys2Proof/Machine/Reg.lean ====
section
/-! DEFINITION. Register accesses from the host: plain writes, the two halves of a pair (R8 to R10, R487 to R490). -/

namespace Sys2Proof.Machine

/-- The die a block of BAR0 lives on, as POWER.TEMP numbers dies; none for the blocks of the Locket, which stay in service (R346, R386,
R406). -/
def blockDie (x : Nat) : Option Nat :=
  if x < 0x00200000 then none
  else if x < 0x00800000 then some 0
  else if x < 0x00880000 then some 17
  else if x < 0x00A00000 then some 18
  else if x < 0x00A21000 then some 17
  else if x < 0x00C00000 then some 18
  else if x < 0x00E00000 then some 17
  else if x < 0x01000000 then none
  else if x < 0x01400000 then some 0
  else if x < 0x01700000 then none
  else if x < 0x02000000 then some 0
  else if x < 0x03000000 then some ((x - 0x02000000) / 0x00100000 + 1)
  else none

/-- Whether the die of a block has supply. -/
def State.dieUp (s : State) (x : Nat) : Bool :=
  match blockDie x with
  | none => true
  | some d => s.power.dies.contains d

/-- The physical core whose slot window holds offset x, where one does (R486). -/
def slotOf (x : Nat) : Option Nat :=
  if 0x02000000 ≤ x ∧ x < 0x03000000 then
    let y := x - 0x02000000
    if y % 0x40000 / 0x8000 < 6 then some (y / 0x100000 * 24 + y % 0x100000 / 0x40000 * 6 + y % 0x40000 / 0x8000) else none
  else none

/-- Whether the slot that x lies in answers: CORE.ID always does, every other register only of a presented slot (R487). -/
def State.slotAnswers (s : State) (x : Nat) : Bool :=
  match slotOf x with
  | none => true
  | some n => decide (x = slotBase n) || s.flag (F.CORE_ID_ENABLED n)

/-- What a read of a register returns (R9, R487, R489): 0 from a block on a die without supply and from a slot not presented. -/
def State.busRead (s : State) (x : Nat) : Word :=
  if s.dieUp x && s.slotAnswers x && (rowOf x).isSome then s.rd x else 0

/-- One field of a plain write (R9, R10): RW stores, W1C clears where a 1 is written, W1S sets where a 1 is written; a field with a
command of its own is left to that command. -/
def writeField (old v : Nat) (f : FieldDef) : Nat :=
  if f.own then old
  else match f.acc with
    | .rw => insertBits old f.lo f.width (bits v f.lo f.width)
    | .w1c => insertBits old f.lo f.width (bits old f.lo f.width &&& (2 ^ f.width - 1 - bits v f.lo f.width))
    | .w1s => insertBits old f.lo f.width (bits old f.lo f.width ||| bits v f.lo f.width)
    | _ => old

/-- The word a plain write leaves in a register. -/
def writeWord (r : RegRow) (old v : Nat) : Nat := r.fields.foldl (fun a f => writeField a v f) old

/-- Registers whose fields refuse some values: Q[q].CFG.LOG2_SIZE takes 6 to 16 only, Q[q].STALL ignores 0 (R300). -/
def refuseValue (x old v : Nat) : Nat :=
  if 0x00200100 ≤ x ∧ x < 0x00200300 ∧ x % 0x40 = 0x10 then
    (if 6 ≤ bits v 0 5 ∧ bits v 0 5 ≤ 16 then v else insertBits v 0 5 (bits old 0 5))
  else if 0x00200100 ≤ x ∧ x < 0x00200300 ∧ x % 0x40 = 0x24 then (if v = 0 then old else v)
  else v

/-- Keep a word written to a write-only buffer, of which a read returns 0 (R415, R432): IMG_WIN, AMEND_BUF, KEY_BUF. -/
def State.bufferWrite (s : State) (x : Nat) (v : Word) : State :=
  if (0x50000 ≤ x ∧ x < 0x60000) ∨ (0x60000 ≤ x ∧ x < 0x61000) ∨ (0x1000 ≤ x ∧ x < 0x1190) then
    { s with buffers := SMap.set (fun _ => (0 : Word)) s.buffers x v }
  else s

/-- n bytes of a write-only buffer from offset x up, as the Locket reads them. -/
def State.bufferBytes (s : State) (x n : Nat) : List Byte :=
  ((List.range ((n + 3) / 4)).flatMap (fun i => natLe (SMap.get (fun _ => (0 : Word)) s.buffers (x + 4 * i)).toNat 4)).take n

/-- A write that clears the mask of an MSI-X vector sends its pending message (R388). -/
def State.afterWrite (s : State) (x : Nat) : State :=
  if 0x00101000 ≤ x ∧ x < 0x00101400 ∧ x % 16 = 12 then s.msixRelease ((x - 0x00101000) / 16) else s

/-- What a plain write of a DWORD does once the access rules let it through. -/
def State.plainWrite (s : State) (x : Nat) (v : Word) : State :=
  match rowOf x with
  | none => s
  | some r =>
    let old := (s.rd x).toNat
    let s := s.bufferWrite x v
    (s.wr x (BitVec.ofNat 32 (writeWord r old (refuseValue x old v.toNat)))).afterWrite x

/-- Whether the endpoint hands a write on (R386, R487, R488): the address is aligned to 4 B, all byte enables are set, the die has
supply, the slot is presented. In D3hot the function answers no memory request (R390), and after a power fail the module admits none (R348). -/
def State.writeGoes (s : State) (x : Nat) (enables : Bool) : Bool :=
  enables && !s.pcie.d3hot && !s.power.failing && decide (x % 4 = 0) && s.dieUp x && s.slotAnswers x

/-- A write to a block on a die not yet released is dropped and sets ERR.EARLY (R386). -/
def State.earlyWrite (s : State) (x : Nat) : State :=
  if s.dieUp x || s.pcie.d3hot || s.power.failing then s else s.raise F.HOSTIF_ERR_EARLY

/-- The Loupe records a write to BAR0 that goes in (R331). -/
def State.traceReg (s : State) (x : Nat) (v : Word) : State := s.trace 0x01 0xFE 0 (x + 2 ^ 32 * v.toNat) 0 0

/-- REG_WRITE (R9). -/
def execRegWrite (x : Nat) (v : Word) (enables : Bool) (s : State) : Res :=
  .next (if s.writeGoes x enables then (s.traceReg x v).plainWrite x v else if enables && decide (x % 4 = 0) then s.earlyWrite x else s)

/-- PAIR_LO_READ (R8): the read returns _LO and captures _HI into the shadow that the next _HI read returns. That read, of the register after _LO, is given by
the same command: it returns the shadow, which then ends, and without one the register. -/
def execPairLoRead (x : Nat) (s : State) : Res :=
  .next (if s.power.failing then s
    else if isPairLo x then
      { s with shadows := SMap.set (fun _ => none) s.shadows (x + 4) (some (s.busRead (x + 4))) }.toHost (.readDone (s.busRead x))
    else if isPairLo (x - 4) && decide (4 ≤ x) then
      { s with shadows := SMap.set (fun _ => none) s.shadows x none }.toHost
        (.readDone ((SMap.get (fun _ => none) s.shadows x).getD (s.busRead x)))
    else s)

/-- PAIR_HI_WRITE (R8): the pair takes effect with the _LO value last written. -/
def execPairHiWrite (x : Nat) (v : Word) (s : State) : Res :=
  .next (if isPairLo (x - 4) && decide (4 ≤ x) && s.writeGoes x true then
      match rowOf x with
      | none => s
      | some r =>
        if r.fields.any (fun f => f.acc == .rw) then
          let hi := r.fields.foldl (fun a f => insertBits a f.lo f.width (bits v.toNat f.lo f.width)) 0
          let s := (s.traceReg x v).wr x (BitVec.ofNat 32 hi)
          s.setPair (x - 4) (BitVec.ofNat 64 ((s.rd (x - 4)).toNat + 2 ^ 32 * hi))
        else s
    else if isPairLo (x - 4) && decide (4 ≤ x) && decide (x % 4 = 0) then s.earlyWrite x
    else s)

/-- Put every field of a row that belongs to a reset domain back to its reset value; sticky fields keep theirs (R491). -/
def resetWordKeep (r : RegRow) (old : Nat) : Nat :=
  r.fields.foldl (fun a f => if f.sticky then a else insertBits a f.lo f.width f.reset) old

/-- Reset one domain of R491. -/
def State.resetDomain (s : State) (d : Dom) : State :=
  let regs := s.regs.foldl (fun acc e =>
    match rowOf e.1 with
    | some r => SMap.set regReset acc e.1 (if r.dom == d then BitVec.ofNat 32 (resetWordKeep r e.2.toNat) else e.2)
    | none => SMap.set regReset acc e.1 e.2) []
  let keep := fun (x : Nat) => match rowOf x with | some r => !(r.dom == d) | none => true
  { s with regs := regs, pairs := s.pairs.filter (fun e => keep e.1), shadows := s.shadows.filter (fun e => keep e.1) }

end Sys2Proof.Machine
end

