-- ==== Sys2Proof/Machine/Event.lean ====
section
/-! DEFINITION. Event records in flash, clearing, reading, and the lifetime image (chapter 21). -/

namespace Sys2Proof.Machine

/-- The bytes of a record (R434). -/
def EvRec.bytes (r : EvRec) : List Byte :=
  natLe r.code.toNat 2 ++ natLe r.source.toNat 2 ++ natLe r.seq.toNat 4 ++ natLe r.time.toNat 8 ++
    natLe r.p0.toNat 4 ++ natLe r.p1.toNat 4 ++ natLe r.p2.toNat 4 ++ natLe r.p3.toNat 4

/-- Flash areas of R442. -/
def foundingBase : Nat := 0x0C500000
def ledgerBase : Nat := 0x0C520000
def circBase : Nat := 0x0C530000

/-- Slots of the circulating area and of one of its sectors (R442, R444). -/
def circSlots : Nat := 32768
def sectorSlots : Nat := 2048

/-- The next sector that is not bad, k at most 16 ahead (R444). -/
def nextSector (bad : List Nat) : Nat → Nat → Nat
  | 0, k => k
  | n + 1, k => if bad.contains ((k + 1) % 16) then nextSector bad n ((k + 1) % 16) else (k + 1) % 16

/-- The circulating sectors kept bad show in STATUS and shorten CAP.WINDOW beyond six (R444). -/
def State.showSectors (s : State) : State :=
  let n := s.ev.badSectors.length
  (s.wf F.EVENT_STATUS_BAD_SECTORS n).wf F.EVENT_CAP_WINDOW (16384 - 2048 * (n - 6))

/-- A flash failure of the event area (R444): ERR.FLASH and EVENT_FLASH. -/
def State.evFlashFail (s : State) : State := (s.raise F.EVENT_ERR_FLASH).event 0x0005 srcLocket 0 0 0 0

/-- Beginning to write a sector erases the sector after the next one; a failed erase marks that sector bad (R444). -/
def State.beginSector (s : State) (k : Nat) (eraseFails : Bool) : State :=
  let a := nextSector s.ev.badSectors 16 (nextSector s.ev.badSectors 16 k)
  if eraseFails then
    ({ s with ev := { s.ev with badSectors := s.ev.badSectors ++ [a] } }.showSectors).evFlashFail
  else s.eraseFlash (circBase + a * 65536) 65536

/-- Move the circulating write point to the page after its own, into the next good sector at a sector's end. -/
def State.nextPage (s : State) (eraseFails : Bool) : State :=
  let c := (s.ev.circ / 8 + 1) * 8
  if c % sectorSlots = 0 then
    let k := nextSector s.ev.badSectors 16 ((c / sectorSlots + 15) % 16)
    { s with ev := { s.ev with circ := k * sectorSlots } }.beginSector k eraseFails
  else { s with ev := { s.ev with circ := c % circSlots } }

/-- Program one page of at most eight records at the circulating write point, and each record of SEQ below 4,096 into the founding area;
a failed program is retried once on the next page (R442, R444). -/
def State.flushPage (s : State) (recs : List EvRec) (fails eraseFails : Bool) : State :=
  let s := if fails then (s.nextPage eraseFails).evFlashFail else s
  let s := s.wflash (circBase + s.ev.circ * 32) (recs.flatMap EvRec.bytes)
  let s := recs.foldl (fun (s : State) r => if r.seq.toNat < 4096 then s.wflash (foundingBase + r.seq.toNat * 32) r.bytes else s) s
  s.nextPage eraseFails

/-- Program pages of eight records, numbered from i. -/
def State.flushPages (pageFails : List Nat) (eraseFails : Bool) : Nat → Nat → List EvRec → State → State
  | 0, _, _, s => s
  | k + 1, i, l, s =>
    if l.isEmpty then s
    else State.flushPages pageFails eraseFails k (i + 1) (l.drop 8) (s.flushPage (l.take 8) (pageFails.contains i) eraseFails)

/-- FLUSH (R438). -/
def execFlush (s : State) : Res := .next s.startFlush

/-- A record as 32 bytes of flash spell it. -/
def evParse (l : List Byte) : EvRec :=
  ⟨BitVec.ofNat 16 (leAt l 0 2), BitVec.ofNat 16 (leAt l 2 2), BitVec.ofNat 32 (leAt l 4 4), BitVec.ofNat 64 (leAt l 8 8),
   BitVec.ofNat 32 (leAt l 16 4), BitVec.ofNat 32 (leAt l 20 4), BitVec.ofNat 32 (leAt l 24 4), BitVec.ofNat 32 (leAt l 28 4)⟩

/-- The programmed slots of a flash area, in ascending order, as slot number and record; erased slots are skipped (R437). -/
def State.slots (s : State) (base n : Nat) : List (Nat × EvRec) :=
  let keys := (s.flash.filter (fun e => decide (base ≤ e.1) && decide (e.1 < base + n * 32))).map (fun e => (e.1 - base) / 32)
  ((keys.eraseDups).map (fun k => (k, evParse (s.rflash (base + k * 32) 32)))).filter (fun e => e.2.code != 0xFFFF)

/-- The records of the circulating area, oldest first: those past the write point are the older lap. -/
def State.circRecords (s : State) : List EvRec :=
  let l := s.slots circBase circSlots
  (l.filter (fun e => decide (s.ev.circ ≤ e.1)) ++ l.filter (fun e => decide (e.1 < s.ev.circ))).map (·.2)

/-- Whether a clear hides a record of the circulating area (R447). -/
def hiddenBy (upto : Nat) (everCleared : Bool) (r : EvRec) : Bool :=
  everCleared && !privileged r.code.toNat && decide (r.seq.toNat ≤ upto)

/-- The visible records of the readable window (R444, R447). -/
def State.window (s : State) : List EvRec :=
  let l := s.circRecords
  let l := l.drop (l.length - s.rf F.EVENT_CAP_WINDOW)
  l.filter (fun r => !hiddenBy (s.rf F.EVENT_CLEARED_UPTO_VALUE) (decide (0 < s.rf F.EVENT_CSEQ_VALUE)) r)

/-- Commit an accepted clear (R446): the EVENT_CLEARED record to the ledger and to the circulating area, then CLEARED_UPTO and CSEQ. -/
def State.commitClear (s : State) (upto cseq keyId : Word) : State :=
  let n := (s.circRecords.filter (fun r => !privileged r.code.toNat && decide (r.seq.toNat ≤ upto.toNat) &&
    !hiddenBy (s.rf F.EVENT_CLEARED_UPTO_VALUE) (decide (0 < s.rf F.EVENT_CSEQ_VALUE)) r)).length
  let q := s.rf F.EVENT_SEQ_SEQ
  let r : EvRec := ⟨0x0003, BitVec.ofNat 16 srcLocket, BitVec.ofNat 32 q, s.timeField, upto, cseq, keyId, BitVec.ofNat 32 n⟩
  let s := { s with free := s.free + 1 }
  let s := (s.wf F.EVENT_SEQ_SEQ (q + 1)).life 0x5440 1
  let s := s.wflash (ledgerBase + s.ev.ledger * 32) r.bytes
  let s := { s with ev := { s.ev with ledger := s.ev.ledger + 1, clear := none } }
  let s := s.flushPage [r] false false
  (s.wf F.EVENT_CLEARED_UPTO_VALUE upto.toNat).wf F.EVENT_CSEQ_VALUE cseq.toNat

/-- Report the records lost once the buffer has room (R439). -/
def State.reportLost (s : State) : State :=
  if s.ev.lost = 0 then s
  else
    let n := s.ev.lost
    { s with ev := { s.ev with lost := 0 } }.event 0x0001 srcLocket n 0 0 0

/-- EVENT_FLUSH_DONE (R438, R444): the records the flush covers are in flash and leave the buffer. -/
def execEventFlushDone (pageFails : List Nat) (eraseFails : Bool) (s : State) : Res :=
  .next (if s.flag F.EVENT_STATUS_FLUSHING then
      let recs := s.ev.buf.take s.ev.flushN
      let s := { s with ev := { s.ev with buf := s.ev.buf.drop s.ev.flushN, flushN := 0 } }
      let s := (s.wflag F.EVENT_STATUS_FLUSHING false).wf F.EVENT_STATUS_UNFLUSHED s.ev.buf.length
      let s := State.flushPages pageFails eraseFails 128 0 recs s
      let s := match s.ev.clear with
        | some (u, c, k) => s.commitClear u c k
        | none => s
      s.reportLost
    else s)

/-! ### Signatures of owner keys (R399, R424) -/

/-- Split a signed object of LEN bytes into its body, its KEY_ID and its signature; none where the block's other bytes are not 0. -/
def splitSigned (obj : List Byte) : Option (List Byte × Nat × List Byte) :=
  if obj.length < 512 then none
  else
    let body := obj.take (obj.length - 512)
    let blk := obj.drop (obj.length - 512)
    if ((blk.drop 4).take 12).all (fun b => b == 0#8) && (blk.drop 400).all (fun b => b == 0#8) then
      some (body, leAt blk 0 4, (blk.drop 16).take 384)
    else none

/-- Whether an object's signature verifies under the owner key its KEY_ID names (R424). -/
def State.ownerVerify (s : State) (body : List Byte) (keyId : Nat) (sig : List Byte) : Bool :=
  if 0x00010000 ≤ keyId ∧ keyId < 0x00010008 then
    match nth s.locket.owners (keyId - 0x00010000) none with
    | some k => pssVerify k.modulus body sig
    | none => false
  else false

/-- A failed signature on any object sets LOCKET.ERR.SIGNATURE and records the privileged LOCKET_SIGNATURE (R432, R436). -/
def State.signatureFail (s : State) : State := (s.raise F.LOCKET_ERR_SIGNATURE).event 0xF004 srcLocket 0 0 0 0

/-- Why a clear token is refused, or none (R446): 1 format, 2 signature, 3 serial, 4 sequence, 5 range, 6 ledger full. -/
def State.clearReason (s : State) (t : List Byte) : Option Nat :=
  match splitSigned t with
  | none => some 1
  | some (body, keyId, sig) =>
    let zero := fun (i : Nat) => !(i < 6 || (8 ≤ i && i < 24))
    if leAt t 0 4 ≠ 0x54524C43 ∨ leAt t 4 2 ≠ 0x0100 ∨ ((List.range 64).filter zero).any (fun i => nth t i 0#8 != 0#8) then some 1
    else if !s.ownerVerify body keyId sig then some 2
    else if leAt t 8 8 = 0 ∨ leAt t 8 8 ≠ s.locket.serial.toNat then some 3
    else if leAt t 16 4 ≠ s.rf F.EVENT_CSEQ_VALUE + 1 then some 4
    else if s.rf F.EVENT_SEQ_SEQ ≤ leAt t 20 4 then some 5
    else if 255 ≤ ((s.slots ledgerBase 256).filter (fun e => e.2.code == 0x0003)).length then some 6
    else none

/-- CLEAR_SUBMIT (R446). A submission made after a power fail has begun is refused with no reason of the list. -/
def execClearSubmit (s : State) : Res :=
  let t := s.bufferBytes 0x60000 576
  .next (match (if s.power.failing then some 0 else s.clearReason t) with
    | some r =>
      let s := if r = 2 then s.signatureFail else s
      (s.raise F.EVENT_ERR_CLEAR).event 0x0004 srcLocket r 0 0 0
    | none =>
      { s with ev := { s.ev with clear := some (BitVec.ofNat 32 (leAt t 20 4), BitVec.ofNat 32 (leAt t 16 4), BitVec.ofNat 32 (leAt t 64 4)) } }.startFlush)

/-- Put a record's eight words at place i of EVENT.WIN. -/
def State.putWin (s : State) (i : Nat) (r : EvRec) : State :=
  (List.range 8).foldl (fun (s : State) k => s.wf (F.EVENT_WIN_WORD (i * 8 + k)) (leAt r.bytes (4 * k) 4)) s

/-- The records of the area RD_AREA names, from its index 0 up (R445). -/
def State.readArea (s : State) : List EvRec :=
  match s.rf F.EVENT_RD_AREA_AREA with
  | 0 => (s.slots foundingBase 4096).map (·.2)
  | 1 => (s.slots ledgerBase 256).map (·.2)
  | 2 => s.window
  | _ => s.ev.buf

/-- RD_GO (R445): up to 128 records of the area from RD_INDEX into WIN. -/
def execRdGo (s : State) : Res :=
  let l := (s.readArea.drop (s.rf F.EVENT_RD_INDEX_INDEX)).take 128
  .next ((((List.range 128).zip l).foldl (fun (s : State) e => s.putWin e.1 e.2) s).wf F.EVENT_RD_COUNT_COUNT l.length)

/-- TOKEN_REFILL (R440): the bucket of the code gains a token, up to its cap. -/
def execTokenRefill (code : Nat) (s : State) : Res :=
  .next { s with ev := { s.ev with tokens := SMap.set bucketCap s.ev.tokens code
                                     (min (SMap.get bucketCap s.ev.tokens code + 1) (bucketCap code)) } }

/-- The summary record of one code (R440). -/
def State.summary (s : State) (e : Nat × Nat) : State :=
  match SMap.get (fun _ => (none : Option Word)) s.ev.lastSeq e.1 with
  | some q => s.event 0x0002 srcLocket e.1 e.2 q.toNat 1
  | none => s.event 0x0002 srcLocket e.1 e.2 0 0

/-- EVENT_SUPPRESSED (R440): one summary for each code that had suppressions since its last. -/
def execEventSuppressed (s : State) : Res :=
  .next (s.ev.suppressed.foldl State.summary { s with ev := { s.ev with suppressed := [] } })

/-! ### Lifetime data (R448, R449) -/

/-- Clamp a bin number given as an integer to 0 to 63. -/
def bin64 (x : Int) : Nat := if x < 0 then 0 else min x.toNat 63

/-- A second of operating time (R448): each time histogram gains a second in its current bin; the hour advances. -/
def State.lifeSecond (supplies : List Nat) (s : State) : State :=
  let s := s.life (0x40 + 4 * bin64 (((s.rf F.POWER_VIN_VOLTS : Int) - 2800) / 25)) 1
  let s := s.life (0x140 + 4 * bin64 (((s.rf F.POWER_PACE_NOW_P : Int) - 0x6000) / 1024)) 1
  let s := (List.range 20).foldl (fun (s : State) d => s.life (0x400 + d * 256 + 4 * bin64 ((s.rf (F.POWER_TEMP_NOW d) : Int) / 2)) 1) s
  let s := ((List.range 20).zip supplies).foldl (fun (s : State) e => s.life (0x1800 + e.1 * 256 + 4 * bin64 (((e.2 : Int) - 450) / 10)) 1) s
  let s := s.life (0x2C00 + 4 * bin64 ((s.rf F.POWER_COOL_INLET : Int) - 10)) 1
  let s : State := { s with lifeX := { s.lifeX with sinceWrite := s.lifeX.sinceWrite + 1 } }
  if s.ev.second + 1 < 3600 then { s with ev := { s.ev with second := s.ev.second + 1 } }
  else
    let s := { s with ev := { s.ev with second := 0 }, power := { s.power with coolSeen := false } }
    s.wf F.LIFE_HOURS_HOURS (s.rf F.LIFE_HOURS_HOURS + 1)

/-- LIFE_SECOND (R448). -/
def execLifeSecond (supplies : List Nat) (s : State) : Res := .next (s.lifeSecond supplies)

/-- The lifetime image's words as the registers hold them: image offset and word. -/
def State.lifeWords (s : State) : List (Nat × Word) :=
  (s.regs.filter (fun e => decide (0x01490000 ≤ e.1) && decide (e.1 < 0x014A0000))).map (fun e => (e.1 - 0x01490000, e.2))

/-- Start a snapshot: the header is brought up to date and the image taken (R448, R449). -/
def State.startSnapshot (s : State) : State :=
  let s := (s.wf (lifeFld 0) 0x4546494C).wf (lifeFld 4) 0x0100
  let s := (s.wf (lifeFld 8) (s.rf F.LIFE_LSEQ_LSEQ + 1)).wf (lifeFld 0xC) (s.rf F.LIFE_HOURS_HOURS)
  let s := { s.wpair (lifeFld 0x10) (lifeFld 0x14) s.edges with free := s.free + 1 }
  let s := s.wpair (lifeFld 0x18) (lifeFld 0x1C) s.locket.serial.toNat
  let s := s.wflag F.LIFE_STATUS_WRITING true
  { s with lifeX := { s.lifeX with sinceWrite := 0, writing := some s.lifeWords } }

/-- LIFE_SNAPSHOT (R449). -/
def execLifeSnapshot (s : State) : Res := .next (if s.lifeX.writing.isNone then s.startSnapshot else s)

/-- WRITE_NOW (R454). -/
def execWriteNow (s : State) : Res := .next (if s.lifeX.writing.isNone then s.startSnapshot else s)

/-- The 64 KiB of a snapshot: the image's words and the CRC-32C over them (R448). -/
def snapshotBytes (img : List (Nat × Word)) : List Byte :=
  let body := (List.range 16383).flatMap (fun k => natLe (SMap.get (fun _ => (0 : Word)) img (4 * k)).toNat 4)
  body ++ natLe (crc32c body) 4

/-- LIFE_SNAPSHOT_DONE (R449): the slot is written and the next one erased, or the write failed and the next slot is taken. -/
def execLifeSnapshotDone (ok : Bool) (s : State) : Res :=
  .next (match s.lifeX.writing with
    | none => s
    | some img =>
      let k := s.lifeX.nextSlot
      let n := (k + 1) % 240
      let s := s.wflag F.LIFE_STATUS_WRITING false
      if ok then
        let s := s.wflash (0x0C900000 + k * 65536) (snapshotBytes img)
        let s := s.eraseFlash (0x0C900000 + n * 65536) 65536
        let s := (s.wf F.LIFE_STATUS_SLOT k).wf F.LIFE_LSEQ_LSEQ (s.rf F.LIFE_LSEQ_LSEQ + 1)
        { s with lifeX := { s.lifeX with writing := none, base := img, nextSlot := n } }
      else
        let s := { s with lifeX := { s.lifeX with writing := none, nextSlot := n } }
        (s.raise F.LIFE_ERR_WRITE).event 0x0006 srcLocket 0 0 0 0)

end Sys2Proof.Machine
end

