-- ==== Sys2Proof/Machine/HostIf.lean ====
section
/-! DEFINITION. The host interface: the BAR2 window, the DMA gate, resets, interrupts, the DOE mailbox (chapter 18). -/

namespace Sys2Proof.Machine

/-! ### The window (R378, R379) -/

/-- One past the last module address that a window may reach. -/
def windowEnd : Nat := 0x030004000000

/-- The module address of a BAR2 offset (R378). A window past the end wraps to address 0. -/
def State.windowAt (s : State) (x : Nat) : Nat :=
  (bits (s.pairNow F.HOSTIF_WIN_BASE_LO_BASE.off) 30 18 * 2 ^ 30 + x) % windowEnd

/-- What a host access reaches: nothing, memory at an address, an entry of the Charm context table, dynamic Casket space, the store of a slot that is not
presented (R22). -/
inductive HostPlace where
  | unmapped
  | memory (addr : Nat)
  | charm (addr : Nat)
  | dynamic (addr : Nat)
  | absent
  deriving DecidableEq, Repr

/-- Where a module address lies for the host (R19, R22, R187, R379). The physical view of a core that the disabled-unit map marks is absent from the moment it is
marked, that of a core still presented included. -/
def State.hostPlace (s : State) (a : Nat) : HostPlace :=
  if a < 0x020000000000 then .memory a
  else if a < 0x020001000000 then .charm a
  else if a < 0x020100000000 then (if s.dynamicBase ≤ (a - 0x020000000000) / 512 then .dynamic a else .unmapped)
  else if 0x021000000000 ≤ a ∧ a < 0x021180000000 then
    let n := (a - 0x021000000000) / 0x01000000
    if storeBytes ≤ (a - 0x021000000000) % 0x01000000 then .unmapped
    else if s.flag (F.CORE_ID_ENABLED n) && !s.disabled n then .memory a else .absent
  else match s.coreAt a with
    | some (n, o) => .memory (storeBase n + o)
    | none => .unmapped

/-- An access to nothing (R379 rows 2 and 3). -/
def State.hostUnmapped (s : State) (a : Nat) : State :=
  let s := (s.raise F.HOSTIF_ERR_UNMAPPED).bump (F.HOSTIF_CNT_COUNT 4) 1
  let s := (s.wf F.HOSTIF_LAST_ERR_KIND 5).wf F.HOSTIF_LAST_ERR_AGENT 0
  (s.wpair F.HOSTIF_LAST_ERR_ADDR_LO_ADDR F.HOSTIF_LAST_ERR_ADDR_HI_ADDR a).event 0x1000 srcHost 0 0 0 0

/-- Whether the boundary of R23 is under way, from item 1 to item 11. -/
def State.inBoundary (s : State) : Bool := !(s.rf F.FRONT_STATUS_STEP == stepRun || s.rf F.FRONT_STATUS_STEP == stepHalted)

/-- The part of a write that falls into one half of a Charm context entry (R251, R252). -/
def State.charmWrite (s : State) (a : Nat) (data : List Byte) : State :=
  let v := (a - 0x020000000000) / 64
  let o := a % 64
  if 0x20 ≤ o ∨ s.ctx v 0x26 2 % 2048 ≠ 0 then
    ((s.raise F.CHARM_ERR_BUSY_WR).bump (F.CHARM_CNT_COUNT 5) 1).event 0x0902 srcHub v o (s.ctx v 0x26 2 % 2048) 0
  else s.store a data

/-- A write to the context table, half entry by half entry. -/
def State.charmWrites : Nat → Nat → List Byte → State → State
  | 0, _, _, s => s
  | k + 1, a, l, s =>
    if l.isEmpty then s
    else
      let n := 32 - a % 32
      State.charmWrites k (a + n) (l.drop n) (s.charmWrite a (l.take n))

/-- A host access waits, and all behind it. -/
def State.hostWaits (s : State) (h : HostHeld) : State := { s with pcie := { s.pcie with held := s.pcie.held ++ [h] } }

/-- A poisoned write is dropped (R379). -/
def State.hostPoison (s : State) (a : Nat) : State :=
  let s := (s.raise F.HOSTIF_ERR_POISON_IN).wf F.HOSTIF_LAST_ERR_KIND 6
  let s := (s.wf F.HOSTIF_LAST_ERR_AGENT 0).wpair F.HOSTIF_LAST_ERR_ADDR_LO_ADDR F.HOSTIF_LAST_ERR_ADDR_HI_ADDR a
  s.event 0x1002 srcHost 0 0 0 0

/-- What a read finds goes back to the host (R379). -/
def State.hostGives (s : State) (b : Nat) (h : HostHeld) : State :=
  let s := ((s.meet h.upset).wake b h.len).bump (F.HOSTIF_CNT_COUNT 1) (ceilDiv h.len 1024)
  if s.poisonedAt b h.len then
    (((s.raise F.HOSTIF_ERR_POISON_OUT).bump (F.HOSTIF_CNT_COUNT 5) 1).event 0x1002 srcHost 0 0 0 0).toHost (.memPoisoned (s.rbs b h.len))
  else s.toHost (.memDone (s.rbs b h.len))

/-- A write reaches module memory (R379). -/
def State.hostPuts (s : State) (b : Nat) (h : HostHeld) (put : State → State) : State :=
  put (((s.traceData 2 0xFE h.addr h.data).wake b h.data.length).bump (F.HOSTIF_CNT_COUNT 0) (ceilDiv h.data.length 1024))

/-- An access to LPDDR5X or to a core store: it wakes a gated bank and waits for it (R164, R170), and passes through stripes of the HOST stream (R13, R188). -/
def State.hostMemory (s : State) (b : Nat) (h : HostHeld) : State :=
  let run := fun (s : State) => if h.read then s.hostGives b h else s.hostPuts b h (fun s => s.store b h.data)
  let (s, ready) := match s.coreAt b with
    | some (n, o) => s.touch n o (if h.read then h.len else h.data.length) h.read
    | none => (s, true)
  if ready then s.stagedOr 11 ⟨.host, 0⟩ (if h.read then s.rbs b h.len else h.data) (·.hostWaits h) run else s.hostWaits h

/-- A host access to an address that answers, or to none (R379). -/
def State.hostReach (s : State) (h : HostHeld) : State :=
  let last := h.addr + (if h.read then h.len else h.data.length) - 1
  let none1 := fun (s : State) => if h.read then (s.hostUnmapped h.addr).toHost .completerAbort else s.hostUnmapped h.addr
  match s.hostPlace h.addr, s.hostPlace last with
  | .unmapped, _ => none1 s
  | _, .unmapped => none1 s
  | .absent, _ =>
    let s := s.event 0x1000 srcHost 0 0 0 0
    if h.read then s.toHost (.memDone (List.replicate h.len 0#8)) else s
  | .dynamic b, _ =>
    if h.read then s.hostGives b h
    else if s.inBoundary && !h.early then s.hostWaits h
    else if h.poisoned then s.hostPoison h.addr
    else s.hostPuts b h (fun s => s.store b h.data)
  | .charm b, _ =>
    if h.read then s.hostGives b h
    else if h.poisoned then s.hostPoison h.addr
    else s.hostPuts b h (State.charmWrites h.data.length b h.data)
  | .memory b, _ => if !h.read && h.poisoned then s.hostPoison h.addr else s.hostMemory b h

/-- A host access (R379, R380): one behind an access that waits waits too. -/
def State.hostAccess (s : State) (h : HostHeld) : State := if s.pcie.held.isEmpty then s.hostReach h else s.hostWaits h

/-- The accesses that wait go on in their order, as far as they can (R27, R379). Those that still wait when a step runs come before item 1 of its boundary. -/
def State.retryHost (s : State) : State :=
  let now := s.rf F.FRONT_STATUS_STEP == stepRun
  s.pcie.held.foldl (fun (s : State) h => s.hostAccess { h with early := h.early || now }) { s with pcie := { s.pcie with held := [] } }

/-- BAR2_WRITE (R379). -/
def execBar2Write (x : Nat) (data : List Byte) (poisoned : Bool) (s : State) : Res :=
  .next (if s.pcie.d3hot ∨ data.isEmpty ∨ s.power.failing then s
    else if !s.flag F.HOSTIF_STATUS_MODULE_READY then s.raise F.HOSTIF_ERR_EARLY
    else s.hostAccess ⟨false, s.windowAt x, 0, data, poisoned, .none, s.rf F.FRONT_STATUS_STEP == stepRun⟩)

/-- BAR2_READ (R379): behind an access that waits it waits. -/
def execBar2Read (x n : Nat) (s : State) (u : Upset := .none) : Res :=
  .next (if s.power.failing then s else if s.pcie.d3hot then s.toHost .unsupported
    else if !s.flag F.HOSTIF_STATUS_MODULE_READY then (s.raise F.HOSTIF_ERR_EARLY).toHost .completerAbort
    else if n = 0 then s
    else s.hostAccess ⟨true, s.windowAt x, n, [], false, u, s.rf F.FRONT_STATUS_STEP == stepRun⟩)

/-- BANK_WAKE_DONE (R170): every word of the bank is 0; the accesses held are released in arrival order. -/
def execBankWakeDone (n b : Nat) (s : State) : Res := .next (if s.bank n b == .waking then (s.bankAwake n b).retryHost else s)

/-! ### The DMA gate (R384, R390) -/

/-- The handover writes that wait go in their order, as far as they can, with the addresses the registers hold now. -/
def State.retryHandover (s : State) : State :=
  let l := s.pcie.waiting
  let s : State := { s with pcie := { s.pcie with waiting := [] } }
  let s := l.foldl (fun (s : State) w => s.handOver w.charm w.region w.offset w.data) s
  let s := if l.any (fun w => !w.charm) then s.handedOver false else s
  let s := if l.any (fun w => w.charm) then s.handedOver true else s
  if s.rf F.GRAD_STATUS_PHASE = 3 ∧ s.pcie.waiting.isEmpty then s.wf F.GRAD_STATUS_PHASE 4 else s

/-- The gate opens: the handover writes that wait go, then the messages that are pending. -/
def State.openGate (s : State) : State := s.retryHandover.msixReleaseAll

/-- ALLOC_WAIT_GRANT (R190): the waiting requests are retried, and what waited for their stripes goes on. -/
def execAllocWaitGrant (s : State) : Res := .next s.retryAll.sendDeferred.retryHost.retryHandover

/-- After something that the gate depends on has changed. -/
def State.gateChange (s : State) : State := if s.showGate.gated then s.showGate else s.showGate.openGate

/-- DRV_VERSION_WRITE (R387). -/
def execDrvVersionWrite (v : Word) (s : State) : Res :=
  let n := bits v.toNat 0 16
  .next (if s.rf F.HOSTIF_VERSION_MIN ≤ n ∧ n ≤ s.rf F.HOSTIF_VERSION_MAX then
      ((s.wf F.HOSTIF_DRV_VERSION_VERSION n).wf F.HOSTIF_STATUS_NEGOTIATED 1).gateChange
    else (s.raise F.HOSTIF_ERR_VERSION).event 0x1004 srcHost 0 0 0 0)

/-- DMA_EN_WRITE (R384). -/
def execDmaEnWrite (on : Bool) (s : State) : Res := .next (s.wflag F.HOSTIF_CTRL_DMA_EN on).gateChange

/-- BUS_MASTER_ENABLE_WRITE (R384). -/
def execBusMasterEnableWrite (on : Bool) (s : State) : Res := .next { s with pcie := { s.pcie with busMaster := on } }.gateChange

/-- D3HOT_ENTER (R390). -/
def execD3hotEnter (s : State) : Res := .next { s with pcie := { s.pcie with d3hot := true } }.gateChange

/-- D0_RETURN (R390). -/
def execD0Return (s : State) : Res := .next { s with pcie := { s.pcie with d3hot := false } }.gateChange

/-- MSIX_UNMASK (R388). -/
def execMsixUnmask (v : Nat) (s : State) : Res := .next (if v < 64 then (s.wf (F.HOSTIF_MSIX_CTRL_MASK v) 0).msixRelease v else s)

/-! ### Failed reads (R382) -/

/-- LAST_ERR.KIND of a failed read. -/
def errKind : Cpl → Nat
  | .ok => 0
  | .ur => 1
  | .ca => 2
  | .poisoned => 3
  | .timeout => 4

/-- What the requester does (R382, R278). -/
def State.readFailed (s : State) (d : DmaRead) (r : Cpl) : State :=
  match d with
  | .ringEntry q _ =>
    if q < 8 then ((s.wf (F.FRONT_Q_STATUS_FETCH_ERR q) 1).raise F.FRONT_ERR_FETCH).event 0x0B01 srcHub q (s.rf (F.FRONT_Q_HEAD_INDEX q)) 0 0 else s
  | .constant q e => s.command q e 1 (fun s => (s.accept q e).completeNow q e 1 (entGraph e) 0 0)
  | .image q e o => s.command q e (if entOpcode e = 2 then 2 else 3) (fun s => (s.accept q e).refuseGraph q e 9 o)
  | .verify q => s.verified q r

/-- DMA_READ_DONE (R382): a ring entry that has come waits to be accepted (R278); other data comes with the command that it belongs to. It crosses from the host's die
in stripes of the HOST stream (R13, R188). -/
def execDmaReadDone (d : DmaRead) (a : BitVec 64) (r : Cpl) (s : State) : Res :=
  .next (match r with
    | .ok =>
      (match d with
       | .ringEntry q e => s.staged 11 ⟨.host, 1 + q⟩ (natLe e.toNat 64) (fun s => s.fetchEntry q e)
       | _ => s)
    | _ =>
      let s := (s.bump (F.HOSTIF_CNT_COUNT 3) 1).raise F.HOSTIF_ERR_DMA_RD
      let s := (s.wf F.HOSTIF_LAST_ERR_KIND (errKind r)).wf F.HOSTIF_LAST_ERR_AGENT 1
      let s := (s.wpair F.HOSTIF_LAST_ERR_ADDR_LO_ADDR F.HOSTIF_LAST_ERR_ADDR_HI_ADDR a.toNat).event 0x1001 srcHost 0 0 0 0
      s.readFailed d r)

/-! ### Resets (R385) -/

/-- HOST_RESET (R385, R391): the host interface alone. A read-back in flight is discarded, so its record goes to the overflow log as after a timeout:
DEDUCED. The reset itself is counted after the counters are reset, and MODULE_READY and RECOVERY go on showing what they stand for: DEDUCED. -/
def execHostReset (s : State) : Res :=
  let s := (s.front.verifying.map (fun v => v.1.queue)).foldl (fun (s : State) q => s.verified q .timeout) s
  let recovery := s.rf F.HOSTIF_STATUS_RECOVERY
  let s := (s.resetDomain .hostIf).wf F.HOSTIF_STATUS_RECOVERY recovery
  let s : State := { s with pcie := { s.pcie with busMaster := false, funcMask := false, d3hot := false, held := [], doe := [] }
                            front := { s.front with wrapped := [] }
                            locket := { s.locket with doeConn := SpdmConn.reset } }
  let s := if s.rf F.SETUP_STATE_STATE = 10 then s.wf F.HOSTIF_STATUS_MODULE_READY 1 else s
  .next (((s.bump (F.HOSTIF_CNT_COUNT 6) 1).showGate).event 0x1003 srcHost 0 0 0 0)

/-! ### The mailbox (R389) -/

/-- A DOE data object of vendor 0x0001: its type and its body of whole words (the PCI Express standard). -/
def doeObject (ty : Nat) (body : List Byte) : List Byte :=
  natLe 1 2 ++ natLe ty 1 ++ natLe 0 1 ++ natLe ((body.length + 3) / 4 + 2) 4 ++ body ++ List.replicate ((4 - body.length % 4) % 4) 0#8

/-- DOE_DISCOVERY (R389): the Discovery protocol, then CMA-SPDM; past them the standard's answer for none. -/
def execDoeDiscovery (i : Nat) (s : State) : Res :=
  .next (s.toHost (.doe (doeObject 0 (if i = 0 then natLe 1 2 ++ natLe 0 1 ++ natLe 1 1 else if i = 1 then natLe 1 2 ++ natLe 1 1 ++ natLe 0 1
    else natLe 0xFFFF 2 ++ natLe 0xFF 1 ++ natLe 0 1))))

/-- DOE_ABORT (R389). -/
def execDoeAbort (s : State) : Res := .next { s with pcie := { s.pcie with doe := [] } }

end Sys2Proof.Machine
end

