-- ==== Sys2Proof/Machine/Power.lean ====
section
/-! DEFINITION. Pace, power, heat and input voltage (chapter 16), and what the module loses with the supply of its dies. -/

namespace Sys2Proof.Machine

/-! ### Pace (R336 to R341) -/

/-- Lowest pace word, and the units of one pace level (R336). -/
def paceMin : Nat := 0x6000
def paceLevel : Nat := 1024

/-- Put the module pace (R338): a decrease and an increase are counted; STATUS.THROTTLED shows a pace away from the configured one, and PACE_MOVED
that the step has had one (R340, R341). -/
def State.setPace (s : State) (p : Nat) : State :=
  let old := s.rf F.POWER_PACE_NOW_P
  let s := s.wf F.POWER_PACE_NOW_P p
  let s := if p < old then s.bump (F.POWER_CNT_COUNT 0) 1 else if old < p then s.bump (F.POWER_CNT_COUNT 1) 1 else s
  let moved := p != s.rf F.POWER_PACE_TARGET
  let s := (s.wflag F.POWER_STATUS_THROTTLED moved).wflag F.POWER_STATUS_PACE_MOVED (moved || s.flag F.POWER_STATUS_PACE_MOVED)
  { s with power := { s.power with lowest := min s.power.lowest p } }

/-- One level down, not below a bound. -/
def State.paceDown (s : State) (bound : Nat) : State :=
  s.setPace (max bound (s.rf F.POWER_PACE_NOW_P - paceLevel))

/-- The default supply and the supply ceiling of a die, in 2.5 mV steps: 0.75 V and 0.88 V (R337, R338). -/
def supplyDflt : Nat → Int := fun _ => 300
def supplyCeiling : Int := 352

/-- One window of a die's pace regulator (R337): the error accumulator, and one supply step toward zero error. -/
def State.regulate (s : State) (d count : Nat) : State :=
  let e := SMap.get (fun _ => (0 : Int)) s.power.err d + 128 * (count : Int) - (s.rf F.POWER_PACE_NOW_P : Int)
  let v := SMap.get supplyDflt s.power.supply d
  let v := if e < 0 then min (v + 1) supplyCeiling else if 0 < e then v - 1 else v
  { s with power := { s.power with err := SMap.set (fun _ => (0 : Int)) s.power.err d e, supply := SMap.set supplyDflt s.power.supply d v } }

/-- PACE_REGULATE (R337, R338). -/
def execPaceRegulate (counts : List (Nat × Nat)) (short : Option Nat) (s : State) : Res :=
  let s := counts.foldl (fun (s : State) c => s.regulate c.1 c.2) s
  .next (match short with
    | none => s
    | some d =>
      if SMap.get supplyDflt s.power.supply d = supplyCeiling then
        let s := (s.paceDown paceMin).bump (F.POWER_CNT_COUNT 2) 1
        (s.raise F.POWER_ERR_PACE_SHORT).event 0x0E02 srcLocket d (s.rf (F.POWER_TEMP_NOW d)) 0 0
      else s)

/-! ### Budget and throttling (R339, R340, R342) -/

/-- POWER_SAMPLE (R339): VIN, and the mean of the last ten products in PIN. -/
def execPowerSample (volts amps : Nat) (s : State) : Res :=
  let l := (volts * amps :: s.power.samples).take 10
  let s : State := { s with power := { s.power with samples := l } }
  .next ((s.wf F.POWER_VIN_VOLTS volts).wf F.POWER_PIN_WATTS (l.sum / l.length / 1000))

/-- The limit that the throttle loop enforces, in 0.1 W (R339). -/
def State.powerLimit (s : State) : Nat := 10 * min (s.rf F.POWER_BUDGET_WATTS) 2500

/-- Over the limit at the floor (R340): recorded once per step. -/
def State.overBudget (s : State) : State :=
  let s := (s.wf F.POWER_STATUS_AT_FLOOR 1).raise F.POWER_ERR_OVER_BUDGET
  if s.power.overSeen then s
  else { s with power := { s.power with overSeen := true } }.event 0x0E03 srcLocket 0 0 0 0

/-- THROTTLE_TICK (R340, R345): one level down where the power or a warm die asks for it, one level up after ten quiet actions; while
an emergency lasts the loop rests (R342). -/
def execThrottleTick (s : State) : Res :=
  let now := s.rf F.POWER_PACE_NOW_P
  let floor := s.rf F.POWER_CFG_FLOOR
  let pin := s.rf F.POWER_PIN_WATTS
  let above := decide (s.powerLimit < pin)
  let warm := s.flag F.POWER_STATUS_THERM_WARN
  .next (if s.flag F.POWER_STATUS_EMERGENCY then s
    else
      let quiet := if decide (pin + 10 * s.rf F.POWER_CFG_RAISE_MARGIN ≤ s.powerLimit) then s.power.quiet + 1 else 0
      let s : State := { s with power := { s.power with quiet := quiet } }
      if (above || warm) && decide (floor < now) then
        let s := s.paceDown floor
        if above then s.event 0x0E00 srcLocket 0 0 0 0 else s
      else if above then (if now = floor then s.overBudget else s)
      else if 10 ≤ quiet ∧ !warm ∧ !s.flag F.POWER_STATUS_THERM_LIMIT ∧ !s.flag F.POWER_STATUS_DROOP ∧ now < s.rf F.POWER_PACE_TARGET then
        let s : State := { s with power := { s.power with quiet := 0 } }
        ((s.setPace (now + paceLevel)).wf F.POWER_STATUS_AT_FLOOR 0).event 0x0E00 srcLocket 0 0 0 0
      else s)

/-- POWER_EMERGENCY (R342). -/
def execPowerEmergency (s : State) : Res :=
  let s := (s.setPace paceMin).wf F.POWER_STATUS_EMERGENCY 1
  .next (((s.raise F.POWER_ERR_EMERGENCY).bump (F.POWER_CNT_COUNT 3) 1).event 0x0E04 srcLocket 0 0 0 0)

/-- EMERGENCY_CLEAR (R342). -/
def execEmergencyClear (s : State) : Res := .next (s.wf F.POWER_STATUS_EMERGENCY 0)

/-! ### Heat (R345, R346) -/

/-- The hottest die's reading. -/
def State.hottest (s : State) : Nat := ((List.range 20).map (fun d => s.rf (F.POWER_TEMP_NOW d))).foldl max 0

/-- The warm dies' row of R345. -/
def State.thermWarn (s : State) : State :=
  let w := s.rf F.POWER_TLIM_WARN
  if w ≤ s.hottest then
    let s := s.wf F.POWER_STATUS_THERM_WARN 1
    if s.power.warnSeen then s
    else ({ s with power := { s.power with warnSeen := true } }.bump (F.POWER_CNT_COUNT 4) 1).event 0x0E05 srcLocket 0 0 0 0
  else if s.hottest + 5 < w then s.wf F.POWER_STATUS_THERM_WARN 0
  else s

/-- The hot dies' row of R345. -/
def State.thermLimit (s : State) : State :=
  if s.rf F.POWER_TLIM_LIMIT ≤ s.hottest then
    if s.flag F.POWER_STATUS_THERM_LIMIT then s.setPace paceMin
    else (((s.setPace paceMin).wf F.POWER_STATUS_THERM_LIMIT 1).raise F.POWER_ERR_THERM_LIMIT).event 0x0E06 srcLocket 0 0 0 0
  else if s.hottest < s.rf F.POWER_TLIM_WARN then s.wf F.POWER_STATUS_THERM_LIMIT 0
  else s

/-- TEMP_SAMPLE (R345). -/
def execTempSample (d temp : Nat) (s : State) : Res :=
  .next (if 20 ≤ d then s
    else
      let s := (s.wf (F.POWER_TEMP_NOW d) (min temp 255)).wf (F.POWER_TEMP_MAX d) (max (s.rf (F.POWER_TEMP_MAX d)) (min temp 255))
      s.thermWarn.thermLimit)

/-- Reset the module-domain fields of the blocks whose dies have lost supply (R346, R491). -/
def State.resetDark (s : State) : State :=
  let regs := s.regs.foldl (fun acc e =>
    match rowOf e.1 with
    | some r => SMap.set regReset acc e.1
        (if r.dom == .module && (blockDie e.1).isSome then BitVec.ofNat 32 (resetWordKeep r e.2.toNat) else e.2)
    | none => SMap.set regReset acc e.1 e.2) []
  let keep := fun (x : Nat) => match rowOf x with | some r => !(r.dom == .module && (blockDie x).isSome) | none => true
  { s with regs := regs, pairs := s.pairs.filter (fun e => keep e.1), shadows := s.shadows.filter (fun e => keep e.1) }

/-- The hub, the compute dies, the edge dies and the LPDDR5X lose supply (R346, R348, R407): their registers, memories and engines hold nothing
any more; the Locket goes on. -/
def State.darken (s : State) : State :=
  let r := State.reset
  let s : State := s.resetDark
  { s with mem := [], poison := [], tests := [], clasp := r.clasp, casket := r.casket, cores := [], links := [], migration := none
           front := { r.front with wrapped := s.front.wrapped, nextId := s.front.nextId }
           power := { s.power with dies := if s.power.dies.contains 19 then [19] else [], err := [], supply := [], selfRefresh := [] }
           loupe := r.loupe, chain := r.chain, grad := r.grad, pipe := r.pipe, fmt := r.fmt, health := r.health, charm := r.charm
           pcie := { s.pcie with held := [], waiting := [] }
           locket := { s.locket with key0 := none, key1 := none, encSlot := 0, encPending := none, clearPending := [] } }

/-- MODULE_READY clears, with an MSI-X on EVENT_VEC (R386). -/
def State.notReady (s : State) : State :=
  if s.flag F.HOSTIF_STATUS_MODULE_READY then (s.wf F.HOSTIF_STATUS_MODULE_READY 0).msix (s.rf F.HOSTIF_EVENT_VEC_VEC) else s

/-- SETUP.STATE.STATE codes (R405, R406). -/
def suReady : Nat := 10
def suNoSetting : Nat := 11
def suFailed : Nat := 12
def suTripped : Nat := 13

/-- THERMAL_TRIP (R346): the step aborts with cause 5, the engines die, the other dies lose supply. Of the ports the model keeps the control messages that wait,
the notice among them, as what they send before the supply goes. -/
def execThermalTrip (s : State) : Res :=
  .next (if s.hottest < s.rf F.POWER_TLIM_TRIP ∨ s.rf F.SETUP_STATE_STATE = suTripped then s
    else
      let s := s.raiseAbort 5
      let out := s.links.map (fun e => (e.1, { LinkX.reset with ready := e.2.ready.filter (fun u => u.1 == 0) }))
      let s := { s.darken with links := out }.notReady
      let s := (s.wf F.SETUP_STATE_STATE suTripped).raise F.POWER_ERR_THERM_TRIP
      (s.life 0x544C 1).event 0xF001 srcLocket 0 0 0 0)

/-- Whether the coolant is in range (R345): at most 40 degrees at the inlet, at least 4 L/min. -/
def coolOk (inlet flow : Nat) : Bool := decide (inlet ≤ 40) && decide (40 ≤ flow)

/-- POWER.COOL shows the coolant's readings. -/
def State.showCool (s : State) (inlet flow : Nat) : State := (s.wf F.POWER_COOL_INLET (min inlet 255)).wf F.POWER_COOL_FLOW (min flow 255)

/-- COOLANT (R345). -/
def execCoolant (inlet flow : Nat) (s : State) : Res :=
  let s := s.showCool inlet flow
  .next (if coolOk inlet flow then s
    else
      let s := (s.wf F.POWER_COOL_WARN 1).raise F.POWER_ERR_COOLANT
      if s.power.coolSeen then s else { s with power := { s.power with coolSeen := true } }.event 0x0E08 srcLocket 0 0 0 0)

/-- COOLANT_BACK_IN_RANGE (R345). -/
def execCoolantBackInRange (inlet flow : Nat) (s : State) : Res :=
  let s := s.showCool inlet flow
  .next (if coolOk inlet flow then s.wf F.POWER_COOL_WARN 0 else s)

/-! ### Input voltage (R347, R348) -/

/-- DROOP (R347): below 32 V. A pace already below FLOOR stays: the lowest that any limit asks for wins (R340). -/
def execDroop (lowest : Nat) (s : State) : Res :=
  .next (if lowest < 3200 then
      let s := (s.setPace (min (s.rf F.POWER_CFG_FLOOR) (s.rf F.POWER_PACE_NOW_P))).wf F.POWER_STATUS_DROOP 1
      ((s.raise F.POWER_ERR_DROOP).bump (F.POWER_CNT_COUNT 5) 1).event 0x0E09 srcLocket lowest 0 0 0
    else s)

/-- DROOP_CLEAR (R347): 32.5 V or above. -/
def execDroopClear (volts : Nat) (s : State) : Res := .next (if 3250 ≤ volts then s.wf F.POWER_STATUS_DROOP 0 else s)

/-- Whether the word at an offset of the lifetime image is the high half of a 64-bit pair (R448). -/
def lifeHigh (o : Nat) : Bool :=
  ((decide (0x4800 ≤ o) && decide (o < 0x4820)) || (decide (0x5300 ≤ o) && decide (o < 0x5340))) && o % 8 == 4

/-- The words of the lifetime image that have changed since flash last held it, in index order, each with its increment (R450): a carry out of the low
word of a pair is left to whoever applies the delta. -/
def State.lifeDelta (s : State) : List (Nat × Nat) :=
  let was := fun (o : Nat) => SMap.get (fun _ => (0 : Word)) s.lifeX.base o
  (s.lifeWords.filter (fun e => decide (0x40 ≤ e.1) && decide (e.1 < 0xFFFC))).filterMap (fun e =>
    let carry : Word := if lifeHigh e.1 ∧ (s.rd (0x01490000 + e.1 - 4)).toNat < (was (e.1 - 4)).toNat then 1 else 0
    let inc := e.2 - was e.1 - carry
    if inc = 0 then none else some (e.1 / 4, inc.toNat))

/-- The 4 KiB of a delta (R450). -/
def State.deltaBytes (s : State) (l : List (Nat × Nat)) : List Byte :=
  let t := l.take 508
  let body := natLe 0x544C4544 4 ++ natLe (s.rf F.LIFE_LSEQ_LSEQ) 4 ++ natLe (s.rf F.LIFE_HOURS_HOURS) 4 ++ natLe t.length 2 ++
    natLe (b2n (decide (508 < l.length))) 2 ++ natLe s.edges 8 ++ t.flatMap (fun e => natLe e.1 4 ++ natLe e.2 4) ++
    List.replicate (8 * (508 - t.length) + 4) 0#8
  body ++ natLe (crc32c body) 4

/-- The power-fail sequence (R348), with the reason that its record carries (R484): the record, the loss of supply, the unwritten records, the lifetime
delta, the Locket's stop. -/
def State.powerFail (s : State) (reason : Nat) : State :=
  if s.power.failing then s
  else
    let s : State := { s with power := { s.power with failing := true } }
    let s := (s.event 0xF000 srcLocket reason 0 0 0).darken
    let recs := s.ev.buf
    let s : State := { s with ev := { s.ev with buf := [], flushN := 0 } }
    let s := (s.wf F.EVENT_STATUS_FLUSHING 0).wf F.EVENT_STATUS_UNFLUSHED 0
    let s := State.flushPages [] false 128 0 recs s
    let k := s.lifeX.nextDelta
    let s := { s.wflash (0x0D800000 + k * 4096) (s.deltaBytes s.lifeDelta) with free := s.free + 1 }
    let s := s.eraseFlash (0x0D800000 + (k + 1) % 256 * 4096) 4096
    { s with power := { s.power with dies := [] }, lifeX := { s.lifeX with nextDelta := (k + 1) % 256, writing := none } }

/-- POWER_FAIL (R348). -/
def execPowerFail (s : State) : Res := .next (s.powerFail 0)

/-! ### Retention (R344) -/

/-- CASKET_BANK_RETENTION (R344). -/
def execCasketBankRetention (b writes : Nat) (s : State) : Res :=
  .next (if b < 1024 ∧ writes = 0 ∧ !s.casket.retention.contains b then
      { s with casket := { s.casket with retention := b :: s.casket.retention } }
    else s)

/-- LPDDR_SELF_REFRESH (R344, R492). -/
def execLpddrSelfRefresh (c k writes : Nat) (s : State) : Res :=
  .next (if c < 128 ∧ k < 2 ∧ writes = 0 ∧ !s.power.selfRefresh.contains (2 * c + k) then
      { s with power := { s.power with selfRefresh := (2 * c + k) :: s.power.selfRefresh } }.wf (F.MEMC_CHAN_SELF_REFRESH c) 1
    else s)

end Sys2Proof.Machine
end

