-- ==== Sys2Proof/Machine/Locket.lean ====
section
/-! DEFINITION. The Locket: firmware slots, owner keys, content keys (chapter 20). -/

namespace Sys2Proof.Machine

/-! ### Firmware images (R420 to R423) -/

/-- First flash byte of firmware slot k, and a slot's bytes (R393). -/
def fwBase (k : Nat) : Nat := 0x00100000 + k * 0x02000000
def fwBytes : Nat := 0x02000000

/-- The header fields of the image in firmware slot k (R420). -/
def State.fwField (s : State) (k o n : Nat) : Nat := leNat (s.rflash (fwBase k + o) n)

/-- Bytes of a firmware header that R420 lists. -/
def fwListed (i : Nat) : Bool :=
  decide (i < 6) || (decide (8 ≤ i) && decide (i < 0xD)) || (decide (0x10 ≤ i) && decide (i < 0x16))

/-- Whether an image verifies under a Dunavo firmware-signing certificate (R420). -/
def dunavoVerify (obj : List Byte) : Bool :=
  match splitSigned obj with
  | some (body, id, sig) =>
    decide (1 ≤ id) && decide (id ≤ 0xFF) && (match Config.dunavoKey id with | some n => pssVerify n body sig | none => false)
  | none => false

/-- Whether a 64 B header's MAGIC, FORMAT and zero bytes are correct. -/
def fwHeaderOk (h : List Byte) : Bool :=
  leAt h 0 4 == 0x4D574643 && leAt h 4 2 == 0x0100 && (List.range 64).all (fun i => fwListed i || nth h i 0#8 == 0#8)

/-- Whether firmware slot k holds a valid image (R420). -/
def State.fwValid (s : State) (k : Nat) : Bool :=
  let h := s.rflash (fwBase k) 64
  let len := leAt h 0x10 4
  fwHeaderOk h && len % 16 == 0 && decide (576 ≤ len) && decide (len ≤ fwBytes) && decide (leAt h 0xC 1 ≤ 64) &&
    decide (s.rf F.LOCKET_SVN_COUNT ≤ leAt h 0xC 1) && dunavoVerify (s.rflash (fwBase k) len)

/-- LOCKET.FW_SLOT shows a slot after a validation. -/
def State.showFwSlot (s : State) (k : Nat) (valid : Bool) : State :=
  (s.wflag (F.LOCKET_FW_SLOT_VALID k) valid).wf (F.LOCKET_FW_SLOT_SVN k) (s.fwField k 0xC 1)

/-- The boot-control record names a slot (R418). -/
def State.prefer (s : State) (k : Nat) : State :=
  let s : State := { s with locket := { s.locket with preferred := k } }
  (s.wf (F.LOCKET_FW_SLOT_PREFERRED k) 1).wf (F.LOCKET_FW_SLOT_PREFERRED (1 - k)) 0

/-- The image of slot k runs. -/
def State.runFw (s : State) (k : Nat) : State :=
  (((s.wf F.LOCKET_FW_STATUS_SLOT k).wf F.LOCKET_FW_VERSION_VERSION (s.fwField k 8 4)).wf F.LOCKET_SVN_RUNNING (s.fwField k 0xC 1)).wf
    F.LOCKET_FW_STATUS_RECOVERY 0

/-- The firmware slot that does not run. -/
def State.otherFw (s : State) : Nat := 1 - s.rf F.LOCKET_FW_STATUS_SLOT

/-- A refusal of the installation path (R421). -/
def State.fwRefused (s : State) : State := (s.raise F.LOCKET_ERR_FW).event 0x1201 srcLocket 0 0 0 0

/-- Start a flash operation. -/
def State.startOp (s : State) (o : FlashOp) : State := { s with setup := { s.setup with op := some o } }

/-- FW_ERASE (R421): the slot that is not running, erased as the operation begins. An operation in progress refuses another: DESIGN CHOICE. -/
def execFwErase (s : State) : Res :=
  .next (if s.setup.op.isSome then s.fwRefused
    else
      let k := s.otherFw
      let s : State := { s with locket := { s.locket with fwPiece := none } }
      let s := s.eraseFlash (fwBase k) fwBytes
      ((s.wf (F.LOCKET_FW_SLOT_VALID k) 0).wf (F.LOCKET_FW_SLOT_BUSY k) 1).startOp (.erase true k))

/-- Whether the Locket takes a piece (R421): in order, and the first with a good header; a KEY_ID that lies within the first piece names a Dunavo
certificate. -/
def State.pieceOk (s : State) (i : Nat) (data : List Byte) : Bool :=
  decide (i ≤ 511) && i == s.locket.fwPiece.getD 0 &&
    (i != 0 || (fwHeaderOk (data.take 64) && decide (s.rf F.LOCKET_SVN_COUNT ≤ leAt data 0xC 1) &&
      (decide (65536 < leAt data 0x10 4) || decide (leAt data 0x10 4 < 576) || (Config.dunavoKey (leAt data (leAt data 0x10 4 - 512) 4)).isSome)))

/-- FW_PROGRAM (R421). -/
def execFwProgram (s : State) : Res :=
  let i := s.rf F.SETUP_PROG_OFF_PIECE
  let data := s.bufferBytes 0x50000 65536
  .next (if s.setup.op.isSome || !s.pieceOk i data then s.fwRefused
    else
      let s : State := { s with locket := { s.locket with fwPiece := some (i + 1) } }
      (s.wf (F.LOCKET_FW_SLOT_BUSY s.otherFw) 1).startOp (.program true s.otherFw i data))

/-- FW_COMMIT (R421). -/
def execFwCommit (s : State) : Res :=
  .next (if s.setup.op.isSome then s.fwRefused else (s.wf (F.LOCKET_FW_SLOT_BUSY s.otherFw) 1).startOp (.commit true s.otherFw))

/-- The switch itself (R423): the image of the other slot takes over if it is valid and accepts the handoff; every SPDM connection is reset. -/
def State.switchFw (s : State) : State :=
  let k := s.otherFw
  let s : State := { s with locket := { s.locket with switchPending := false, doeConn := SpdmConn.reset, i3cConn := SpdmConn.reset } }
  let s := s.wf F.LOCKET_FW_STATUS_SWITCHING 0
  if s.flag (F.LOCKET_FW_SLOT_VALID k) && s.fwValid k && s.fwField k 0x14 2 == Config.handoffOf (s.rf F.LOCKET_FW_VERSION_VERSION) then
    ((s.runFw k).prefer k).event 0x1202 srcLocket 0 0 0 0
  else (s.raise F.LOCKET_ERR_SWITCH).event 0x1203 srcLocket 0 0 0 0

/-- FW_SWITCH (R423): at once while the step is halted or no STEP_END is armed, else after the next item 11. -/
def execFwSwitch (key : BitVec 16) (s : State) : Res :=
  .next (if key ≠ 0x5357 then s
    else if s.rf F.FRONT_STATUS_STEP = stepHalted ∨ s.front.armed.isNone then s.switchFw
    else { s with locket := { s.locket with switchPending := true } }.wf F.LOCKET_FW_STATUS_SWITCHING 1)

/-- SVN_COMMIT (R422). -/
def execSvnCommit (key : BitVec 16) (s : State) : Res :=
  .next (if key = 0x5356 ∧ s.rf F.LOCKET_SVN_COUNT < s.rf F.LOCKET_SVN_RUNNING then
      (s.wf F.LOCKET_SVN_COUNT (s.rf F.LOCKET_SVN_RUNNING)).event 0xF003 srcLocket 0 0 0 0
    else s)

/-! ### Owner keys (R424, R425) -/

/-- Bytes of an owner record: its 416 B body and its signature block. -/
def ownerRecord : Nat := 0x1A0 + 512

/-- Bytes of an owner record's body that R425 lists. -/
def ownerListed (op i : Nat) : Bool :=
  decide (i < 6) || (decide (8 ≤ i) && decide (i < 0x14)) || (op == 1 && decide (0x20 ≤ i))

/-- Whether an owner record is in order, its signature apart (R425). -/
def State.ownerOk (s : State) (r : List Byte) : Bool :=
  let op := leAt r 4 1
  let slot := leAt r 5 1
  let serial := leAt r 8 8
  let here := nth s.locket.owners slot none
  leAt r 0 4 == 0x4B4E574F && (op == 1 || op == 2) && decide (slot < 8) && (serial == 0 || serial == s.locket.serial.toNat) &&
    leAt r 0x10 4 == s.locket.oseq + 1 && (List.range 0x1A0).all (fun i => ownerListed op i || nth r i 0#8 == 0#8) &&
    (if op = 1 then here.isNone else here.isSome && decide (1 < (s.locket.owners.filter Option.isSome).length))

/-- Whether an owner record's signature is accepted (R425): a key of the table, or the all-zero one of KEY_ID 0 while the table is empty. -/
def State.ownerSigned (s : State) (r : List Byte) : Bool :=
  match splitSigned r with
  | none => false
  | some (body, id, sig) =>
    if s.locket.owners.all Option.isNone then leAt r 4 1 == 1 && id == 0 && sig.all (fun b => b == 0#8) else s.ownerVerify body id sig

/-- Put an owner slot. -/
def State.setOwner (s : State) (i : Nat) (k : Option OwnerKey) : State :=
  { s with locket := { s.locket with owners := setNth s.locket.owners i k } }.wflag (F.LOCKET_OWNER_VALID i) k.isSome

/-- OWNER_SUBMIT (R425). -/
def execOwnerSubmit (s : State) : Res :=
  let r := s.bufferBytes 0x60000 ownerRecord
  let ok := s.ownerOk r
  let signed := s.ownerSigned r
  .next (if ok && signed then
      let s : State := { s with locket := { s.locket with oseq := leAt r 0x10 4 } }
      let k := if leAt r 4 1 = 1 then some ⟨beNat ((r.drop 0x20).take 384), leAt r 0x10 4⟩ else none
      (s.setOwner (leAt r 5 1) k).event 0x1204 srcLocket 0 0 0 0
    else
      let s := if signed then s else s.signatureFail
      (s.raise F.LOCKET_ERR_OWNER).event 0x1204 srcLocket 0 0 0 0)

/-! ### Content keys (R429 to R431) -/

/-- The VALID bit of a key slot in CHAIN.KEY. -/
def keyValid (k : Nat) : Fld := if k = 0 then F.CHAIN_KEY_SLOT0_VALID else F.CHAIN_KEY_SLOT1_VALID

/-- Put a key slot, and show it. -/
def State.putKey (s : State) (k : Nat) (key : Option (List Byte)) : State :=
  { s with locket := if k = 0 then { s.locket with key0 := key } else { s.locket with key1 := key } }.wflag (keyValid k) key.isSome

/-- The label of a wrapped content key (R429). -/
def State.keyLabel (s : State) (k gen : Nat) : List Byte :=
  natLe (s.rf F.CHAIN_ARC_ARC_ID) 1 ++ natLe (s.rf F.SETUP_IDENT_STAGE) 1 ++ natLe k 1 ++ natLe 0 1 ++ natLe gen 4

/-- KEY_INSTALL (R429). -/
def execKeyInstall (slot : BitVec 1) (s : State) : Res :=
  let k := slot.toNat
  let b := s.bufferBytes 0x1000 400
  let gen := leAt b 0 4
  let key := if s.flag (keyValid k) ∨ gen ≤ s.rf (F.LOCKET_KEY_GEN_GEN 0) ∨ gen ≤ s.rf (F.LOCKET_KEY_GEN_GEN 1) then none
    else (oaepDecrypt s.locket.idModulus s.locket.idPrivate (s.keyLabel k gen) ((b.drop 0x10).take 384)).filter (fun p => p.length == 32)
  .next (match key with
    | some p => (s.putKey k (some p)).wf (F.LOCKET_KEY_GEN_GEN k) gen
    | none => (s.raise F.LOCKET_ERR_KEY).event 0x1205 srcLocket 0 0 0 0)

/-- KEY_CLEAR takes effect (R431): refused while the slot encrypts or a stored Bead names it. -/
def State.clearKey (s : State) (k : Nat) : State :=
  if s.locket.encSlot = k ∨ s.rf (F.LOCKET_KEY_USE_COUNT k) ≠ 0 then s.raise F.LOCKET_ERR_KEY else s.putKey k none

/-- KEY_CLEAR (R431): refused at once, or scheduled for item 11, or at once while the step is halted. -/
def execKeyClear (slot : BitVec 1) (s : State) : Res :=
  let k := slot.toNat
  let s := s.showKeyUse
  .next (if s.rf F.FRONT_STATUS_STEP = stepHalted then s.clearKey k
    else if s.locket.encSlot = k ∨ s.rf (F.LOCKET_KEY_USE_COUNT k) ≠ 0 then s.raise F.LOCKET_ERR_KEY
    else { s with locket := { s.locket with clearPending := s.locket.clearPending.filter (fun x => x != k) ++ [k] } })

/-- ENC_SLOT takes effect (R430): ignored, with ERR.KEY, where the slot is not VALID; KEY_CFG then shows the slot still in use. -/
def State.useSlot (s : State) (k : Nat) : State :=
  let s : State := { s with locket := { s.locket with encPending := none } }
  if s.flag (keyValid k) then { s with locket := { s.locket with encSlot := k } }.wf F.LOCKET_KEY_CFG_ENC_SLOT k
  else (s.wf F.LOCKET_KEY_CFG_ENC_SLOT s.locket.encSlot).raise F.LOCKET_ERR_KEY

/-- ENC_SLOT_WRITE (R430). -/
def execEncSlotWrite (slot : BitVec 1) (s : State) : Res :=
  let k := slot.toNat
  let s := s.wf F.LOCKET_KEY_CFG_ENC_SLOT k
  .next (if s.rf F.FRONT_STATUS_STEP = stepHalted then s.useSlot k
    else { s with locket := { s.locket with encPending := some k } })

/-- What of the Locket takes effect at item 11 (R423, R430, R431): the new encrypting slot, the clears, then a switch that waits. -/
def State.locketItem11 (s : State) : State :=
  let s := s.showKeyUse
  let s := match s.locket.encPending with | some k => s.useSlot (k % 2) | none => s
  let l := s.locket.clearPending
  let s := l.foldl (fun (s : State) k => s.clearKey (k % 2)) { s with locket := { s.locket with clearPending := [] } }
  if s.locket.switchPending then s.switchFw else s

end Sys2Proof.Machine
end

