-- ==== Sys2Proof/Machine/Setting.lean ====
section
/-! DEFINITION. The Setting's image and its amendments (chapter 19): what may be loaded, the checks at load, and the registers that records write. -/

namespace Sys2Proof.Machine

/-! ### What a record may write (R397) -/

/-- Registers whose read-only fields all come from the Setting, by offset. -/
def settingRegs : List Nat := [
  F.CASKET_NOPROG_LIMIT_TICKS.off, (F.CASKET_TRANSIT_BASE 0).off, (F.CASKET_TRANSIT_BASE 1).off, F.CASKET_SPILL_BASE.off,
  F.CODEC_CFG_GRAD.off, F.CHAIN_ARC_FIRST.off, F.PIPE_SCHED_FORM.off, F.PIPE_STASH_BASE_GIB.off, F.PIPE_PARK_BASE_GIB.off,
  F.POWER_CFG_FLOOR.off, F.POWER_PACE_TARGET.off, F.POWER_BUDGET_WATTS.off, F.POWER_TLIM_WARN.off, F.LOUPE_REGION_BASE_GIB.off,
  F.FMT_POLICY_HIST.off, F.GRAD_CFG_MODE.off, F.GRAD_LATE_WINDOW_TICKS.off, F.GRAD_CLIP_MAX_MAXNORM.off,
  F.GRAD_CARRY_ENTRIES_ENTRIES.off, F.GRAD_CLASP_A_HO.off, F.GRAD_CLASP_B_DONE.off, F.HEALTH_CFG_SHIFT.off, F.HEALTH_RATIO_RATIO.off,
  F.HEALTH_CAMEO_CFG_INTERVAL.off, F.HEALTH_CAMEO_REGION_BASE_GIB.off, F.CHARM_CFG_HO_FMT.off, F.CHARM_REGION_BASE_GIB.off,
  F.CHARM_ACC_REGION_BASE_GIB.off, F.CHARM_CLASP_HO.off]

/-- Arrays of registers whose read-only fields all come from the Setting: the first offset, the stride, the count, the bytes of an element that belong. -/
def settingArrays : List (Nat × Nat × Nat × Nat) := [
  ((F.CASKET_FLOOR_STRIPES 0).off, 16, 32, 12), ((F.CLASP_GROUP_HOST 0 0).off, 0x40, 16, 60), ((F.FMT_THR_A_BIN 0).off, 16, 16, 12),
  ((F.FMT_ENT_CFG_BASE 0).off, 128, 4096, 4), ((F.GRAD_REGION_BASE_GIB 0).off, 4, 4, 4), ((F.HEALTH_CAMEO_PART_OFFSET_MIB 0).off, 4, 4, 4),
  ((F.HEALTH_ASLOT_CFG_CLASS 0).off, 16, 64, 4), ((F.HEALTH_LNORM_LAYER_LAYER 0).off, 32, 256, 4), ((F.CHARM_TSET_COUNT 0).off, 4, 16, 4),
  ((F.CHARM_TENT_LT_LAYER 0).off, 16, 2048, 12), ((F.LINK_CFG_MIN_LANES 0).off, 0x80000, 2, 4), ((F.LINK_CFG_MIN_LANES 2).off, 0x1000, 2, 4)]

/-- The bits of the fields of a register that satisfy a test. -/
def fieldBits (r : RegRow) (p : FieldDef → Bool) : Nat :=
  r.fields.foldl (fun a f => if p f then a ||| ((2 ^ f.width - 1) * 2 ^ f.lo) else a) 0

/-- Whether every read-only field of the register at x comes from the Setting. -/
def fromSetting (x : Nat) : Bool :=
  settingRegs.contains x ||
    settingArrays.any (fun a => decide (a.1 ≤ x) && decide ((x - a.1) / a.2.1 < a.2.2.1) && decide ((x - a.1) % a.2.1 < a.2.2.2))

/-- The bits that a record for the register at x writes: the fields its table says come from the Setting, and the RW fields. 0 where the register is
not loadable. Of three registers one field alone comes from the Setting: TRANSIT.SHARE, BEAD_VER.PIN, and the two attributes of a Clasp. -/
def loadMask (x : Nat) : Nat :=
  match rowOf x with
  | none => 0
  | some r =>
    let rw := fieldBits r (fun f => f.acc == .rw)
    if fromSetting x then rw ||| fieldBits r (fun f => f.acc == .ro)
    else if x = (F.CHAIN_TRANSIT_SHARE 0).off ∨ x = (F.CHAIN_TRANSIT_SHARE 1).off then rw ||| 0x7F
    else if x = F.CHAIN_BEAD_VER_PIN.off then rw ||| 0xFFFF0000
    else if 0x01080000 ≤ x ∧ x < 0x010C0000 then rw ||| 0x18
    else rw

/-- The bits of a record that must be 0: reserved ones, and those of WO, W1C and W1S fields. -/
def loadZero (x : Nat) : Nat :=
  match rowOf x with
  | none => 0xFFFFFFFF
  | some r => 0xFFFFFFFF - fieldBits r (fun f => f.acc == .ro || f.acc == .rw || f.acc == .rs)

/-- Whether a record is in order. -/
def recordOk (x v : Nat) : Bool := x % 4 == 0 && loadMask x != 0 && v &&& loadZero x == 0

/-- The enables held back until READY (R397). -/
def heldMask (x : Nat) : Nat :=
  if x = (F.CHAIN_CTRL_EN 0).off ∨ x = (F.CHAIN_CTRL_EN 1).off then 1 else if x = F.PIPE_CTRL_EN_UP.off then 3 else 0

/-- A record takes effect: the loadable bits of its register. A 64-bit pair takes effect with its _HI half (R8). KEY_CFG names a key slot, and both are
empty at a start, so it keeps its value (R430). -/
def State.putRecord (s : State) (r : Nat × Nat) : State :=
  let m := loadMask r.1 - (loadMask r.1 &&& heldMask r.1)
  if r.1 = F.LOCKET_KEY_CFG_ENC_SLOT.off then s
  else
    let old := (s.rd r.1).toNat
    let s := s.wr r.1 (BitVec.ofNat 32 (old - (old &&& m) + (r.2 &&& m)))
    if decide (4 ≤ r.1) && isPairLo (r.1 - 4) then s.setPair (r.1 - 4) (BitVec.ofNat 64 ((s.rd (r.1 - 4)).toNat + 2 ^ 32 * (s.rd r.1).toNat))
    else s

/-! ### The image (R395 to R399) -/

/-- First flash byte of Setting slot k, and a slot's bytes (R393). -/
def setBase (k : Nat) : Nat := 0x04100000 + k * 0x04000000
def setBytes : Nat := 0x04000000

/-- The 128 B header of slot k. -/
def State.setHead (s : State) (k : Nat) : List Byte := s.rflash (setBase k) 128

/-- Whether a header is erased flash. -/
def erased (h : List Byte) : Bool := h.all (fun b => b == 0xFF#8)

/-- SEQ of slot k; 0 when empty (R415). -/
def State.setSeq (s : State) (k : Nat) : Nat := if erased (s.setHead k) then 0 else leAt (s.setHead k) 8 4

/-- The reserved bytes and bits of a header are 0 (R395). -/
def headZero (h : List Byte) : Bool :=
  decide (leAt h 6 2 < 2) && decide (leAt h 0x10 1 < 64) && decide (leAt h 0x11 1 < 64) && (h.drop 0x18).all (fun b => b == 0#8)

/-- FAIL reasons of a slot (R415). -/
def failHead : Nat := 1
def failLen : Nat := 2
def failStage : Nat := 3
def failFw : Nat := 4
def failSignature : Nat := 5
def failCheck : Nat := 6
def failEmpty : Nat := 7

/-- Whether a signed object of LEN bytes verifies under an owner key (R399, R424). -/
def State.ownerSealed (s : State) (obj : List Byte) : Bool :=
  match splitSigned obj with
  | some (body, id, sig) => s.ownerVerify body id sig
  | none => false

/-- Why slot k holds no valid image, or 0 (R400). -/
def State.imageFail (s : State) (k : Nat) : Nat :=
  let h := s.setHead k
  let len := leAt h 0xC 4
  if erased h then failEmpty
  else if leAt h 0 4 ≠ 0x47544553 ∨ leAt h 4 2 ≠ 0x0100 ∨ headZero h = false then failHead
  else if len % 16 ≠ 0 ∨ len < 128 + 512 ∨ setBytes < len then failLen
  else if leAt h 0x10 1 ≠ s.rf F.SETUP_IDENT_STAGE then failStage
  else if s.rf F.LOCKET_FW_VERSION_VERSION < leAt h 0x14 4 then failFw
  else if !s.ownerSealed (s.rflash (setBase k) len) then failSignature
  else 0

/-- An entry of the directory (R396), with the offset it lies at. -/
structure Sect where
  ty : Nat
  pos : Nat
  off : Nat
  len : Nat
  entry : Nat
  deriving DecidableEq, Repr

/-- The directory of an image. -/
def sections (img : List Byte) : List Sect :=
  (List.range (leAt img 0x12 2)).map (fun i =>
    let a := 0x80 + 16 * i
    ⟨leAt img a 2, leAt img (a + 4) 4, leAt img (a + 8) 4, leAt img (a + 12) 4, a⟩)

/-- The sections of a type that apply to a position, in directory order. -/
def sectionsAt (img : List Byte) (ty pos : Nat) : List Sect := (sections img).filter (fun x => x.ty == ty && bit x.pos pos)

/-- The records of the REG sections that apply to a position: register, value, and the offset of the record. -/
def regRecords (img : List Byte) (pos : Nat) : List (Nat × Nat × Nat) :=
  (sectionsAt img 1 pos).flatMap (fun x => (List.range (x.len / 8)).map (fun i =>
    (leAt img (x.off + 8 * i) 4, leAt img (x.off + 8 * i + 4) 4, x.off + 8 * i)))

/-- An entry of a BEADS section (R398). -/
def beadEntry (b : List Byte) : BeadEntry :=
  let w := leAt b 0xC 4
  ⟨leAt b 0 4, leAt b 4 2, leAt b 6 2, leAt b 8 4, bits w 0 12, bit w 12, bits w 13 12, bit w 25, leAt b 0x10 4, leAt b 0x14 1⟩

/-- The home Beads of a position: the entries of its BEADS section. -/
def beadsAt (img : List Byte) (pos : Nat) : List BeadEntry :=
  match (sectionsAt img 3 pos).head? with
  | some x => (List.range (x.len / 24)).map (fun i => beadEntry ((img.drop (x.off + 24 * i)).take 24))
  | none => []

/-! ### The checks at load (R401) -/

/-- A check: whether it holds, and the image offset it fails at. -/
abbrev Check := Bool × Nat

/-- Whether no two sections overlap. -/
def apart : List Sect → Bool
  | [] => true
  | x :: r => r.all (fun y => decide (x.off + x.len ≤ y.off) || decide (y.off + y.len ≤ x.off) || x.len == 0 || y.len == 0) && apart r

/-- The directory (R395, R396). -/
def dirChecks (img : List Byte) : List Check :=
  let n := leAt img 0x12 2
  (decide (1 ≤ n) && decide (n ≤ 1024), 0x12) ::
    (sections img).map (fun x => (decide (1 ≤ x.ty) && decide (x.ty ≤ 3) && leAt img (x.entry + 2) 2 == 0 && x.off % 16 == 0 &&
      decide (0x80 + 16 * n ≤ x.off) && decide (x.off + x.len + 512 ≤ img.length), x.entry)) ++ [(apart (sections img), 0x80)]

/-- One entry of a BEADS section (R398, R206). -/
def entryOk (b : List Byte) : Bool :=
  leAt b 3 1 == 0 && bits (leAt b 0xC 4) 26 6 == 0 && leAt b 0x15 3 == 0 &&
    (if bit (leAt b 0xC 4) 25 then leAt b 0x14 1 == 0 else decide (leAt b 0x14 1 ≤ 0x0D))

/-- The sections that apply to a position (R396 to R398, R42). -/
def sectChecks (img : List Byte) (pos : Nat) : List Check :=
  (sectionsAt img 1 pos).map (fun x => (x.len % 8 == 0, x.entry)) ++ (regRecords img pos).map (fun r => (recordOk r.1 r.2.1, r.2.2)) ++
    (sectionsAt img 2 pos).map (fun x => (x.len == 16 && leAt img (x.off + 10) 6 == 0, x.entry)) ++
    (sectionsAt img 3 pos).map (fun x => (x.len % 24 == 0 && decide (x.len / 24 ≤ 65536), x.entry)) ++
    (sectionsAt img 3 pos).flatMap (fun x => (List.range (x.len / 24)).map (fun i =>
      (entryOk ((img.drop (x.off + 24 * i)).take 24), x.off + 24 * i)))

/-- The place one wider than a format (R115). -/
def wider : Nat → Option Nat
  | 3 | 4 | 5 | 6 => some 1
  | 7 | 8 | 9 => some 5
  | 0xA | 0xD => some 3
  | 0xB => some 9
  | 0xC => some 0xB
  | _ => none

/-- The path from a format outward (R115): no path has more than five places. -/
def fmtPath : Nat → Nat → List Nat
  | 0, f => [f]
  | k + 1, f => f :: (match wider f with | some g => fmtPath k g | none => [])

/-- Units of 1,024 stripes of a placed region (R186). -/
def State.regionUnits (s : State) : Nat × Nat × Nat := (s.rf (F.CASKET_TRANSIT_SIZE 0), s.rf (F.CASKET_TRANSIT_SIZE 1), s.rf F.CASKET_SPILL_SIZE)

/-- Place the Casket's regions from their sizes (R186): the Charm contexts take 32 units; the rest of 8,192 units is the pool. -/
def State.placeCasket (s : State) : State :=
  let (a, b, c) := s.regionUnits
  let s := ((s.wf (F.CASKET_TRANSIT_BASE 0) 32).wf (F.CASKET_TRANSIT_BASE 1) (32 + a)).wf F.CASKET_SPILL_BASE (32 + a + b)
  (s.wf F.CASKET_POOL_BASE_STRIPE ((32 + a + b + c) * 1024)).wf F.CASKET_POOL_SIZE_STRIPES ((8192 - (32 + a + b + c)) * 1024)

/-- Whether every record for a region carries the base that the placement gives (R186): the candidate shows what the records carried. -/
def State.basesOk (s : State) (recs : List (Nat × Nat × Nat)) : List Check :=
  let p := s.placeCasket
  (recs.filter (fun r => r.1 == (F.CASKET_TRANSIT_BASE 0).off || r.1 == (F.CASKET_TRANSIT_BASE 1).off || r.1 == F.CASKET_SPILL_BASE.off)).map
    (fun r => (bits r.2.1 0 13 == bits (p.rd r.1).toNat 0 13, r.2.2))

/-- The most bytes of payload among Beads at their CEIL formats. -/
def State.ceilMax (s : State) (l : List BeadEntry) : Nat := (l.map (fun e => e.payload (s.ceilFmt e))).foldl max 0

/-- The streams (R189), each check under the register it reads: chain is the largest Bead of the arc at CEIL, own this module's, source its largest source
copy. -/
def State.streamChecks (s : State) (chain own source : Nat) : List Check :=
  let slot := fun i => s.rf (F.CASKET_SLOT_STRIPES i)
  let need := fun (i : Nat) =>
    if i < 2 then beadStripes chain
    else if i < 4 then ceilDiv chain 512
    else if i = 7 then beadStripes own
    else if i = 13 then max (beadStripes source) (beadStripes own)
    else if i = 15 then 2049
    else if i = 12 then 512
    else if i = 8 ∨ i = 9 ∨ i = 10 ∨ i = 11 ∨ i = 14 ∨ 16 ≤ i then 8 else 1
  (decide (s.floorsBelow 32 ≤ s.rf F.CASKET_POOL_SIZE_STRIPES), (F.CASKET_FLOOR_STRIPES 31).off) ::
    (List.range 32).flatMap (fun i => [
      (decide (slot i ≠ 0) && decide (need i ≤ slot i), (F.CASKET_SLOT_STRIPES i).off),
      (s.rf (F.CASKET_FLOOR_STRIPES i) % max 1 (slot i) == 0, (F.CASKET_FLOOR_STRIPES i).off),
      (s.rf (F.CASKET_LIMIT_STRIPES i) == 0 || decide (s.rf (F.CASKET_FLOOR_STRIPES i) ≤ s.rf (F.CASKET_LIMIT_STRIPES i)),
        (F.CASKET_LIMIT_STRIPES i).off)])

/-- The format table (R108, R115). -/
def State.fmtChecks (s : State) : List Check :=
  (List.range 4096).map (fun n =>
    let b := s.rf (F.FMT_ENT_CFG_BASE n)
    let c := s.rf (F.FMT_ENT_CFG_CEIL n)
    (decide (b ≤ 0x0D) && decide (c ≤ 0x0D) && (!s.flag (F.FMT_ENT_CFG_VALID n) || (fmtPath 5 b).contains c), (F.FMT_ENT_CFG_BASE n).off))

/-- Clasp groups (R303): each to the die monitor or to one core of its die, no two to one core. -/
def State.groupChecks (s : State) : List Check :=
  (List.range 16).flatMap (fun d => (List.range 15).map (fun g =>
    let m := s.rf (F.CLASP_GROUP_HOST g d)
    (m == 0x1FF || (decide (m < 320) && m / 20 == d && (List.range g).all (fun h => s.rf (F.CLASP_GROUP_HOST h d) != m)),
      (F.CLASP_GROUP_HOST g d).off)))

/-- Whether a pace word is a pace level within the range (R336). -/
def paceOk (p : Nat) : Bool := p % 1024 == 0 && decide (0x6000 ≤ p) && decide (p ≤ 0xE000)

/-- The rest of what the chapters state as a failure at load: regions (R186), schedule (R73), pace (R336), heat (R345), activation slots (R236),
Cameos (R56, R237), tensor sets (R262). Of a V above 1 under FORM 0 or 1, which R73 does not allow, no rule says what the module does: it is loaded and runs
with that V (DESIGN CHOICE). -/
def State.otherChecks (s : State) : List Check :=
  let (a, b, c) := s.regionUnits
  let warn := s.rf F.POWER_TLIM_WARN
  let limit := s.rf F.POWER_TLIM_LIMIT
  let trip := s.rf F.POWER_TLIM_TRIP
  let part := fun p => s.rf (F.HEALTH_CAMEO_PART_OFFSET_MIB p) + s.rf (F.HEALTH_CAMEO_PART_SIZE_MIB p)
  [(decide (64 ≤ c) && decide (32 + a + b + c ≤ 8192), F.CASKET_SPILL_SIZE.off),
   (s.rf F.PIPE_SCHED_FORM != 3, F.PIPE_SCHED_FORM.off),
   (paceOk (s.rf F.POWER_PACE_TARGET), F.POWER_PACE_TARGET.off),
   (paceOk (s.rf F.POWER_CFG_FLOOR) && decide (s.rf F.POWER_CFG_FLOOR ≤ s.rf F.POWER_PACE_TARGET), F.POWER_CFG_FLOOR.off),
   (decide (warn < limit) && decide (limit < trip) && decide (warn ≤ 95) && decide (limit ≤ 105) && decide (trip ≤ 110), F.POWER_TLIM_WARN.off),
   ((List.range 4).all (fun p => decide (part p ≤ 64512)), (F.HEALTH_CAMEO_PART_OFFSET_MIB 0).off),
   (s.rf F.GRAD_CFG_MODE == 0 || s.rf F.HEALTH_CAMEO_CFG_INTERVAL == 1, F.GRAD_CFG_MODE.off)] ++
    (List.range 64).map (fun k => (let x := s.rf (F.HEALTH_ASLOT_CFG_CLASS k); x == 0 || x == 1 || x == 6, (F.HEALTH_ASLOT_CFG_CLASS k).off)) ++
    (List.range 16).map (fun j => (decide (s.rf (F.CHARM_TSET_COUNT j) ≤ 128), (F.CHARM_TSET_COUNT j).off))

/-- The image offset of the last record for a register; 0 where none is. -/
def lastRecord (recs : List (Nat × Nat × Nat)) (x : Nat) : Nat := ((recs.filter (fun r => r.1 == x)).getLast?.map (·.2.2)).getD 0

/-- The state that holds the loaded image, with every record in its register: the shadow of R401. -/
def State.candidate (s : State) (img : List Byte) : State :=
  let s := (regRecords img s.pos).foldl (fun (s : State) r => s.putRecord (r.1, r.2.1)) s
  let seed := (sectionsAt img 2 s.pos).head?
  let at2 := fun (o k : Nat) => match seed with | some x => leAt img (x.off + o) k | none => 0
  { s with setup := { s.setup with image := img, seed := BitVec.ofNat 64 (at2 0 8), stream := BitVec.ofNat 16 (at2 8 2),
                                   beads := beadsAt img s.pos, arcBeads := s.arcPositions.map (fun p => (p, beadsAt img p)),
                                   narrowOk := bit (leAt img 6 2) 0 } }

/-- Beads past 1 MiB of payload at CEIL (R108), by entry. -/
def State.sizeChecks (s : State) (img : List Byte) : List Check :=
  (sectionsAt img 3 s.pos).flatMap (fun x => (List.range (x.len / 24)).map (fun i =>
    let e := beadEntry ((img.drop (x.off + 24 * i)).take 24)
    (decide (e.payload (s.ceilFmt e) ≤ 1048576), x.off + 24 * i)))

/-- Every check of R401 on a valid image, in order: none where all hold, else the image offset of the first that fails. The candidate is s with the
image's records in its registers. -/
def State.checkFail (s : State) (img : List Byte) : Option Nat :=
  let recs := regRecords img s.pos
  let early := dirChecks img ++ sectChecks img s.pos
  match early.find? (fun c => !c.1) with
  | some c => some c.2
  | none =>
    let t := s.candidate img
    let mem := t.arcPositions.contains t.pos
    let chain := if mem then t.ceilMax (t.setup.arcBeads.flatMap (·.2)) else 0
    let late : List Check :=
      [(!mem || ((sectionsAt img 2 t.pos).length == 1 && (sectionsAt img 3 t.pos).length == 1), 0x80)] ++ t.basesOk recs ++ t.sizeChecks img ++
        ((t.placeCasket.streamChecks chain (t.ceilMax t.setup.beads) ((t.setup.beads.map BeadEntry.source).foldl max 0) ++ t.fmtChecks ++
          t.groupChecks ++ t.otherChecks).map (fun c => (c.1, lastRecord recs c.2)))
    (late.find? (fun c => !c.1)).map (·.2)

/-! ### Amendments (R410 to R414) -/

/-- The flash page of the log that holds amendment i (R393, R413), and its pages. -/
def logPage (i : Nat) : Nat := 0x0C100000 + 4096 * i
def logSize : Nat := 1024

/-- Fields of an amendment (R410). -/
def amType (b : List Byte) : Nat := leAt b 6 1
def amSeq (b : List Byte) : Nat := leAt b 8 4
def amLen (b : List Byte) : Nat := leAt b 0xC 4
def amRecords (b : List Byte) : List (Nat × Nat) :=
  (List.range ((amLen b - 576) / 8)).map (fun i => (leAt b (0x40 + 8 * i) 4, leAt b (0x44 + 8 * i) 4))

/-- Header bytes of an amendment that R410 lists. -/
def amListed (i : Nat) : Bool := decide (i < 7) || (decide (8 ≤ i) && decide (i ≤ 0x10)) || (decide (0x14 ≤ i) && decide (i < 0x18)) || decide (0x20 ≤ i)

/-- MAGIC, FORMAT, LEN and the zero bytes. -/
def amFormat (b : List Byte) : Bool :=
  leAt b 0 4 == 0x444E4D41 && leAt b 4 2 == 0x0100 && decide (576 ≤ amLen b) && decide (amLen b ≤ 4096) && (amLen b - 576) % 8 == 0 &&
    decide (leAt b 0x10 1 < 64) && (List.range 64).all (fun i => amListed i || nth b i 0#8 == 0#8)

/-- Whether a record is one that TYPE allows (R411). -/
def State.amRecordOk (s : State) (ty : Nat) (r : Nat × Nat) : Bool :=
  recordOk r.1 r.2 &&
    (if ty = 1 then r.1 == F.CHAIN_ARC_FIRST.off || r.1 == (F.CHAIN_TRANSIT_SHARE 0).off || r.1 == (F.CHAIN_TRANSIT_SHARE 1).off
     else if ty = 2 then r.1 == F.POWER_BUDGET_WATTS.off
     else if ty = 3 then r.1 == F.GRAD_LATE_WINDOW_TICKS.off ||
       (r.1 == F.GRAD_CFG_MODE.off && (r.2 ||| 16) == ((s.rd F.GRAD_CFG_MODE.off).toNat ||| 16))
     else if ty = 4 then decide ((F.FMT_THR_A_BIN 0).off ≤ r.1) && decide (r.1 < (F.FMT_THR_A_BIN 0).off + 256) && r.1 % 16 != 12
     else false)

/-- Why an amendment is refused, or 0 (R412, R415). -/
def State.amendReason (s : State) (b : List Byte) : Nat :=
  if !amFormat b then 1
  else if !s.ownerSealed (b.take (amLen b)) then 2
  else if leAt b 0x10 1 ≠ s.rf F.SETUP_IDENT_STAGE ∨ (b.drop 0x20).take 32 ≠ s.settingHash then 3
  else if amSeq b ≠ s.rf F.SETUP_ASEQ_ASEQ + 1 then 4
  else if !(amRecords b).all (s.amRecordOk (amType b)) || decide (amType b < 1) || decide (4 < amType b) then 5
  else if logSize ≤ s.setup.logPages then 6
  else if 16 ≤ s.setup.amendments.length then 7
  else 0

/-- The arc has been given anew (R52, R411): positions that were no part of it are out until they join; those that left are not of it. -/
def State.rearc (s : State) (before : List Nat) : State :=
  let now := s.arcPositions
  let out := s.chain.out.filter (fun p => now.contains p) ++ now.filter (fun p => !before.contains p && p != s.pos && !s.chain.out.contains p)
  let s : State := { s with chain := { s.chain with out := out } }
  let s := (List.range 2).foldl (fun (s : State) p =>
    if s.rf (F.CHAIN_TRANSIT_SHARE p) = 0 then (s.wf (F.CHAIN_TRANSIT_ACTIVE p) 0).wf (F.CHAIN_STATUS_TRANSIT p) 0 else s) s
  if now.contains s.pos then s.showArc else s.setMember memOut

/-- The records of an amendment whose registers satisfy a test take effect, where it names this position. -/
def State.amendRecords (s : State) (b : List Byte) (p : Nat → Bool) : State :=
  if bit (leAt b 0x14 4) s.pos then
    let before := s.arcPositions
    let l := (amRecords b).filter (fun r => p r.1)
    let s := l.foldl State.putRecord s
    if amType b = 1 ∧ !l.isEmpty then s.rearc before else s
  else s

/-- An amendment is applied (R412): AMEND_APPLIED with ASEQ and TYPE. -/
def State.applyAmendment (s : State) (b : List Byte) : State :=
  ((s.amendRecords b (fun _ => true)).wf F.SETUP_AMEND_STATUS 2).event 0x1108 srcLocket (amSeq b) (amType b) 0 0

/-- Item 9 of R23: every pending amendment, oldest first. -/
def State.amendItem9 (s : State) : State :=
  let l := s.setup.amendments
  l.foldl State.applyAmendment { s with setup := { s.setup with amendments := [] } }

/-- AMEND_SUBMIT (R412): refused, or logged and made pending; outside MEMBER it is applied at once. -/
def execAmendSubmit (s : State) : Res :=
  let b := s.bufferBytes 0x60000 4096
  let r := s.amendReason b
  .next (if r ≠ 0 then
      let s := if r = 2 then s.signatureFail else s
      let s := (s.wf F.SETUP_AMEND_STATUS 3).wf F.SETUP_AMEND_REASON r
      (s.raise F.SETUP_ERR_AMEND).event 0x1109 srcLocket r 0 0 0
    else
      let s := s.wflash (logPage s.setup.logPages) (b.take (amLen b))
      let s : State := { s with setup := { s.setup with logPages := s.setup.logPages + 1 } }
      let s := ((s.wf F.SETUP_ASEQ_ASEQ (amSeq b)).wf F.SETUP_AMEND_STATUS 1).wf F.SETUP_AMEND_REASON 0
      if s.rf F.CHAIN_MEMBER_STATE = memMember then
        { s with setup := { s.setup with amendments := s.setup.amendments ++ [b.take (amLen b)] } }
      else s.applyAmendment (b.take (amLen b)))

/-! ### Installing an image (R403) -/

/-- The slot that is not active. -/
def State.idleSlot (s : State) : Nat := if s.flag (F.SETUP_SLOT_ACTIVE 0) then 1 else 0

/-- A request that is refused (R393, R415): here one that finds an operation in progress. DESIGN CHOICE. -/
def State.progRefused (s : State) : State := (s.raise F.SETUP_ERR_PROG).event 0x1103 srcLocket 0 0 0 0

/-- Begin an operation on the idle slot: whatever it holds is no valid image until a COMMIT. -/
def State.slotBusy (s : State) (o : FlashOp) : State := ((s.wf (F.SETUP_SLOT_VALID s.idleSlot) 0).wf (F.SETUP_SLOT_BUSY s.idleSlot) 1).startOp o

/-- ERASE (R403). The slot is erased as the operation begins, so that a start that interrupts it leaves no image: DESIGN CHOICE. -/
def execErase (s : State) : Res :=
  .next (if s.setup.op.isSome then s.progRefused
    else
      let k := s.idleSlot
      let s := ((s.eraseFlash (setBase k) setBytes).wf (F.SETUP_SEQ_SEQ k) 0).wf (F.SETUP_SLOT_FAIL k) 0
      s.slotBusy (.erase false k))

/-- PROGRAM (R403): the piece in IMG_WIN at PROG_OFF. -/
def execProgram (s : State) : Res :=
  .next (if s.setup.op.isSome then s.progRefused
    else s.slotBusy (.program false s.idleSlot (s.rf F.SETUP_PROG_OFF_PIECE) (s.bufferBytes 0x50000 65536)))

/-- COMMIT (R403). -/
def execCommit (s : State) : Res :=
  .next (if s.setup.op.isSome then s.progRefused else s.slotBusy (.commit false s.idleSlot))

/-- A slot proves invalid (R400): its reason, ERR.SETTING, SETTING_INVALID with the slot and the reason. -/
def State.slotBad (s : State) (k r : Nat) : State :=
  let s := if r = failSignature then s.signatureFail else s
  let s := ((s.wf (F.SETUP_SLOT_VALID k) 0).wf (F.SETUP_SLOT_FAIL k) r).raise F.SETUP_ERR_SETTING
  s.event 0x1100 srcLocket k r 0 0

/-- Whether the image of a firmware slot fails by its signature alone. -/
def State.fwUnsigned (s : State) (k : Nat) : Bool :=
  let h := s.rflash (fwBase k) 64
  fwHeaderOk h && decide (576 ≤ leAt h 0x10 4) && decide (leAt h 0x10 4 ≤ fwBytes) && !dunavoVerify (s.rflash (fwBase k) (leAt h 0x10 4))

/-- What an operation leaves when it succeeds (R403, R421). -/
def State.opDone (s : State) : FlashOp → State
  | .erase fw k => s.wf (if fw then F.LOCKET_FW_SLOT_BUSY k else F.SETUP_SLOT_BUSY k) 0
  | .program fw k i data =>
    let s := s.wflash ((if fw then fwBase k else setBase k) + i * 65536) data
    s.wf (if fw then F.LOCKET_FW_SLOT_BUSY k else F.SETUP_SLOT_BUSY k) 0
  | .commit true k =>
    let s := s.wf (F.LOCKET_FW_SLOT_BUSY k) 0
    if s.fwValid k then (s.showFwSlot k true).prefer k
    else ((if s.fwUnsigned k then s.signatureFail else s).showFwSlot k false).fwRefused
  | .commit false k =>
    let s := (s.wf (F.SETUP_SLOT_BUSY k) 0).wf (F.SETUP_SEQ_SEQ k) (s.setSeq k)
    let r := s.imageFail k
    if r = 0 then (s.wf (F.SETUP_SLOT_VALID k) 1).wf (F.SETUP_SLOT_FAIL k) 0
    else (s.slotBad k r).raise F.SETUP_ERR_PROG

/-- What a failed operation leaves. -/
def State.opFailed (s : State) : FlashOp → State
  | .erase true k | .program true k _ _ | .commit true k => (s.wf (F.LOCKET_FW_SLOT_BUSY k) 0).fwRefused
  | .erase false k | .program false k _ _ | .commit false k => (s.wf (F.SETUP_SLOT_BUSY k) 0).raise F.SETUP_ERR_PROG

/-- FLASH_OP_DONE (R403, R421). -/
def execFlashOpDone (ok : Bool) (s : State) : Res :=
  .next (match s.setup.op with
    | none => s
    | some o =>
      let s : State := { s with setup := { s.setup with op := none } }
      if ok then s.opDone o else s.opFailed o)

end Sys2Proof.Machine
end

