-- ==== Sys2Proof/Machine/Spare.lean ====
section
/-! DEFINITION. Spare cores, migration, and the board's own inputs (chapters 22 and 23). -/

namespace Sys2Proof.Machine

/-! ### The disabled-unit map (R456, R457) -/

/-- A physical core that the map does not present and that is presentable (R457): not disabled, 64 columns, its sentinels good, its store whole. -/
def State.presentable (s : State) (n : Nat) : Bool :=
  !s.disabled n && s.rf (F.CORE_COLMAP_WIDTH n) == 64 && s.flag (F.CORE_COLMAP_SENT_OK n) && !s.locket.badStores.contains n

/-- SPARE.CLUSTER shows the slots disabled and presented of cluster k (R467). -/
def State.showCluster (s : State) (k : Nat) : State :=
  let mask := fun (p : Nat → Bool) => ((List.range 6).map (fun i => if p (6 * k + i) then 2 ^ i else 0)).sum
  (s.wf (F.SPARE_CLUSTER_DISABLED k) (mask s.disabled)).wf (F.SPARE_CLUSTER_PRESENTED k) (mask (fun n => s.flag (F.CORE_ID_ENABLED n)))

/-- Enter a unit in the soft part. -/
def State.softDisable (s : State) (u : BadUnit) : State :=
  if s.locket.soft.contains u then s else { s with locket := { s.locket with soft := s.locket.soft ++ [u] } }.showCluster (u.core / 6)

/-- Blow a fused entry (R456): when all 128 are used, the unit stays in the soft part only. -/
def State.blowFuse (s : State) (u : BadUnit) : State :=
  if s.locket.fused.contains u then s
  else if 128 ≤ s.locket.fused.length then
    ((s.raise F.SPARE_ERR_FUSE_FULL).event 0x1303 srcLocket u.core 0 0 0).softDisable u
  else
    let s : State := { s with locket := { s.locket with fused := s.locket.fused ++ [u] } }
    let s := (s.wf F.SPARE_FUSES_USED s.locket.fused.length).bump (F.SPARE_CNT_COUNT 2) 1
    (s.event 0x1302 srcLocket u.core (b2n u.column.isSome) (u.column.getD 0) 0).showCluster (u.core / 6)

/-! ### Retiring and migrating a core (R459 to R462) -/

/-- The slot of a physical core's cluster that may take over: presentable, and not presented (R459). -/
def State.spareFor (s : State) (o : Nat) : Option Nat :=
  ((List.range 6).map (fun i => o / 6 * 6 + i)).find? (fun n => n != o && s.presentable n && !s.flag (F.CORE_ID_ENABLED n))

/-- Begin to migrate logical core m from its slot o (R460 step 1). One migration runs at a time. -/
def State.migrate (s : State) (m o trigger : Nat) (fuse : Bool) : State :=
  if s.migration.isSome then s
  else match s.spareFor o with
    | none => ((s.raise F.SPARE_ERR_NO_SPARE).bump (F.SPARE_CNT_COUNT 3) 1).event 0x1301 srcLocket m o trigger 0
    | some n =>
      let s := (List.range 64).foldl (fun (s : State) h => s.wf (F.HANDLE_A_STUB o h) 1) s
      let s := s.softDisable ⟨o, none⟩
      let s := if fuse then s.blowFuse ⟨o, none⟩ else s
      let s := (s.wf F.SPARE_STATUS_MIGRATING 1).wf F.SPARE_STATUS_LOGICAL m
      { s with migration := some ⟨m, o, n, trigger⟩ }

/-- MIGRATE (R459). -/
def execMigrate (m : Nat) (fuse : Bool) (s : State) : Res :=
  .next (match s.physOf m with
    | none => s
    | some o => s.migrate m o 0 fuse)

/-- CORE_RETIRE (R459). -/
def execCoreRetire (n : Nat) (s : State) : Res :=
  let limit := s.rf F.SPARE_CFG_UE_LIMIT
  .next (if n < 384 ∧ limit ≠ 0 ∧ limit ≤ (s.core n).ueStep ∧ s.flag (F.CORE_ID_ENABLED n) then s.migrate (s.logicalOf n) n 1 true else s)

/-- Copy one handle's entry, and the words of its range with their poison tags, from slot o to slot n (R460 step 3). -/
def State.copyHandle (s : State) (o n h : Nat) : State :=
  let copy := fun (f : Nat → Fld) (s : State) => s.wf (f n) (s.rf (f o))
  let s := copy (F.HANDLE_A_BASE · h) s
  let s := copy (F.HANDLE_A_VALID · h) s
  let s := copy (F.HANDLE_A_WINDOW · h) s
  let s := copy (F.HANDLE_A_RREAD · h) s
  let s := copy (F.HANDLE_A_LAYOUT · h) s
  let s := copy (F.HANDLE_B_LEN_M1 · h) s
  let s := copy (F.HANDLE_C_ROWLEN · h) s
  let s := copy (F.HANDLE_C_FMT · h) s
  let s := copy (F.HANDLE_D_GEN · h) s
  let s := copy (F.HANDLE_CBASE_LO_CBASE · h) s
  let s := copy (F.HANDLE_CBASE_HI_CBASE · h) s
  let s := copy (F.HANDLE_ARR_ARR · h) s
  if s.hValid o h then
    let a := storeBase o + s.hStart o h
    let b := storeBase n + s.hStart o h
    let tags := s.poison.filter (fun e => e.2 && decide (a ≤ e.1 * 4) && decide (e.1 * 4 < a + s.hBytes o h))
    let s := s.store b (s.rbs a (s.hBytes o h))
    tags.foldl (fun (s : State) e => s.setPoison (e.1 * 4 - storeBase o + storeBase n) true) s
  else s

/-- MIGRATION_PASS_BOUNDARY (R460 steps 2 to 6): the handles, the hold list and the store move, the presented map sends the logical core to the spare, the
task goes on there. A task that still runs a RUN or holds a chain tile has not reached its boundary, and the command changes nothing. Core-local Clasps are
kept under the logical core and need no move (R303). -/
def execMigrationPassBoundary (s : State) : Res :=
  .next (match s.migration with
    | none => s
    | some g =>
      let x := s.core g.old
      if !(x.runs.isEmpty && x.chain.isNone) then s
      else
        let s := (List.range 64).foldl (fun (s : State) h => s.copyHandle g.old g.new h) s
        let y := s.core g.new
        let s := s.setCore g.new { y with holds := x.holds, remoteData := x.remoteData, lending := x.lending }
        let s := s.setCore g.old { s.core g.old with holds := [], remoteData := none, lending := false, forwardTo := some g.new }
        let s := (s.wf (F.CORE_ID_LOGICAL g.new) g.logical).wf (F.CORE_ID_ENABLED g.new) 1
        let s := (s.wf (F.CORE_ID_LOGICAL g.old) 0x1FF).wf (F.CORE_ID_ENABLED g.old) 0
        let s := [F.CORE_STATE_TASK, F.CLASP_CORE_WAIT_NUM, F.CLASP_CORE_WAIT_VALID, F.CLASP_CORE_TARGET_TARGET, F.CLASP_CORE_HOLDS_COUNT].foldl
          (fun (s : State) f => (s.wf (f g.new) (s.rf (f g.old))).wf (f g.old) 0) s
        let s := s.wf (F.SPARE_EPOCH_EPOCH g.logical) (s.rf (F.SPARE_EPOCH_EPOCH g.logical) + 1)
        let k := g.old / 6
        let s := ((s.showCluster k).wf (F.SPARE_CLUSTER_MOVED k) 1).zero [F.SPARE_STATUS_MIGRATING, F.SPARE_STATUS_LOGICAL]
        let s := (s.bump (F.SPARE_CNT_COUNT 0) 1).life (0x4900 + 4 * k) 1
        { s with migration := none }.event 0x1300 srcLocket g.logical g.old g.new g.trigger)

/-- A forwarded access at the spare n of logical core m (R461). -/
def State.forwarded (s : State) (n m : Nat) (a : Access) : State :=
  let now := s.rf (F.SPARE_EPOCH_EPOCH m)
  let o := a.addr % 0x01000000
  if a.epoch + 1 = now then
    match s.handleAt n o with
    | none => if a.isRead then s.badRead n a.source else s.badWrite n
    | some h => s.serveAccess n h o a
  else ((s.bump (F.SPARE_CNT_COUNT 1) 1).raise F.SPARE_ERR_FWD_DROP).event 0x1305 srcLocket m a.epoch now 0

/-- FORWARDED_ACCESS (R461): the oldest access that a slot holds behind its stubs, once the migration has given it a place to go. Where it reaches a bank of the spare
that sleeps it waits on (R170). A write that is done or dropped is no longer outstanding at its engine (R178). -/
def execForwardedAccess (o : Nat) (s : State) : Res :=
  .next (match (s.core o).forwardTo, (s.core o).heldAccess.find? (fun e => e.1.isNone) with
    | some n, some e =>
      let a := e.2
      let (s, ready) := s.touch n (a.addr % 0x01000000) (if a.isRead then a.len else a.data.length) a.isRead
      if !ready then s
      else
        let s := (s.setCore o { s.core o with heldAccess := (s.core o).heldAccess.erase e }).forwarded n (s.logicalOf n) a
        if a.isRead then s else s.packetDone a
    | _, _ => s)

/-! ### The board (R472, R475, R477) -/

/-- SLOT_REMOVED (R475): the power-fail sequence, with PARAM0 = 1. -/
def execSlotRemoved (s : State) : Res := .next ((s.wf F.BOARD_STATUS_PRESENT 0).powerFail 1)

/-- RACKCLK_LOST (R477). -/
def execRackclkLost (s : State) : Res := .next ((s.wf F.BOARD_STATUS_REF_SRC 1).raise F.BOARD_ERR_REF_LOST)

/-- HOLDUP_LOW (R472): the bank below 46 V while VIN is at 32 V or above. -/
def execHoldupLow (volts : Nat) (s : State) : Res :=
  let s := (s.wf F.BOARD_STATUS_HOLDUP_V (min volts 511)).wflag F.BOARD_STATUS_HOLDUP_OK (decide (460 ≤ volts))
  .next (if volts < 460 ∧ 3200 ≤ s.rf F.POWER_VIN_VOLTS then s.raise F.BOARD_ERR_HOLDUP_LOW else s)

end Sys2Proof.Machine
end

