-- ==== Sys2Proof/Machine/Test.lean ====
section
/-! DEFINITION. Self-test (R451 to R453). -/

namespace Sys2Proof.Machine

/-- Partitions of a die's logic BIST (R451); the Locket offers none. -/
def partitions (d : Nat) : Nat :=
  if d = 0 then 17 else if d ≤ 16 then 29 else if d ≤ 18 then 6 else 0

/-- The LBIST golden value of partition p of die d, stepping A0 (R452). -/
def goldenLbist (d p : Nat) : BitVec 64 :=
  if d = 0 then (if p < 16 then 0x57C2E9A03B14F86D else 0x0E6BD315A9F47C82)
  else if d ≤ 16 then (if p < 24 then 0x6A3E91C40B7D25F8 else if p < 28 then 0x1D904E7BC352A06E else 0xB41F0C8D7E26593A)
  else (if p < 4 then 0x92A75D3E06C1B4F9 else if p = 4 then 0xC85E2F7194B03DA6 else 0x3F04A6E9D82715BC)

/-- The MBIST golden value of die d (R452). -/
def goldenMbist (d : Nat) : BitVec 64 :=
  if d = 0 then 0xA1D83C67F5029E4B else if d ≤ 16 then 0x7B26E0D419AFC358 else if d ≤ 18 then 0x4E93B7A12D6C08F5 else 0xD07A15E36B9C42A8

/-- Start a test of a kind on a die: 1 LBIST, 2 MBIST, 3 both. An edge die's links go down (R453). -/
def State.startTest (s : State) (d kind : Nat) : State :=
  let s : State := { s with tests := s.tests ++ [⟨d, kind⟩] }
  let s := ((s.wf (F.TEST_RESULT_STATUS_STATE d) 1).wf (F.TEST_RESULT_STATUS_KIND d) kind)
  if d = 17 then (s.linkDown 0).linkDown 2
  else if d = 18 then (s.linkDown 1).linkDown 3
  else s

/-- TEST_CMD (R453). KIND 0 is ignored, and so is a number that is no die. -/
def execTestCmd (d kind : Nat) (s : State) : Res :=
  .next (if kind = 0 ∨ 3 < kind ∨ 19 < d then s
    else if s.rf F.FRONT_STATUS_STEP ≠ stepHalted ∨ d = 19 ∨ s.tests.any (fun t => t.die == d) then s.raise F.TEST_ERR_REFUSED
    else s.startTest d kind)

/-- Memory between two module addresses is 0 and carries no poison tag. -/
def State.wipe (s : State) (a b : Nat) : State :=
  { s with mem := SMap.dropRange s.mem a b, poison := s.poison.filter (fun e => !(decide (a ≤ e.1 * 4) && decide (e.1 * 4 < b))) }

/-- Clasps from number a up to b read 0 with their flags clear. -/
def State.zeroClasps (s : State) (a b : Nat) : State :=
  (List.range (b - a)).foldl (fun (s : State) i =>
    s.zero [F.CLASP_VALUE_VALUE (a + i), F.CLASP_FLAG_OVF (a + i), F.CLASP_FLAG_UNF (a + i), F.CLASP_FLAG_MIS (a + i)]) s

/-- What a test of die d destroys (R453): a compute die's stores and Clasps; the Casket with its Charm contexts, transit rings and word queues, and the
hub Clasps. -/
def State.testDestroys (s : State) (d : Nat) : State :=
  if d = 0 then
    let s := (s.wipe 0x020000000000 0x020100000000).zeroClasps 0 4096
    { s with casket := { s.casket with queues := [], transit0 := [], transit1 := [], lastRead := none } }
  else if d ≤ 16 then
    ((List.range 24).foldl (fun (s : State) k => s.wipe (storeBase (24 * (d - 1) + k)) (storeBase (24 * (d - 1) + k) + storeBytes)) s).zeroClasps
      (4096 + 3840 * (d - 1)) (4096 + 3840 * d)
  else s

/-- The columns, width and sentinels of physical core n, as the diagnostic leaves them (R451, R136). -/
def State.putColumns (s : State) (n : Nat) (cols : List Nat) (sentOk : Bool) : State :=
  let mask := (cols.map (fun c => 2 ^ c)).sum
  let s := (List.range 3).foldl (fun (s : State) i => s.wf (F.CORE_BADCOL_COLS n i) (mask / 2 ^ (32 * i) % 2 ^ 32)) s
  let s := (s.wf (F.CORE_COLMAP_BAD0 n) (nth cols 0 0x7F)).wf (F.CORE_COLMAP_BAD1 n) (nth cols 1 0x7F)
  (s.wf (F.CORE_COLMAP_WIDTH n) (if cols.length ≤ 1 then 64 else 65 - cols.length)).wflag (F.CORE_COLMAP_SENT_OK n) sentOk

/-- A bad core or column enters the disabled-unit map: at a start it is fused, else it stays in the soft part (R456). -/
def State.badUnit (s : State) (u : BadUnit) : State :=
  let s := s.softDisable u
  if s.rf F.SETUP_STATE_STATE = 6 then s.blowFuse u else s

/-- What the core partitions of a compute die have shown: bad columns isolated where the partition then matches, the core disabled where it does not. -/
def State.coreResults (s : State) (d failMap : Nat) (r : BistOut) : State :=
  (List.range 24).foldl (fun (s : State) p =>
    let n := 24 * (d - 1) + p
    if bit failMap p then s.badUnit ⟨n, none⟩
    else
      let cols := (r.columns.filter (fun e => e.1 == p)).flatMap (·.2)
      let s := s.putColumns n cols (!r.sentinels.contains p)
      let s := s.life (0x4A00 + 4 * n) (cols.filter (fun c => !s.locket.fused.contains ⟨n, some c⟩)).length
      cols.foldl (fun (s : State) c => s.badUnit ⟨n, some c⟩) s) s

/-- BIST_DONE (R451 to R453, R448). A core with bad columns whose partition passes with them isolated has passed. -/
def execBistDone (d : Nat) (r : BistOut) (s : State) : Res :=
  .next (match s.tests.find? (fun t => t.die == d) with
    | none => s
    | some t =>
      let s : State := { s with tests := s.tests.filter (fun t => t.die != d) }
      let lb := bit t.kind 0
      let mb := bit t.kind 1
      let ps := List.range (partitions d)
      let failMap := if lb then (ps.map (fun p => if nth r.lbist p 0 = goldenLbist d p then 0 else 2 ^ p)).sum else 0
      let s := s.testDestroys d
      let s := if lb then ps.foldl (fun (s : State) p =>
          s.wpair (F.TEST_PSIG_LO_SIG (32 * d + p)) (F.TEST_PSIG_HI_SIG (32 * d + p)) (nth r.lbist p 0).toNat) s else s
      let s := if mb then
          let s := s.wpair (F.TEST_RESULT_MB_SIG_LO_SIG d) (F.TEST_RESULT_MB_SIG_HI_SIG d) r.mbist.toNat
          let s := (s.wf (F.TEST_RESULT_REPAIRED_ROWS d) r.rows).wf (F.TEST_RESULT_BANKFAIL_COUNT d) r.badBanks.length
          let s := if d = 0 then s.life 0x5000 r.banks else if d ≤ 16 then s.life 0x5004 r.banks else s
          if 1 ≤ d ∧ d ≤ 16 then
            { s with locket := { s.locket with badStores := (s.locket.badStores ++ r.badBanks.map (fun p => 24 * (d - 1) + p)).eraseDups } }
          else s
        else s
      let s := if lb && decide (1 ≤ d) && decide (d ≤ 16) then s.coreResults d failMap r else s
      let bad := decide (failMap ≠ 0) || (mb && (!r.badBanks.isEmpty || r.mbist != goldenMbist d))
      let s := s.wf (F.TEST_RESULT_FAILMAP_MAP d) failMap
      let s := (s.wf (F.TEST_RESULT_STATUS_STATE d) (if bad then 3 else 2)).wf (F.TEST_RESULT_STATUS_MS d) (min r.ms 65535)
      let s := s.event 0x0008 srcLocket d t.kind failMap 0
      let s := if mb && decide (0 < r.rows) then s.event 0x000A srcLocket 0 0 0 0 else s
      if bad then (s.raise F.TEST_ERR_FAIL).event 0x0009 srcLocket 0 0 0 0 else s)

end Sys2Proof.Machine
end

