-- ==== Sys2Proof/Machine/Startup.lean ====
section
/-! DEFINITION. Start-up: from applied 36 V, or a warm start, to READY (chapter 19, with chapters 15, 18, 20, 21 and 22 where they say what happens then). -/

namespace Sys2Proof.Machine

/-! ### Where a start stands and how it fails (R405, R406) -/

def suLocketBoot : Nat := 1
def suStraps : Nat := 2
def suSetting : Nat := 3
def suDiePower : Nat := 4
def suAlign : Nat := 5
def suSelfTest : Nat := 6
def suPresent : Nat := 7
def suTrain : Nat := 8
def suLpddrTest : Nat := 9

/-- Enter a start-up state. -/
def State.enter (s : State) (st : Nat) : State := s.wf F.SETUP_STATE_STATE st

/-- Start-up stops (R406): in FAILED, or NO_SETTING; the other dies lose supply; STARTUP_FAIL carries the state and the cause. -/
def State.startFail (s : State) (cause : Nat) : State :=
  let st := s.rf F.SETUP_STATE_STATE
  let s := (s.darken.wf F.SETUP_STATE_CAUSE cause).enter (if cause = 3 then suNoSetting else suFailed)
  s.event 0x1105 srcLocket st cause 0 0

/-! ### COLD_START (R405, R491) -/

/-- A flash operation that a start interrupts: its slot stays invalid (R403), and nothing is in progress. -/
def State.dropOp (s : State) (fwToo : Bool) : State :=
  match s.setup.op with
  | some (.erase false k) | some (.program false k _ _) | some (.commit false k) =>
    { s with setup := { s.setup with op := none } }.zero [F.SETUP_SLOT_BUSY k, F.SETUP_SLOT_VALID k]
  | some _ => if fwToo then { s with setup := { s.setup with op := none } } else s
  | none => s

/-- What outlasts the loss of 36 V: flash, fuses, the Locket's own time and record count, and what the module has handed out. Each register is at its reset
value, and those with reset "flash", "fuses", "serial" or "board" are then reloaded (R454, R491). -/
def State.cold (s : State) : State :=
  let r := State.reset
  let t : State := { r with
    flash := s.flash, free := s.free, hostOut := s.hostOut, pending := s.pending
    ev := { r.ev with second := s.ev.second, circ := s.ev.circ, badSectors := s.ev.badSectors, ledger := s.ev.ledger }
    lifeX := { r.lifeX with nextSlot := s.lifeX.nextSlot, nextDelta := s.lifeX.nextDelta }
    power := { r.power with dies := [19] }
    locket := { r.locket with owners := s.locket.owners, oseq := s.locket.oseq, fused := s.locket.fused, preferred := s.locket.preferred
                              serial := s.locket.serial, idModulus := s.locket.idModulus, idPrivate := s.locket.idPrivate } }
  let keep := fun (t : State) (f : Fld) => t.wf f (s.rf f)
  let t := [F.EVENT_SEQ_SEQ, F.EVENT_CLEARED_UPTO_VALUE, F.EVENT_CSEQ_VALUE, F.LIFE_HOURS_HOURS, F.LOCKET_SVN_COUNT].foldl keep t
  let t := (t.wf F.SPARE_FUSES_USED t.locket.fused.length).wpair F.LOCKET_SERIAL_LO_SERIAL F.LOCKET_SERIAL_HI_SERIAL t.locket.serial.toNat
  let t := (t.wf F.BOARD_ID_BOARD_REV Config.boardRev.toNat).wf F.BOARD_ID_ASSY Config.boardAssy.toNat
  if t.ev.badSectors.length ≤ 6 then t.wf F.EVENT_STATUS_BAD_SECTORS t.ev.badSectors.length else t.showSectors

/-- COLD_START (R405, R348, R475): the input held 32 V or more for 100 ms with the slot present; the Locket's reset is released. It comes to a module that
has no supply, or that a power fail has stopped. -/
def execColdStart (volts : Nat) (s : State) : Res :=
  .next (if volts < 3200 ∨ !(s.power.failing || s.power.dies.isEmpty) then s
    else
      let s := (s.cold.enter suLocketBoot).wf F.BOARD_STATUS_PRESENT 1
      { s with setup := { s.setup with elapsed := 100 } })

/-! ### LOCKET_BOOT (R418, R419, R450) -/

/-- Whether the 64 KiB at lifetime slot k hold a valid snapshot (R448, R450). -/
def State.snapshotAt (s : State) (k : Nat) : Option (List Byte) :=
  let a := 0x0C900000 + k * 65536
  if leNat (s.rflash a 4) = 0x4546494C then
    let b := s.rflash a 65536
    if leAt b 4 2 == 0x0100 && leAt b 65532 4 == crc32c (b.take 65532) then some b else none
  else none

/-- The valid snapshot with the highest LSEQ (R450). -/
def State.bestSnapshot (s : State) : Option (List Byte) :=
  ((List.range 240).filterMap s.snapshotAt).foldl (fun (best : Option (List Byte)) b =>
    match best with
    | some c => if leAt c 8 4 < leAt b 8 4 then some b else best
    | none => some b) none

/-- The valid deltas that amend a snapshot, in slot order (R450). -/
def State.deltasOf (s : State) (lseq : Nat) : List (List Byte) :=
  (List.range 256).filterMap (fun k =>
    let a := 0x0D800000 + k * 4096
    if leNat (s.rflash a 4) = 0x544C4544 then
      let b := s.rflash a 4096
      if leAt b 4 4 == lseq && decide (leAt b 0xC 2 ≤ 508) && leAt b 4092 4 == crc32c (b.take 4092) then some b else none
    else none)

/-- Add one entry of a delta (R450): a word, or the low word of a pair, whose carry goes on into the high word. -/
def State.addDelta (s : State) (w inc : Nat) : State :=
  let o := 4 * w
  let v := s.rf (lifeFld o) + inc
  let s := s.wf (lifeFld o) v
  if lifeHigh (o + 4) ∧ 2 ^ 32 ≤ v then s.wf (lifeFld (o + 4)) (s.rf (lifeFld (o + 4)) + 1) else s

/-- Apply a delta. -/
def State.applyDelta (s : State) (b : List Byte) : State :=
  let s := (List.range (leAt b 0xC 2)).foldl (fun (s : State) i => s.addDelta (leAt b (0x18 + 8 * i) 4) (leAt b (0x1C + 8 * i) 4)) s
  if bit (leAt b 0xE 2) 0 then s.raise F.LIFE_ERR_TRUNCATED else s

/-- Restore the lifetime image (R450), and count the start. What flash holds is what later deltas count from: DEDUCED, since every delta of one snapshot
is applied. -/
def State.restoreLife (s : State) : State :=
  let done := fun (s : State) => ({ s with lifeX := { s.lifeX with base := s.lifeWords } } : State)
  match s.bestSnapshot with
  | some b =>
    let s := (List.range 16383).foldl (fun (s : State) i => s.wf (lifeFld (4 * i)) (leAt b (4 * i) 4)) s
    let s := s.wf F.LIFE_LSEQ_LSEQ (leAt b 8 4)
    let l := s.deltasOf (leAt b 8 4)
    let s := (done (l.foldl State.applyDelta s)).life 0x5444 1
    if l.isEmpty then s else s.life 0x5450 1
  | none => (((done s).life 0x5444 1).raise F.LIFE_ERR_RESTORE).event 0x0007 srcLocket 0 0 0 0

/-- The loader runs the preferred firmware, else the other, else the recovery image (R418, R419). -/
def State.bootFw (s : State) : State :=
  let p := s.locket.preferred
  let look := fun (s : State) (k : Nat) =>
    (if s.fwValid k then s else if s.fwUnsigned k then s.signatureFail else s).showFwSlot k (s.fwValid k)
  let s := (look (look s p) (1 - p)).prefer p
  match [p, 1 - p].find? (fun k => s.fwValid k) with
  | some k => ((s.runFw k).event 0x1200 srcLocket 0 0 0 0).enter suStraps
  | none =>
    let s := ((s.wf F.LOCKET_FW_STATUS_RECOVERY 1).wf F.HOSTIF_STATUS_RECOVERY 1).event 0xF002 srcLocket 0 0 0 0
    s.enter suNoSetting

/-- LOCKET_BOOT ends (R418): with neither loader copy good the Locket never becomes configuration-ready. -/
def State.bootDone (s : State) (r : StartOut) : State :=
  match r.loader with
  | none => s
  | some c =>
    let s := (s.wf F.LOCKET_FW_STATUS_LOADER c).restoreLife
    let s := (List.range 8).foldl (fun (s : State) i => s.wflag (F.LOCKET_OWNER_VALID i) (nth s.locket.owners i none).isSome) s
    { s.bootFw with pcie := { s.pcie with configReady := true } }

/-! ### STRAPS (R404, R405) -/

/-- STRAPS ends: three equal readings, then the reference. -/
def State.strapsDone (s : State) (r : StartOut) : State :=
  match r.straps with
  | [a, b, c] =>
    if a = b ∧ b = c then
      let s := s.wflag F.BOARD_STATUS_PCIE_CLK_OK r.pcieClk
      if !r.refclk then s.startFail 2
      else
        let pos := a.1 % 32
        let stage := a.2 % 64
        let s := ((s.wf F.SETUP_IDENT_POS pos).wf F.SETUP_IDENT_STAGE stage).wf F.SETUP_IDENT_MODULE_ID (stage * 32 + pos)
        (s.wf F.BOARD_STATUS_REF_SRC 0).enter suSetting
    else s.startFail 1
  | _ => s.startFail 1

/-! ### SETTING (R400, R401, R413) -/

/-- Why slot k does not load, or 0, and the image offset that goes with reason CHECK (R400, R401). -/
def State.slotReason (s : State) (k : Nat) : Nat × Nat :=
  let r := s.imageFail k
  if r ≠ 0 then (r, 0)
  else match s.checkFail (s.rflash (setBase k) (leAt (s.setHead k) 0xC 4)) with
    | some o => (failCheck, o)
    | none => (0, 0)

/-- Whether the register at an offset lies on the Locket, which writes it as it loads, and not on a die, which gets it at PRESENT. -/
def onLocket (x : Nat) : Bool := (blockDie x).isNone

/-- The port enables that an image holds back (R397): a module at the first or last stage has no neighbour beyond it, and one strapped past the last stage
enables neither pipeline port (R61). -/
def State.heldEnables (s : State) (img : List Byte) : List Bool :=
  let recs := regRecords img s.pos
  let last := fun (x : Nat) => (((recs.filter (fun r => r.1 == x)).getLast?).map (fun r => r.2.1)).getD 0
  let n := bits (last F.PIPE_SCHED_N_M1.off) 5 6
  let stage := s.rf F.SETUP_IDENT_STAGE
  [bit (last (F.CHAIN_CTRL_EN 0).off) 0, bit (last (F.CHAIN_CTRL_EN 1).off) 0,
   bit (last F.PIPE_CTRL_EN_UP.off) 0 && decide (0 < stage) && decide (stage ≤ n),
   bit (last F.PIPE_CTRL_EN_UP.off) 1 && decide (stage < n)]

/-- Write the records of the loaded image whose registers satisfy a test. -/
def State.putImage (s : State) (p : Nat → Bool) : State :=
  ((regRecords s.setup.image s.pos).filter (fun r => p r.1)).foldl (fun (s : State) r => s.putRecord (r.1, r.2.1)) s

/-- The amendment on page i of the log. -/
def State.logged (s : State) (i : Nat) : List Byte :=
  let b := s.rflash (logPage i) 4096
  b.take (amLen b)

/-- Whether page i of the log holds the amendment that follows the ASEQ accepted last (R413). -/
def State.logGood (s : State) (i : Nat) : Bool :=
  let b := s.rflash (logPage i) 4096
  leAt b 0 4 == 0x444E4D41 && amFormat b && amSeq b == s.rf F.SETUP_ASEQ_ASEQ + 1 && s.ownerSealed (b.take (amLen b))

/-- Replay the log from page i on, at most k pages (R413). -/
def State.replay : Nat → Nat → State → State
  | 0, _, s => s
  | k + 1, i, s =>
    if s.logGood i then
      let b := s.logged i
      let s := (s.amendRecords b onLocket).wf F.SETUP_ASEQ_ASEQ (amSeq b)
      let s := s.event 0x1108 srcLocket (amSeq b) (amType b) 0 0
      State.replay k (i + 1) { s with setup := { s.setup with logPages := i + 1 } }
    else s

/-- The amendment log at a start (R413): erased where it belongs to another image, else replayed. -/
def State.replayLog (s : State) : State :=
  let first := s.rflash (logPage 0) 64
  let s : State := { s with setup := { s.setup with logPages := 0, amendments := [] } }
  let s := s.wf F.SETUP_ASEQ_ASEQ 0
  if erased first then s
  else if (first.drop 0x20).take 32 ≠ s.settingHash then s.eraseFlash (logPage 0) (4096 * logSize)
  else State.replay logSize 0 s

/-- A slot loads (R401): its image is held, the registers of the Locket's own blocks are written, and the log is replayed. -/
def State.loadSlot (s : State) (k : Nat) : State :=
  let img := s.rflash (setBase k) (leAt (s.setHead k) 0xC 4)
  let s := ((s.wf (F.SETUP_SLOT_VALID k) 1).wf (F.SETUP_SLOT_ACTIVE k) 1).wf (F.SETUP_SLOT_FAIL k) 0
  let h := sha256 img
  let s := (List.range 8).foldl (fun (s : State) i => s.wf (F.SETUP_HASH_HASH i) (leAt h (4 * i) 4)) s
  let t := s.candidate img
  let s : State := { s with setup := { t.setup with heldEn := s.heldEnables img } }
  let s := (s.putImage onLocket).gateChange
  let s := s.wf F.POWER_PACE_NOW_P (s.rf F.POWER_PACE_TARGET)
  let s : State := { s with power := { s.power with lowest := s.rf F.POWER_PACE_TARGET } }
  let s := if bits ((regRecords img s.pos).foldl (fun a r => if r.1 = F.PIPE_SCHED_N_M1.off then r.2.1 else a) 0) 5 6 < s.rf F.SETUP_IDENT_STAGE then
      s.event 0x020F srcLocket (s.rf F.SETUP_IDENT_STAGE) 0 0 0 else s
  s.replayLog.enter suDiePower

/-- A slot that does not load (R400, R401). -/
def State.slotFails (s : State) (k : Nat) (r : Nat × Nat) : State :=
  (if r.1 = failCheck then s.wf F.SETUP_FAIL_OFF_OFFSET r.2 else s).slotBad k r.1

/-- SETTING ends (R400): the slot with the higher SEQ, slot A when equal; then the other. -/
def State.settingDone (s : State) : State :=
  let s := (s.wf (F.SETUP_SEQ_SEQ 0) (s.setSeq 0)).wf (F.SETUP_SEQ_SEQ 1) (s.setSeq 1)
  let s := s.zero [F.SETUP_SLOT_ACTIVE 0, F.SETUP_SLOT_ACTIVE 1]
  let a := if s.setSeq 0 < s.setSeq 1 then 1 else 0
  let r := s.slotReason a
  if r.1 = 0 then s.loadSlot a
  else
    let s := s.slotFails a r
    let q := s.slotReason (1 - a)
    if q.1 = 0 then (((s.raise F.SETUP_ERR_FALLBACK).event 0x1101 srcLocket 0 0 0 0).loadSlot (1 - a))
    else ((s.slotFails (1 - a) q).event 0x1102 srcLocket 0 0 0 0).startFail 3

/-! ### DIE_POWER, ALIGN and SELF_TEST (R405, R472, R324, R453) -/

/-- DIE_POWER ends: a cold start waits for the hold-up bank; every die reports ready. -/
def State.diePowerDone (s : State) (r : StartOut) : State :=
  let s := (s.wf F.BOARD_STATUS_HOLDUP_V (min r.holdup 511)).wflag F.BOARD_STATUS_HOLDUP_OK (decide (460 ≤ r.holdup))
  if (!s.flag F.SETUP_STATE_WARM && decide (r.holdup < 460)) || !(List.range 19).all (fun d => r.ready.contains d) then s.startFail 4
  else { s with power := { s.power with dies := List.range 20 }, loupe := { s.loupe with alignTries := 0, aligned := false } }.enter suAlign

/-- ALIGN_EDGE (R324): each die's crossing queues are empty; a third mismatch fails the start, with the dies named in LOUPE_ALIGN. -/
def execAlignEdge (mismatched : List Nat) (s : State) : Res :=
  .next (if s.rf F.SETUP_STATE_STATE ≠ suAlign ∨ s.loupe.aligned then s
    else
      let s : State := { s with casket := { s.casket with queues := s.casket.queues.filter (fun q => decide (q.1 < 1792)) } }
      if mismatched.isEmpty then { s with loupe := { s.loupe with aligned := true } }
      else
        let s : State := { s with loupe := { s.loupe with alignTries := s.loupe.alignTries + 1 } }
        if s.loupe.alignTries < 3 then s
        else (s.event 0x0D01 srcLocket ((mismatched.map (fun d => 2 ^ d)).sum) 0 0 0).startFail 5)

/-- ALIGN ends: every die is tested, with the soft part of the disabled-unit map built anew (R456). -/
def State.alignDone (s : State) : State :=
  if !s.loupe.aligned then s
  else
    let s : State := { s with locket := { s.locket with soft := [], badStores := [] } }
    (List.range 20).foldl (fun (s : State) d => s.startTest d (if d = 19 then 2 else 3)) (s.enter suSelfTest)

/-! ### PRESENT (R323, R405, R457) -/

/-- The slots that cluster k presents, in the order of its logical cores: the presentable ones, then, where the Setting permits a narrower presentation, those
of W from 48 to 63 with good sentinels (R457). -/
def State.clusterMap (s : State) (k : Nat) : List Nat :=
  let slots := (List.range 6).map (fun i => 6 * k + i)
  let good := slots.filter s.presentable
  let narrow := slots.filter (fun n => !s.disabled n && s.flag (F.CORE_COLMAP_SENT_OK n) && !s.locket.badStores.contains n &&
    decide (48 ≤ s.rf (F.CORE_COLMAP_WIDTH n)) && decide (s.rf (F.CORE_COLMAP_WIDTH n) ≤ 63))
  (if s.setup.narrowOk then good ++ narrow else good).take 5

/-- Whether a cluster has five presentable slots. -/
def State.uniform (s : State) (k : Nat) : Bool := decide (5 ≤ (((List.range 6).map (fun i => 6 * k + i)).filter s.presentable).length)

/-- Present a cluster: CORE.ID of its slots, SPARE.CLUSTER. -/
def State.presentCluster (s : State) (k : Nat) : State :=
  let s := (List.range 6).foldl (fun (s : State) i => s.wf (F.CORE_ID_PHYS (6 * k + i)) (6 * k + i)) s
  let l := s.clusterMap k
  (((List.range 5).zip l).foldl (fun (s : State) e => (s.wf (F.CORE_ID_LOGICAL e.2) (5 * k + e.1)).wf (F.CORE_ID_ENABLED e.2) 1) s).showCluster k

/-- What firmware fixes on the dies: the crossing queues (R203), the placed regions (R186), this module's place on the arc, the format entries at their BASE
(R115: DEDUCED), the two parts of the records area (R247). -/
def State.fixDies (s : State) : State :=
  let s := s.placeCasket.showShared
  let s : State := { s with front := { s.front with graphStore := Config.graphStoreBytes } }
  let s := (List.range 256).foldl (fun (s : State) i =>
    let q := 1792 + i
    (((s.wf (F.CASKET_QCFG_MID q) 256).wf (F.CASKET_QCFG_VALID q) 1).wf (F.CASKET_QCFG_CROSSING q) 1).wf (F.CASKET_QBASE_STRIPE q) (256 * i)) s
  let s := (s.wf F.CHAIN_MEMBER_POS s.pos).wf F.CHAIN_MEMBER_STAGE (s.rf F.SETUP_IDENT_STAGE)
  let s := (List.range 4096).foldl (fun (s : State) n =>
    if s.flag (F.FMT_ENT_CFG_VALID n) then
      let b := s.rf (F.FMT_ENT_CFG_BASE n)
      (s.wf (F.FMT_ENT_STATE_USE n) b).wf (F.FMT_ENT_STATE_CAST n) b
    else s) s
  ((s.wf (F.HEALTH_CAMEO_PART_SIZE_MIB 4) 2).wf (F.HEALTH_CAMEO_PART_OFFSET_MIB 5) 2).wf (F.HEALTH_CAMEO_PART_SIZE_MIB 5) 1

/-- PRESENT ends: a Casket bank beyond repair, or a cluster that cannot be presented uniformly where the Setting asks for it, fails the start; else the map and
the shadow, with the logged amendments, go to the dies. -/
def State.presentDone (s : State) : State :=
  let ks := List.range 64
  if s.rf (F.TEST_RESULT_BANKFAIL_COUNT 0) ≠ 0 ∨ (!s.setup.narrowOk && !ks.all s.uniform) then s.startFail 6
  else
    let s := (s.putImage (fun x => !onLocket x)).fixDies
    let s := (List.range s.setup.logPages).foldl (fun (s : State) i => s.amendRecords (s.logged i) (fun x => !onLocket x)) s
    let lack := (ks.map (fun k => 5 - (s.clusterMap k).length)).sum
    let narrow := !ks.all s.uniform
    let s := ks.foldl State.presentCluster s
    (if narrow then s.event 0x1304 srcLocket lack 0 0 0 else s).enter suTrain

/-! ### LPDDR5X and READY (R408, R409, R405) -/

/-- LPDDR_TRAIN ends (R408). -/
def State.trainDone (s : State) (r : StartOut) : State :=
  if r.rate = 0 ∨ 3 < r.rate then s.startFail 7
  else
    let s := (List.range 128).foldl (fun (s : State) c => s.wf (F.MEMC_CHAN_TRAINED c) 1) (s.wf F.SETUP_LPDDR_RATE r.rate)
    (if r.rate < 3 then (s.raise F.SETUP_ERR_LPDDR).event 0x1106 srcLocket 0 0 0 0 else s).enter suLpddrTest

/-- LPDDR_TEST ends (R409): each row repaired counts and is recorded; an error beyond repair fails the start. -/
def State.lpddrDone (s : State) (r : StartOut) : State :=
  let s := s.wf F.SETUP_LPDDR_REPAIRED (min r.repairs.length 65535)
  let s := r.repairs.foldl (fun (s : State) c =>
    (((s.bump (F.MEMC_CHAN_REPAIRED c) 1).life 0x5008 1).raise F.SETUP_ERR_LPDDR).event 0x1107 srcLocket 0 0 0 0) s
  if r.spent then s.startFail 8 else s.enter suReady

/-- READY (R405): the held enables, MODULE_READY with its MSI-X, STARTUP_READY. -/
def State.ready0 (s : State) : State :=
  let ports := (List.range 4).zip s.setup.heldEn
  let s := ports.foldl (fun (s : State) e =>
    if e.2 then (s.wf (if e.1 < 2 then F.CHAIN_CTRL_EN e.1 else pipeEn e.1) 1).lkStart e.1 else s) s
  let s := (s.wf F.HOSTIF_STATUS_MODULE_READY 1).msix (s.rf F.HOSTIF_EVENT_VEC_VEC)
  (s.wf F.SETUP_TIME_MS_MS s.setup.elapsed).event 0x1104 srcLocket 0 0 0 0

/-- STARTUP_STATE_DONE (R405): the state in progress ends. SELF_TEST ends once every die's test has; ALIGN once the crossings are aligned. -/
def execStartupStateDone (r : StartOut) (s : State) : Res :=
  let s : State := if s.power.failing then s else { s with setup := { s.setup with elapsed := s.setup.elapsed + r.ms } }
  let st := s.rf F.SETUP_STATE_STATE
  .next (if s.power.failing then s
    else if st = suLocketBoot then s.bootDone r
    else if st = suStraps then s.strapsDone r
    else if st = suSetting then s.settingDone
    else if st = suDiePower then s.diePowerDone r
    else if st = suAlign then s.alignDone
    else if st = suSelfTest then (if s.tests.isEmpty then s.enter suPresent else s)
    else if st = suPresent then s.presentDone
    else if st = suTrain then s.trainDone r
    else if st = suLpddrTest then
      let s := s.lpddrDone r
      if s.rf F.SETUP_STATE_STATE = suReady then s.ready0 else s
    else s)

/-! ### WARM (R407, R346) -/

/-- The start itself: MODULE_READY clears, the other dies lose supply, the module domain is reset, and the states from STRAPS on run. -/
def State.warm (s : State) : State :=
  let live := (s.rf F.BOARD_STATUS_PRESENT, s.rf F.BOARD_STATUS_HOLDUP_OK, s.rf F.BOARD_STATUS_PCIE_CLK_OK, s.rf F.BOARD_STATUS_HOLDUP_V)
  let s := (s.startFlush.notReady.darken.dropOp false).resetDomain .module
  let s := ((s.wf F.BOARD_STATUS_PRESENT live.1).wf F.BOARD_STATUS_HOLDUP_OK live.2.1).wf F.BOARD_STATUS_PCIE_CLK_OK live.2.2.1
  let s := s.wf F.BOARD_STATUS_HOLDUP_V live.2.2.2
  let s : State := { s with setup := { s.setup with elapsed := 0 }, ev := { s.ev with lastSeq := [] }, tests := [] }
  let s : State := { s with power := { State.reset.power with dies := [19] } }
  ((s.wf F.SETUP_STATE_WARM 1).enter suStraps).life 0x5448 1

/-- WARM (R407): after a thermal trip only once the coolant is in range and the Locket is below 85 degrees (R346). Recovery firmware loads no Setting (R419). -/
def execWarm (key : BitVec 16) (s : State) : Res :=
  .next (if key ≠ 0x5752 ∨ s.power.failing ∨ !s.power.dies.contains 19 ∨ s.rf F.SETUP_STATE_STATE = suLocketBoot ∨ s.flag F.LOCKET_FW_STATUS_RECOVERY then s
    else if s.rf F.SETUP_STATE_STATE = suTripped ∧
        !(coolOk (s.rf F.POWER_COOL_INLET) (s.rf F.POWER_COOL_FLOW) && decide (s.rf (F.POWER_TEMP_NOW 19) < 85)) then
      s.event 0x0E07 srcLocket 0 0 0 0
    else s.warm)

end Sys2Proof.Machine
end

