-- ==== Sys2Proof/Machine/Formats.lean ====
section
/-! DEFINITION. Item 8 of the step boundary: promotion and demotion of the format-table entries, and their tensor exponents (R115 to R120). -/

namespace Sys2Proof.Machine

/-! ### Promotion and demotion (R115, R116) -/

/-- The thresholds of a set (R121). -/
structure Thr where
  bin : Nat
  tail : Nat
  minSamples : Nat
  demoteSteps : Nat
  ovfLimit : Nat
  deriving DecidableEq, Repr

/-- The thresholds in force for an entry. -/
def State.thr (s : State) (e : Nat) : Thr :=
  let t := s.rf (F.FMT_ENT_CFG_THR e)
  ⟨s.rf (F.FMT_THR_A_BIN t), s.rf (F.FMT_THR_A_TAIL t), s.rf (F.FMT_THR_B_MIN_SAMPLES t), s.rf (F.FMT_THR_B_DEMOTE_STEPS t), s.rf (F.FMT_THR_C_OVF_LIMIT t)⟩

/-- What a window's summary decides for an entry that is not settling (R116). -/
inductive FmtMove where
  /-- too few samples: nothing -/
  | stay
  /-- a promotion is due and CAST stands at CEIL or at the top -/
  | ceil
  | promote (f : Nat)
  | demote (f : Nat)
  /-- a clean window; one that is neither clean nor bad -/
  | clean
  | unclean
  deriving DecidableEq, Repr

/-- One place narrower on the path from BASE (R115). -/
def narrower (cast base : Nat) : Nat := ((fmtPath 5 base).find? (fun f => wider f == some cast)).getD cast

/-- The decision of R116. -/
def fmtMove (t : Thr) (base ceil cast clean flaps : Nat) (x : FmtSum) : FmtMove :=
  let many := decide (0 < t.ovfLimit) && decide (t.ovfLimit ≤ x.ovfSc)
  if x.samples < max t.minSamples 1 then .stay
  else if decide (0 < t.bin) && (decide (t.tail * x.samples < x.badP * 1024) || many) then
    if cast = ceil then .ceil
    else match wider cast with
      | some f => .promote f
      | none => .ceil
  else if decide (x.badC * 1024 ≤ t.tail * x.samples) && x.ovfSc == 0 then
    if decide (0 < t.demoteSteps) && cast != base && decide (t.demoteSteps * 2 ^ min flaps 4 ≤ min (clean + 1) 65535) then
      .demote (narrower cast base)
    else .clean
  else .unclean

/-- Apply a decision to an entry (R116, R122, R448): its registers, its event, the lifetime image's count. Old and new CAST share a parameter, the old in
bits 7:0: DESIGN CHOICE. The 16-bit counts of promotions and demotions stay at 65,535, where R121 says neither that nor that they wrap: DESIGN CHOICE. The second
answer says whether CAST has changed. -/
def State.moveFmt (s : State) (e : Nat) (t : Thr) (x : FmtSum) (m : FmtMove) : State × Bool :=
  let cast := s.rf (F.FMT_ENT_STATE_CAST e)
  let since := s.rf (F.FMT_ENT_CLEAN_SINCE_DEMOTE e)
  let count := fun (s : State) (n : Nat) => s.wf (F.FMT_ENT_CLEAN_SINCE_DEMOTE e) (min (n + 1) 4095)
  match m with
  | .stay => (s, false)
  | .ceil => (count (((s.raise F.FMT_ERR_CEIL).event 0x0302 srcHub e cast x.samples x.badP).wf (F.FMT_ENT_CLEAN_CLEAN e) 0) since, false)
  | .promote f =>
    let s := if since < t.demoteSteps then s.bump (F.FMT_ENT_CLEAN_FLAPS e) 1 else s
    let s := (s.wf (F.FMT_ENT_STATE_CAST e) f).wf (F.FMT_ENT_CLEAN_CLEAN e) 0
    let s := ((s.bump (F.FMT_ENT_MOVES_PROMOTIONS e) 1).bump F.FMT_LAST_PROMOTED 1).life (0x5100 + 4 * f) 1
    (count (s.event 0x0300 srcHub e (cast + 256 * f) x.samples x.badP) since, true)
  | .demote f =>
    let s := (s.wf (F.FMT_ENT_STATE_CAST e) f).wf (F.FMT_ENT_CLEAN_CLEAN e) 0
    let s := ((s.bump (F.FMT_ENT_MOVES_DEMOTIONS e) 1).bump F.FMT_LAST_DEMOTED 1).life (0x5200 + 4 * f) 1
    (count (s.event 0x0301 srcHub e (cast + 256 * f) x.samples x.badC) 0, true)
  | .clean => (count (s.bump (F.FMT_ENT_CLEAN_CLEAN e) 1) since, false)
  | .unclean => (count (s.wf (F.FMT_ENT_CLEAN_CLEAN e) 0) since, false)

/-! ### Tensor exponents (R119, R120) -/

/-- The largest finite value of a format that takes a tensor exponent (R119, R85, R89). -/
def expMax (f : Nat) : Option Num :=
  if f = 0x0A then some (Num.ofInt 7 0)
  else if f = 2 ∨ f = 3 ∨ f = 4 ∨ f = 0x0D then (elemFp f).map (fun p => p.decode p.top)
  else none

/-- The least k at which x ≤ M × 2^k, for positive x and M: the exact ⌈log2 (x / M)⌉. -/
def ceilLog2Ratio (x m : Num) : Int :=
  let l := x.log2 - m.log2
  if (m.scale l).lt x then l + 1 else l

/-- The largest value in an entry's AMAX history, as an FP32 word. -/
def State.historyMax (s : State) (e : Nat) : Word :=
  (List.range 16).foldl (fun (a : Word) i => maxMag a (BitVec.ofNat 32 (s.rf (F.FMT_ENT_HISTORY_AMAX i e)))) 0

/-- Push AMAX onto the history (R116). -/
def State.pushHistory (s : State) (e : Nat) (a : Word) : State :=
  let old := (List.range 15).map (fun i => s.rf (F.FMT_ENT_HISTORY_AMAX i e))
  let s := ((List.range 15).zip old).foldl (fun (s : State) p => s.wf (F.FMT_ENT_HISTORY_AMAX (p.1 + 1) e) p.2) s
  s.wf (F.FMT_ENT_HISTORY_AMAX 0 e) a.toNat

/-- The new CAST_K before its clamp, or none where it stays (R119, R120). -/
def State.castExp (s : State) (e : Nat) (x : FmtSum) (changed skipped lowers : Bool) : Option Int :=
  let k := signedOf (s.rf (F.FMT_ENT_STATE_CAST_K e)) 8
  match expMax (s.rf (F.FMT_ENT_STATE_CAST e)) with
  | none => some 0
  | some m =>
    if s.flag F.FMT_POLICY_HIST || changed then
      let h := s.historyMax e
      if h = 0 then none else some (ceilLog2Ratio (f32 h) m + (s.rf F.FMT_POLICY_MARGIN : Nat))
    else if skipped then (if 0 < x.ovfSc ∨ 0 < x.nf then some (k + 1) else none)
    else if lowers && !(m.scale (k - 1)).lt (f32 x.amax) then some (k - 1)
    else none

/-- Put CAST_K, clamped to -127 and +127; a clamp is flagged and recorded (R119). -/
def State.putExp (s : State) (e : Nat) (k : Int) : State :=
  let c := max (-127) (min 127 k)
  let s := if c = k then s
    else (s.raise F.FMT_ERR_K_CLAMP).event 0x0304 srcHub e (k.emod (2 ^ 32)).toNat (s.rf (F.FMT_ENT_STATE_CAST e)) 0
  s.wf (F.FMT_ENT_STATE_CAST_K e) (c.emod 256).toNat

/-- CAST and CAST_K come into use. -/
def State.useCast (s : State) (e : Nat) : State :=
  (s.wf (F.FMT_ENT_STATE_USE e) (s.rf (F.FMT_ENT_STATE_CAST e))).wf (F.FMT_ENT_STATE_USE_K e) (s.rf (F.FMT_ENT_STATE_CAST_K e))

/-- R116 for one entry and its summary. In a skipped step whose CAST differs from USE, R118 says that USE stays and R116 copies CAST into it: the model copies, as
the pseudocode does (DESIGN CHOICE). The count is of the entries whose exponent a skipped step has raised. -/
def State.decideFmt (skipped lowers : Bool) (a : State × Nat) (p : Nat × FmtSum) : State × Nat :=
  let (e, x) := p
  let s := a.1
  let feed := s.fmtFeed e
  let s := if feed then s else s.useCast e
  let (s, changed) :=
    if 0 < s.rf (F.FMT_ENT_MISC_SETTLE e) then (s.wf (F.FMT_ENT_MISC_SETTLE e) (s.rf (F.FMT_ENT_MISC_SETTLE e) - 1), false)
    else
      let t := s.thr e
      s.moveFmt e t x (fmtMove t (s.rf (F.FMT_ENT_CFG_BASE e)) (s.rf (F.FMT_ENT_CFG_CEIL e)) (s.rf (F.FMT_ENT_STATE_CAST e))
        (s.rf (F.FMT_ENT_CLEAN_CLEAN e)) (s.rf (F.FMT_ENT_CLEAN_FLAPS e)) x)
  let s := if 0 < x.samples ∨ x.amax ≠ 0 then s.pushHistory e x.amax else s
  let before := s.rf (F.FMT_ENT_STATE_CAST_K e)
  let s := match s.castExp e x changed skipped lowers with | some k => s.putExp e k | none => s
  let raised := skipped && !changed && !s.flag F.FMT_POLICY_HIST && s.rf (F.FMT_ENT_STATE_CAST_K e) != before
  let s := if changed && !feed then s.wf (F.FMT_ENT_MISC_SETTLE e) 1 else s
  (if feed then s.useCast e else s, a.2 + b2n raised)

/-- Item 8 of R23. With no statistics close in the step no entry has a summary, and nothing is decided (R114, R246: DEDUCED). -/
def State.fmtItem8 (s : State) : State :=
  let skipped := s.skipped
  let s := s.zero [F.FMT_LAST_PROMOTED, F.FMT_LAST_DEMOTED]
  let decides := !s.evaluates && s.flag F.FMT_VERDICT_CLOSED
  let run := satAdd 32 (s.rf F.FMT_CLEAN_RUN_RUN) 1
  let every := s.rf F.FMT_POLICY_CLEAN_INTERVAL
  let lowers := !skipped && decide (every ≠ 0) && decide (every ≤ run)
  let (s, raised) := if decides then (s.fmt.sums.filter (fun p => decide (p.1 < 4096))).foldl (State.decideFmt skipped lowers) (s, 0) else (s, 0)
  let s := if decides && !s.flag F.FMT_POLICY_HIST then s.wf F.FMT_CLEAN_RUN_RUN (if skipped || lowers then 0 else run) else s
  if skipped then
    (s.bump F.FMT_SKIPS_SKIPS 1).event 0x0303 srcHub (s.rf F.CHAIN_STEP_STEP) (s.rf F.FMT_VERDICT_NF_SPAN) (s.rf F.FMT_VERDICT_SKIP) raised
  else s

end Sys2Proof.Machine
end

