-- ==== Sys2Proof/Machine/Boundary.lean ====
section
/-! DEFINITION. The step boundary, items 1 to 11 of R23, and the ABORTED path. -/

namespace Sys2Proof.Machine

/-! ### Items 1 to 3 -/

/-- BOUNDARY_BEGIN (R23 item 1, R281). -/
def execBoundaryBegin (s : State) : Res := .next s.beginBoundary

/-- Item 2 (R204): every valid queue is empty and none is flushing. -/
def State.queuesDrained (s : State) : Bool := s.casket.queues.all (fun q => q.2.count == 0 && !q.2.flushing)

/-- A link with no unit that item 3 waits for: none ready or being sent, none half arrived, none arrived and not yet landed or dropped (R23, R24, R27). -/
def State.linkIdle (s : State) (x : LinkX) : Bool :=
  x.ready.all (fun u => !u.2.counts) && x.sending.all (fun e => e.2.all (fun u => !u.counts)) &&
    x.partialRx.all (fun e => e.2.isEmpty || !s.counts e.1 e.2) && x.handedOn.all (fun e => !s.counts e.1 e.2)

/-- The landing copies and the Beads that wait for stripes, restore traffic apart (R24). -/
def ChainX.idle (c : ChainX) : Bool :=
  c.landings.all (fun l => l.checked || bdKind l.head == 4) && c.deferred.all (fun d => bdKind d.data == 4) && c.waiting.isEmpty && c.fetching.isEmpty

/-- A core with nothing in flight. -/
def CoreX.idle (c : CoreX) : Bool := c.runs.isEmpty && c.transfers.isEmpty && c.heldAccess.isEmpty

/-- Items 2 and 3 (R23, R27, R225, R239, R462): tasks, queues, engines, links, tag checks, signals, host accesses of before item 1, the cast, a migration. -/
def State.drained (s : State) : Bool :=
  s.front.tasks.isEmpty && s.front.undispatched.isEmpty && s.queuesDrained && s.front.verifying.isEmpty && s.pcie.waiting.isEmpty && s.pcie.held.all (fun h => !h.early) &&
    s.migration.isNone && s.cores.all (fun c => c.2.idle) && s.links.all (fun l => s.linkIdle l.2) && s.chain.idle && s.clasp.flying.isEmpty && s.pipe.outbox.isEmpty && s.charm.held.isEmpty &&
    !(decide (2 ≤ s.rf F.GRAD_STATUS_PHASE) && decide (s.rf F.GRAD_STATUS_PHASE ≤ 4))

/-! ### Items 4 to 7 -/

/-- Tasks enqueued and not dispatched are discarded (R290), and a launch that had no other left completes. -/
def State.discardEnqueued (s : State) : State :=
  (s.front.enqueued.map (·.1)).eraseDups.foldl State.launchCheck s.dropEnqueued

/-- Held signals that are still in a hold list are dropped (R310). -/
def State.dropHolds (s : State) : State :=
  s.cores.foldl (fun (s : State) c =>
    let n := c.1
    let s := c.2.holds.foldl (fun (s : State) h =>
      ((s.raise F.CLASP_ERR_HOLD_DROP).bump (F.CLASP_CNT_COUNT 6) 1).event 0x0C02 (srcCore n) (s.logicalOf n) h.handle h.gen
        (s.rf (F.HANDLE_D_GEN n h.handle))) s
    if c.2.holds.isEmpty then s else (s.setCore n { s.core n with holds := [] }).wf (F.CLASP_CORE_HOLDS_COUNT n) 0) s

/-- Every grant of the allocator and every waiting request goes, and NOPROG with them (R194). -/
def State.freeDynamic (s : State) : State :=
  let s : State := { s with casket := { s.casket with grants := [], waiting := [], coded := [] } }
  ((List.range 32).foldl (fun (s : State) i => s.zero [F.CASKET_USE_STRIPES i, F.CASKET_STAT_NOPROG i, F.CASKET_STAT_WAITING i]) s).showShared

/-- Item 4 (R194, R69, R290, R310, R274): dynamic Casket space and all that lies in it. With it goes every container that REFS counts. Restore Beads that have landed keep
their entries, since restore traffic goes on across the boundary (R24): DEDUCED; what then comes to lie in their stripes their tag checks tell. -/
def State.item4 (s : State) : State :=
  let s := s.discardEnqueued.dropHolds
  let (s, lost) := s.freeSlots
  let s : State := { s with front := { s.front with lostMb := lost }, chain := { s.chain with landings := s.chain.landings.filter (fun l => bdKind l.head == 4) }, pipe := { s.pipe with outbox := [] } }
  (s.freeDynamic).zero [F.CODEC_REFS_COUNT 0, F.CODEC_REFS_COUNT 1]

/-- The registers at a range of offsets that are not at reset. -/
def State.listed (s : State) (a b : Nat) : List Nat := (s.regs.map (·.1)).filter (fun x => decide (a ≤ x) && decide (x < b))

/-- Item 5 (R304): the Clasps of step scope and their flags. -/
def State.item5 (s : State) : State :=
  let v := (F.CLASP_VALUE_VALUE 0).off
  let g := (F.CLASP_FLAG_OVF 0).off
  let nums := ((s.listed v (v + 4 * 65536)).map (fun x => (x - v) / 4)) ++ ((s.listed g (g + 4 * 65536)).map (fun x => (x - g) / 4))
  nums.foldl (fun (s : State) n =>
    if s.flag (F.CLASP_FLAG_RESIDENT n) then s
    else s.zero [F.CLASP_VALUE_VALUE n, F.CLASP_FLAG_OVF n, F.CLASP_FLAG_UNF n, F.CLASP_FLAG_MIS n]) s

/-- Item 6 (R285, R273): versions and tables that nothing refers to. -/
def State.item6 (s : State) : State :=
  let s := s.front.graphs.foldl (fun (s : State) e =>
    let x := s.graph e.1
    let gone := (x.versions.filter (fun v => v.refs == 0)).length
    if gone = 0 then s
    else (s.setGraph e.1 { x with versions := x.versions.filter (fun v => v.refs != 0) }).bump (F.FRONT_CNT_COUNT 7) gone) s
  s.codecRetire

/-- Item 7 (R165, R461): GEN and ARR of every handle entry, and the stubs. -/
def State.item7 (s : State) : State :=
  let isGen := fun (x : Nat) => (slotOf x).isSome && decide (0x200 ≤ x % 0x8000) && decide (x % 0x8000 < 0xA00) &&
    (x % 0x20 == 0x0C || x % 0x20 == 0x18)
  let s : State := { s with regs := s.regs.filter (fun e => !isGen e.1) }
  s.cores.foldl (fun (s : State) c =>
    if c.2.forwardTo.isSome then
      (s.setCore c.1 { s.core c.1 with forwardTo := none, heldAccess := [] }).zero ((List.range 64).map (F.HANDLE_A_STUB c.1))
    else s) s

/-! ### Item 10 (R464) -/

/-- The last completed step, as item 10 knows it: the step that ends. -/
def State.lastStep (s : State) : Nat := s.rf F.CHAIN_STEP_STEP

/-- Cameo commits: this module's own, and as a proxy the images it keeps in place (R239, R243). -/
def State.item10Cameo (s : State) : State :=
  let s := s.cameoClose
  if s.flag F.CHAIN_PROXY_ACTIVE && s.flag F.CHAIN_PROXY_CAMEO_CURRENT then
    (s.wf F.HEALTH_HELD_STEP_STEP s.lastStep).wf F.CHAIN_PROXY_STEP_CAMEO_STEP s.lastStep
  else s

/-- Folds that FOLD_FORCE requests (R57). -/
def State.item10Folds (s : State) : State :=
  (List.range 2).foldl (fun (s : State) p =>
    let q := s.faces p
    if s.flag (F.CHAIN_CTRL_FOLD_FORCE p) && s.arcPositions.contains q && q != s.pos && !s.chain.out.contains q && !s.flag (F.CHAIN_STATUS_END p) then
      (s.lose [q] s.lastStep).sendFold p
    else s) s

/-- Planned removals from the pipeline (R463): the port goes down, and COLUMN_OUT is set without NBR_LOST. -/
def State.item10Planned (s : State) : State :=
  let l := [2, 3].filter (fun p => s.pipe.planned.contains p)
  l.foldl (fun (s : State) p => ((s.lkStop p).columnOut true).event 0x1307 srcLocket p s.lastStep 0 0)
    { s with pipe := { s.pipe with planned := [] } }

/-- The arc takes a joined position back (the join table, R41, R60): not where its versions exclude it, nor over a port that is down or held a fold end. -/
def State.takeJoin (s : State) (j : Nat × Nat × Nat) : State :=
  let (q, lo, hi) := j
  let v := min (s.rf F.CHAIN_BEAD_VER_ACTIVE) hi
  let shut := (List.range 2).any (fun p => s.faces p == q && (s.lk p != lkUp || s.flag (F.CHAIN_CTRL_FOLD_FORCE p)))
  if q = s.pos ∨ !s.chain.out.contains q ∨ v < lo ∨ shut then s
  else if v < s.beadLow then s.versionOut
  else
    let s := (s.setChain { s.chain with out := s.chain.out.filter (fun x => x != q) }).wf F.CHAIN_BEAD_VER_ACTIVE v
    let s := if s.flag F.CHAIN_PROXY_ACTIVE ∧ s.rf F.CHAIN_PROXY_FOR_POS = q then
        s.zero [F.CHAIN_PROXY_ACTIVE, F.CHAIN_PROXY_CAMEO_CURRENT]
      else s
    s.showArc

/-- A fold end whose FOLD_FORCE is clear unfolds once its link is up (R60): where the neighbour that the port expects is there and says that it is a member: DEDUCED. -/
def State.item10Unfolds (s : State) : State :=
  (List.range 2).foldl (fun (s : State) p =>
    let q := s.faces p
    let v := s.rf F.CHAIN_BEAD_VER_ACTIVE
    if !s.flag (F.CHAIN_CTRL_FOLD_FORCE p) && s.chain.out.contains q && s.lk p == lkUp && s.rf (F.LINK_NBR_STATE p) == memMember && s.flag (F.CHAIN_STATUS_NBR_VALID p) &&
        s.rf (F.CHAIN_STATUS_NBR_POS p) == q && s.rf (F.CHAIN_STATUS_NBR_STAGE p) == s.rf F.SETUP_IDENT_STAGE then s.takeJoin (q, v, v)
    else s) s

/-- This module's own join (the join table, R58, R59, R244): one that waits without a key is recorded; a restore that is whole makes the replacement a member at
the arc's step, and a state record that fails its CRC sends it back to wait. -/
def State.joinSelf (s : State) : State :=
  let st := s.rf F.CHAIN_MEMBER_STATE
  if st = memJoinWait then (if s.keyed then s else s.event 0x010F srcHub s.pos 0 0 0)
  else if st = memRestoring ∧ s.restoreWhole then
    let step := s.health.cameo.step
    let (t, ok) := s.joinDiffs.applyRestore false
    if ok then ((t.wf F.CHAIN_STEP_STEP step).setMember memMember).showArc
    else (s.applyRestore false).1.setMember memJoinWait
  else s

/-- The proxy starts the restore of a replacement that waits (R59). -/
def State.startRestore (s : State) (joinable : List Nat) : State :=
  if s.flag F.CHAIN_PROXY_ACTIVE && s.flag F.HEALTH_CAMEO_STATUS_HELD_VALID && joinable.contains (s.rf F.CHAIN_PROXY_FOR_POS) then
    s.sendRestore (s.rf F.CHAIN_PROXY_FOR_POS)
  else s

/-- Whether the enabled pipeline ports are up at a version (R80). -/
def State.columnUp (s : State) : Bool := [2, 3].all (fun p => !s.flag (pipeEn p) || s.lk p == lkUp)

/-- A rollback (R244, R245): the holder starts to send, once, and again where its neighbour waits for a restore anew; a restore that is whole is applied, and the step
number is the record's. -/
def State.rollback (s : State) (joinable : List Nat) : State :=
  if !s.flag F.HEALTH_CTRL_ROLLBACK then s
  else
    let s := match s.cameoSender with
      | some q =>
        if (s.health.cameo.rolled ∧ !joinable.contains q) ∨ !s.flag F.HEALTH_CAMEO_STATUS_HELD_VALID then s
        else
          let s := s.sendRestore q
          s.setCameo { s.health.cameo with rolled := true }
      | none => s
    if s.restoreWhole then
      let step := leAt (s.health.cameo.state.getD []) 4 4
      let (s, ok) := s.applyRestore true
      if ok then
        let s := (s.wf F.CHAIN_STEP_STEP step).wf F.HEALTH_CTRL_ROLLBACK 0
        (s.setCameo { s.health.cameo with rolled := false }).event 0x0806 srcHub step 0 0 0
      else s
    else s

/-- Item 10: Cameo commits, folds, planned removals, joins, in the order of R464. The positions that wait for a restore are given. -/
def State.item10 (s : State) (joined : List (Nat × Nat × Nat)) (joinable : List Nat) (column : Bool) : State :=
  let s := s.item10Cameo.item10Folds.item10Planned
  let was := s.rf F.CHAIN_MEMBER_STATE
  let s := (joined.foldl State.takeJoin s).item10Unfolds.joinSelf
  let own := was == memRestoring && s.rf F.CHAIN_MEMBER_STATE != memRestoring && s.rf F.CHAIN_MEMBER_STATE != memJoinWait
  let s := if (own || column) && s.columnUp then s.columnOut false else s
  (s.startRestore joinable).rollback joinable

/-- Carry entries are discarded where an amendment has made the late policy DROP (R217). -/
def State.dropCarries (s : State) (was : Bool) : State :=
  if s.flag F.GRAD_CFG_LATE_POLICY && !was then
    s.carries.foldl (fun (s : State) k => s.store (s.carryAt k) (natLe 0 4)) s
  else s

/-- BOUNDARY_DRAINED (R23): items 4 to 7, then 8 to 10. -/
def execBoundaryDrained (joined : List (Nat × Nat × Nat)) (joinable : List Nat) (column : Bool) (s : State) : Res :=
  .next (if s.rf F.FRONT_STATUS_STEP ≠ stepDrain ∨ !s.drained then s
    else
      let s := (s.item4.item5.item6.item7).wf F.FRONT_STATUS_STEP stepApply
      let s := s.fmtItem8
      let was := s.flag F.GRAD_CFG_LATE_POLICY
      (s.amendItem9.dropCarries was).item10 joined joinable column)

/-! ### Item 11 -/

/-- Show an exact sum in a pair of registers as FP64 (R229, R232). -/
def State.showSum (s : State) (lo hi : Fld) (a : SqAcc) : State := s.wpair lo hi a.f64

/-- The accumulators of a step begin anew. Whether it has written any part of an image counts on in its next attempt (R239). -/
def State.zeroHealth (s : State) : State :=
  { s with health := { State.reset.health with cameo := { s.health.cameo with sent := [], kept := [] } } }

/-- The health registers describe the step that ends, and the accumulators begin anew (R232, R234, R246). -/
def State.snapshot (s : State) : State :=
  let h := s.health
  let eval := s.evaluates
  let acc := fun (l : List (Nat × SqAcc)) (k : Nat) => SMap.get (fun _ => (⟨0, 0⟩ : SqAcc)) l k
  let s := (List.range 64).foldl (fun (s : State) i =>
    (s.showSum (F.HEALTH_ASLOT_SUM_LO_SUM i) (F.HEALTH_ASLOT_SUM_HI_SUM i) (acc h.acts i)).wf (F.HEALTH_ASLOT_NF_COUNT i)
      (min (acc h.acts i).nf (2 ^ 32 - 1))) s
  let s := (List.range 256).foldl (fun (s : State) r =>
    let row := fun (s : State) (i which : Nat) => s.showSum (F.HEALTH_LNORM_SUM_SUM i r) (F.HEALTH_LNORM_SUM_SUM (i + 1) r) (acc h.rows (4 * r + which))
    row (row (row s 0 0) 2 2) 4 1) s
  let s := (List.range 8).foldl (fun (s : State) c => s.wf (F.HEALTH_NF_COUNT c) (min (SMap.get (fun _ => 0) h.classes c) (2 ^ 32 - 1))) s
  let s := match h.pending with
    | some (e, n, x) => ((s.wf F.HEALTH_EWMA_VALUE e.toNat).wf F.HEALTH_EWMA_N_N n.toNat).wf F.HEALTH_LOSS_VALUE x.toNat
    | none => s
  let s := if eval ∧ h.eval.any ∧ 0 < h.eval.tokens then
      s.wf F.HEALTH_EVAL_LOSS_VALUE (toF32 ((Num.ofInt h.eval.loss (-149)).div (Num.ofInt h.eval.tokens (-149)))).toNat
    else s
  let s := (s.wf F.HEALTH_SNAP_STEP_STEP (s.rf F.CHAIN_STEP_STEP)).wflag F.HEALTH_SNAP_FLAGS_EVAL eval
  let s := ((s.wflag F.HEALTH_SNAP_FLAGS_SKIPPED s.skipped).wflag F.HEALTH_SNAP_FLAGS_CAST h.cast).zeroHealth
  s.setCameo { s.health.cameo with wrote := false }

/-- PACE_STEP and the pace record of the next step (R341). The ticks below the configured pace are a free value: the model has no clock. -/
def State.paceStep (s : State) : State :=
  let now := s.rf F.POWER_PACE_NOW_P
  let s := if s.flag F.POWER_STATUS_PACE_MOVED then
      let (t, s) := s.freeWord 32
      s.event 0x0E01 srcLocket (s.rf F.CHAIN_STEP_STEP) s.power.lowest t.toNat 0
    else s
  { s.wflag F.POWER_STATUS_PACE_MOVED (now != s.rf F.POWER_PACE_TARGET) with
    power := { s.power with overSeen := false, warnSeen := false, lowest := now } }

/-- What one step keeps for itself alone: rounds, sequences seen, contributions, windows closed, barriers, counts of a core's upsets. Sequences of restore traffic
go on (R48, R244). -/
def State.newStep (s : State) : State :=
  let s := s.setChain { s.chain with round := 0, waiting := [], fetching := [], asked := [], late := [], kvNext := []
                                     seen := s.chain.seen.filter (fun e => e.key.head? == some 4) }
  let s := s.setGrad { State.reset.grad with lateAll := s.grad.lateAll, droppedAll := s.grad.droppedAll }
  let s := s.zero [F.GRAD_STATUS_PHASE, F.GRAD_UPD_DONE_COUNT, F.GRAD_PENDING_PIECES]
  let s : State := { s with fmt := { s.fmt with sums := [] }, pipe := { s.pipe with evalStep := none }, clasp := { s.clasp with spans := [] }
                            front := { s.front with rounds := none, lostMb := false } }
  s.cores.foldl (fun (s : State) c => s.setCore c.1 { s.core c.1 with ueStep := 0 }) s.ctxStepEnd

/-- Whether the arc holds the ended step's Cameo of the position this module stands in for (R56). -/
def State.showCurrent (s : State) : State :=
  if s.flag F.CHAIN_PROXY_ACTIVE then
    s.wflag F.CHAIN_PROXY_CAMEO_CURRENT (s.flag F.HEALTH_CAMEO_STATUS_HELD_VALID && s.rf F.HEALTH_HELD_STEP_STEP == s.lastStep)
  else s

/-- The armed STEP_END completes with a status (R295, R296), and nothing is armed. -/
def State.completeStepEnd (s : State) (status step : Nat) : State :=
  let lost := s.front.lostMb
  let s := match s.front.armed with
    | some (q, e) => s.complete { plainCompletion s q e status with flags := 2 * b2n lost, step := step }
    | none => s
  ({ s with front := { s.front with armed := none } } : State).wf F.FRONT_STATUS_ARMED 0

/-- The boundary record, its trace record and its lifetime count (R23, R327, R331, R448). -/
def State.boundaryRecord (s : State) : State :=
  let n := s.rf F.LOUPE_VAR_STEP_COUNT
  let s := (s.event 0x000B srcHub s.lastStep n 0 0).trace 0x09 0xFF 0 n 0 0
  let s := (s.wf F.LOUPE_VAR_LAST_COUNT n).wf F.LOUPE_VAR_LAST_STEP_STEP s.lastStep
  (s.wf F.LOUPE_VAR_STEP_COUNT 0).life (0x5340 + 4 * (if n = 0 then 0 else log2Floor n + 1)) 1

/-- BOUNDARY_APPLIED (R23 item 11). -/
def execBoundaryApplied (s : State) : Res :=
  .next (if s.rf F.FRONT_STATUS_STEP ≠ stepApply then s
    else
      let ended := s.lastStep
      let s := s.boundaryRecord.paceStep.snapshot.showCurrent
      let s := s.zero [F.FMT_VERDICT_NF_SPAN, F.FMT_VERDICT_SKIP, F.FMT_VERDICT_CLOSED, F.HEALTH_VERDICT_SPIKE, F.HEALTH_VERDICT_NF_LOCAL,
        F.HEALTH_VERDICT_HOLD, F.HEALTH_VERDICT_LOSS_VALID]
      let s := (s.wf F.PIPE_SLOT_USE_PEAK 0).completeStepEnd 0 ended
      let s := (s.newStep.wf F.CHAIN_STEP_STEP ((ended + 1) % 2 ^ 32)).freshAttempt
      let s := s.codecSwitch.locketItem11
      let s : State := { s.wf F.LOUPE_STATUS_ACTIVE (s.rf F.LOUPE_CTRL_MODE) with loupe := { s.loupe with merge := none } }
      (s.wf F.FRONT_STATUS_STEP stepRun).sendGates.applyFuture.retryHost)

/-! ### The ABORTED path -/

/-- BOUNDARY_STALL_ABORT (R24, R295): cause 6. -/
def execBoundaryStallAbort (s : State) : Res := .next (if s.rf F.FRONT_STATUS_STEP = stepDrain then s.raiseAbort 6 else s)

/-- Units of the step's traffic on a port that have not begun to be sent, and those arrived that nothing has taken, go with the step: their stripes are free, and the
credits of the latter return. -/
def State.dropUnits (s : State) (p : Nat) : State :=
  let gone := (s.link p).ready.filter (fun u => u.2.counts)
  let came := (s.link p).handedOn.filter (fun e => s.counts e.1 e.2)
  let s := (gone.filterMap (fun u => u.2.holds)).foldl State.freeHeld s
  came.foldl (fun (s : State) e => (s.takeUnit p e.1 e.2).returnCredits p e.1 e.2)
    (s.setLink p { s.link p with ready := (s.link p).ready.filter (fun u => !u.2.counts) })

/-- What an aborted step leaves behind goes (R28, R232, R217, R114): queues' words, units of its traffic, Beads that wait for stripes, signals on their way, the
windows, the accumulators. -/
def State.discardStep (s : State) : State :=
  let s := (s.casket.queues.filter (fun q => decide (q.1 < 2048))).foldl (fun (s : State) q =>
    ((s.setQueue q.1 QueueX.reset).wf (F.CASKET_QSTAT_FLUSHING q.1) 0).wf (F.CASKET_QSTAT_AT_END q.1) 1) s
  let s := ([0, 1, 2, 3].foldl State.dropUnits s).dropDeferred (fun d => bdKind d.data != 4)
  let l := s.clasp.flying
  let s := l.foldl (fun (s : State) g => s.applySignal g.clasp g.amount g.neg g.source) { s with clasp := { s.clasp with flying := [] } }
  let s := if s.grad.sent then s else s.restoreCarries
  (({ s with fmt := ⟨[], []⟩ } : State).zeroHealth).zero [F.FMT_VERDICT_NF_SPAN, F.FMT_VERDICT_CLOSED]

/-- ABORTED_RELEASE_DONE (R23, R24, R258, R295): items 4 to 7, the record of STEP_END, HALTED under the same step number. A migration in progress completes first
(R462). -/
def execAbortedReleaseDone (s : State) : Res :=
  .next (if s.rf F.FRONT_STATUS_STEP ≠ stepAborted ∨ s.migration.isSome then s
    else
      let s := s.discardStep.item4.item5.item6.item7
      let s := (s.bump F.CHARM_ATTEMPT_COUNT 1).completeStepEnd 0x0B s.lastStep
      (s.newStep.wf F.FRONT_STATUS_STEP stepHalted).retryHost)

end Sys2Proof.Machine
end

