-- ==== Sys2Proof/Machine/Vector.lean ====
section
/-! DEFINITION. The vector unit (R143 to R148, R150, R151). -/

namespace Sys2Proof.Machine

/-- Elements of a row of D. -/
def VecDesc.outLen (x : VecDesc) : Nat := if isReduction x.op then 1 else x.len

/-- IMM of a DROPOUT: 0 ≤ IMM < 1 (R148). -/
def dropoutImm (w : Word) : Bool :=
  match f32 w with
  | .zero _ => true
  | .fin s m e => !s && (Num.fin false m e).lt (.fin false 1 0)
  | _ => false

/-- The decode checks of R141 where they bear on a VECTOR descriptor, and those of R148. R144 says 'where they are relevant': the model takes the format and
exponent of an operand that the OP or its shape does not use for irrelevant, and reads no such field (DESIGN CHOICE). -/
def VecDesc.ok (x : VecDesc) : Bool :=
  (!usesX x.op || (fmtOk x.fx && x.kx != 128)) && (!usesY x.op || x.yShape == 3 || (fmtOk x.fy && x.ky != 128)) &&
    (!usesZ x.op || x.zShape == 3 || fmtOk x.fz) && (x.man || (fmtOk x.fd && x.kd != 128)) && convOk x.conv &&
    (x.op != 0x30 || dropoutImm x.imm)

/-! ### The operations (R145 to R148) -/

/-- The larger or the smaller of two numbers (R145). -/
def fMaxMin (big : Bool) (a b : Word) : Word :=
  match f32 a, f32 b with
  | .nan, _ => f32Nan
  | _, .nan => f32Nan
  | .zero s, .zero t => if big then BitVec.ofNat 32 (fpF32.signBit (s && t)) else BitVec.ofNat 32 (fpF32.signBit (s || t))
  | x, y => if big then (if x.lt y then b else a) else (if y.lt x then b else a)

/-- NaN results are canonical (R86). -/
def canonNan (w : Word) : Word := if f32 w = .nan then f32Nan else w

/-- One element of an element-wise OP. -/
def vecElem (op : Nat) (x y z : Word) : Word :=
  match op with
  | 0x00 => canonNan x
  | 0x01 => fAdd x y
  | 0x02 => fSub x y
  | 0x03 => fMul x y
  | 0x04 => fFma x y z
  | 0x05 => fMaxMin true x y
  | 0x06 => fMaxMin false x y
  | 0x07 => canonNan (fAbs x)
  | 0x08 => canonNan (fNeg x)
  | 0x09 => canonNan (if f32 x = .nan ∨ (f32 x).isZero then z else y)
  | 0x0A => if (f32 y).lt (f32 x) then f32One else f32Zero
  | 0x10 => toF32 ((Num.fin false 1 0).div (f32 x))
  | 0x11 => toF32 (f32 x).sqrt
  | 0x12 => toF32 (f32 x).rsqrt
  | 0x13 => toF32 (f32 x).exp2
  | 0x14 => toF32 (f32 x).lg
  | 0x15 => toF32 (f32 x).exp
  | 0x16 => toF32 (f32 x).ln
  | 0x17 => toF32 (f32 x).tanh
  | 0x18 => toF32 (f32 x).sigmoid
  | 0x19 => toF32 (f32 x).silu
  | 0x1A => toF32 (f32 x).gelu
  | 0x1B => toF32 (f32 x).sin
  | 0x1C => toF32 (f32 x).cos
  | _ => toF32 (f32 (fSub x y)).exp

/-- The sums of the groups of 128 of a row, accumulated in ascending order from +0 (R147). -/
def rowSum : Nat → List Word → Word → Word
  | 0, _, acc => acc
  | fuel + 1, l, acc => if l.isEmpty then acc else rowSum fuel (l.drop 128) (fAdd acc (treeOf 128 (l.take 128)))

/-- A row reduction (R147). -/
def vecReduce (op : Nat) (l : List Word) : Word :=
  match op with
  | 0x20 => rowSum (l.length + 1) l f32Zero
  | 0x21 => rowSum (l.length + 1) (l.map (fun w => fMul w w)) f32Zero
  | 0x22 => match l with | a :: r => r.foldl (fMaxMin true) (canonNan a) | [] => f32Zero
  | _ => match l with | a :: r => r.foldl (fMaxMin false) (canonNan a) | [] => f32Zero

/-- DROPOUT of one element by a Glint word (R148). -/
def dropoutElem (imm x w : Word) : Word :=
  let one := Num.fin false 1 0
  let u := match f32 imm with | .fin _ m e => shiftZ m (e + 24) | _ => 0
  if glintX w < u then f32Zero else fMul x (toF32 (one.div (one.add (f32 imm).neg)))

/-- UNIFORM of one element (R148). -/
def uniformElem (imm w : Word) : Word :=
  toF32 ((Num.ofInt (2 * ((glintX w : Nat) : Int) + 1 - 2 ^ 24) (-24)).mul (f32 imm))

/-! ### Execution -/

/-- An operand's elements in one row, widened to FP32 (R93, R144): FULL, COLUMN (row 0 for every row), ROW (element 0 of its row), IMM. -/
def State.vecOperand (s : State) (n h f kb : Nat) (shape rows row len : Nat) (imm : Word) : List Word :=
  let rl := s.rf (F.HANDLE_C_ROWLEN n h)
  let k := sbyte kb
  match shape with
  | 3 => List.replicate len imm
  | 2 => List.replicate len (toF32 (s.canon n h f (rows * rl) k (row * rl)))
  | 1 => (List.range len).map (fun j => toF32 (s.canon n h f rl k j))
  | _ => (List.range len).map (fun j => toF32 (s.canon n h f (rows * rl) k (row * rl + j)))

/-- Whether an operand's buffer holds what the descriptor reads of it. -/
def State.vecFits (s : State) (n h f shape rows len : Nat) : Bool :=
  let rl := s.rf (F.HANDLE_C_ROWLEN n h)
  let (r, l) := if shape = 0 then (rows, len) else if shape = 1 then (1, len) else (rows, 1)
  s.hValid n h && decide (l ≤ rl) &&
    decide ((if blockLen f = 0 then areaBytes f ((r - 1) * rl + l) else tensorBytes f (r * rl)) ≤ s.hBytes n h)

/-- Whether D's buffer holds the result. -/
def State.vecDestFits (s : State) (n : Nat) (x : VecDesc) (d : Dest) : Bool :=
  s.vecFits n x.hd d.f 0 x.rows x.outLen && (blockLen d.f == 0 || s.rf (F.HANDLE_C_ROWLEN n x.hd) % blockLen d.f == 0)

/-- The results of one row, as FP32 words. -/
def State.vecRow (s : State) (n : Nat) (x : VecDesc) (row : Nat) : List Word :=
  let xs := if usesX x.op then s.vecOperand n x.hx x.fx x.kx 0 x.rows row x.len x.imm else []
  let base := s.hCbase n x.hd + row * s.rf (F.HANDLE_C_ROWLEN n x.hd)
  if isReduction x.op then [vecReduce x.op xs]
  else if x.op = 0x30 then (xs.zip (List.range x.len)).map (fun p => dropoutElem x.imm p.1 (s.glintWord x.tensor (base + p.2) 3))
  else if x.op = 0x31 then (List.range x.len).map (fun j => uniformElem x.imm (s.glintWord x.tensor (base + j) 4))
  else
    let ys := if usesY x.op then s.vecOperand n x.hy x.fy x.ky x.yShape x.rows row x.len x.imm else xs
    let zs := if usesZ x.op then s.vecOperand n x.hz x.fz 0 x.zShape x.rows row x.len x.imm else xs
    (xs.zip (ys.zip zs)).map (fun p => vecElem x.op p.1 p.2.1 p.2.2)

/-- The T2 bytes above 242 of the operands (R91): counted once each, when the descriptor is done. -/
def State.vecBadT2 (s : State) (n h f shape rows len : Nat) : Nat :=
  if f ≠ 0x0C ∨ shape = 3 then 0
  else
    let rl := s.rf (F.HANDLE_C_ROWLEN n h)
    let (r, l) := if shape = 0 then (rows, len) else if shape = 1 then (1, len) else (rows, 1)
    let get := s.hGet n h
    ((List.range r).flatMap (fun i => (List.range l).filterMap (fun j =>
      if t2Invalid get (i * rl + j) then some ((i * rl + j) / 5) else none))).eraseDups.length

/-- Whether a row reads a poisoned word (R153). -/
def State.vecPoison (s : State) (n : Nat) (x : VecDesc) (row : Nat) : Bool :=
  let one := fun (h f shape : Nat) =>
    let rl := s.rf (F.HANDLE_C_ROWLEN n h)
    let (i, l) := if shape = 1 then (0, x.len) else if shape = 2 then (row * rl, 1) else (row * rl, x.len)
    let bl := blockLen f
    let tot := (if shape = 1 then 1 else x.rows) * rl
    let w := if f = 0x0C then 2 else elemBits f
    let a := if f = 0x0C then i / 5 else i * w / 8
    let e := if f = 0x0C then ceilDiv (i + l) 5 else ceilDiv ((i + l) * w) 8
    shape != 3 && (s.poisonedAt (s.hAddr n h a) (e - a) ||
      (bl != 0 && s.poisonedAt (s.hAddr n h (scaleOff f tot + i / bl * recBytes f)) (((i + l - 1) / bl - i / bl + 1) * recBytes f)))
  (usesX x.op && one x.hx x.fx 0) || (usesY x.op && one x.hy x.fy x.yShape) || (usesZ x.op && one x.hz x.fz x.zShape)

/-- Run the rows from a row on, until one faults or the boundary of R150 after one stops the descriptor. -/
def State.runRows (n m : Nat) (x : VecDesc) (d : Dest) (u : Upset) : Nat → Nat → State → State × RunEnd
  | 0, _, s => (s, .done)
  | k + 1, row, s =>
    if s.vecPoison n x row then (s.faultAt m 5 row, .failed)
    else if u = .torn row then
      let rl := s.rf (F.HANDLE_C_ROWLEN n x.hd)
      let w := elemBits d.f
      let (a, e) := if d.f = 0x0C then (row * rl / 5, ceilDiv (row * rl + x.outLen) 5)
        else (row * rl * w / 8, ceilDiv ((row * rl + x.outLen) * w) 8)
      (((s.tear n x.hd a (e - a)).tearRecords n x.hd d.f d.tot (row * rl) x.outLen).faultAt m 0xC row, .failed)
    else
      let (s, _) := s.writeRun n d (row * s.rf (F.HANDLE_C_ROWLEN n x.hd)) (s.vecRow n x row)
      if u = .boundary row ∧ 0 < k then (s.stopAt m (row + 1), .stopped) else State.runRows n m x d u k (row + 1) s

/-- The operand handles of a descriptor, with their formats and shapes. -/
def VecDesc.sources (x : VecDesc) : List (Nat × Nat × Nat) :=
  (if usesX x.op then [(x.hx, x.fx, 0)] else []) ++ (if usesY x.op && x.yShape != 3 then [(x.hy, x.fy, x.yShape)] else []) ++
    (if usesZ x.op && x.zShape != 3 then [(x.hz, x.fz, x.zShape)] else [])

/-- Where a descriptor's results go (R106, R144). -/
def State.vecDest (s : State) (n : Nat) (x : VecDesc) : Dest :=
  ⟨x.hd, if x.man then s.rf (F.FMT_ENT_STATE_CAST x.ent) else x.fd,
    if x.man then sbyte (s.rf (F.FMT_ENT_STATE_CAST_K x.ent)) else sbyte x.kd, if x.man then some x.ent else none,
    x.rows * s.rf (F.HANDLE_C_ROWLEN n x.hd), x.conv, x.tensor⟩

/-- The checks at issue and the wait of R124, then the rows. -/
def State.vecIssue (s : State) (m n : Nat) (x : VecDesc) (u : Upset) : State :=
  let rl := s.rf (F.HANDLE_C_ROWLEN n x.hd)
  let d := s.vecDest n x
  if !(fmtOk d.f && (blockLen d.f == 0 || x.outLen % blockLen d.f == 0)) then s.fault m 1
  else if s.hValid n x.hd ∧ indexMax < s.hCbase n x.hd + (x.rows - 1) * rl + x.outLen - 1 then s.fault m 0xD
  else if x.sources.any (fun h => s.hWritten n h.1) || s.hBusy n x.hd then s
  else if !x.sources.all (fun h => s.vecFits n h.1 h.2.1 h.2.2 x.rows x.len) || !s.vecDestFits n x d then s.fault m 4
  else
    let (s, ready) := s.touchHandles n (x.sources.map (fun h => (h.1, true)) ++ [(x.hd, false)])
    if ready then
      let s := s.meet u
      let bad := (x.sources.map (fun h => s.vecBadT2 n h.1 h.2.1 h.2.2 x.rows x.len)).sum
      match State.runRows n m x d u (x.rows - s.passOf m) (s.passOf m) s with
      | (s, .done) => ((x.sources.foldl (fun (s : State) h => s.consume n h.1 (areaBytes h.2.1 (x.rows * x.len))) s).invalidT2 none bad).nextDesc m
      | (s, _) => s
    else s

/-- A VECTOR descriptor of a given OP (R143 to R148). -/
def State.vecDo (s : State) (m : Nat) (d : BitVec 256) (u : Upset) (op : Nat) : State := s.issue m d fun s =>
  match s.physOf m with
  | none => s
  | some n =>
    let x := vecDesc d
    if !vecZero d || x.op != op || !x.ok then s.fault m 1
    else if x.man && !s.fmtEntryOk x.ent then s.badEntry m x.ent
    else s.vecIssue m n x u

/-- VECTOR COPY (R145). -/
def execVecCopy (m : Nat) (d : BitVec 256) (u : Upset) (s : State) : Res := .next (s.vecDo m d u 0)

/-- VECTOR ADD (R145). -/
def execVecAdd (m : Nat) (d : BitVec 256) (u : Upset) (s : State) : Res := .next (s.vecDo m d u 1)

/-- VECTOR SUB (R145). -/
def execVecSub (m : Nat) (d : BitVec 256) (u : Upset) (s : State) : Res := .next (s.vecDo m d u 2)

/-- VECTOR MUL (R145). -/
def execVecMul (m : Nat) (d : BitVec 256) (u : Upset) (s : State) : Res := .next (s.vecDo m d u 3)

/-- VECTOR FMA (R145). -/
def execVecFma (m : Nat) (d : BitVec 256) (u : Upset) (s : State) : Res := .next (s.vecDo m d u 4)

/-- VECTOR MAX (R145). -/
def execVecMax (m : Nat) (d : BitVec 256) (u : Upset) (s : State) : Res := .next (s.vecDo m d u 5)

/-- VECTOR MIN (R145). -/
def execVecMin (m : Nat) (d : BitVec 256) (u : Upset) (s : State) : Res := .next (s.vecDo m d u 6)

/-- VECTOR ABS (R145). -/
def execVecAbs (m : Nat) (d : BitVec 256) (u : Upset) (s : State) : Res := .next (s.vecDo m d u 7)

/-- VECTOR NEG (R145). -/
def execVecNeg (m : Nat) (d : BitVec 256) (u : Upset) (s : State) : Res := .next (s.vecDo m d u 8)

/-- VECTOR SELECT (R145). -/
def execVecSelect (m : Nat) (d : BitVec 256) (u : Upset) (s : State) : Res := .next (s.vecDo m d u 9)

/-- VECTOR CMPGT (R145). -/
def execVecCmpgt (m : Nat) (d : BitVec 256) (u : Upset) (s : State) : Res := .next (s.vecDo m d u 0xA)

/-- VECTOR RCP (R145). -/
def execVecRcp (m : Nat) (d : BitVec 256) (u : Upset) (s : State) : Res := .next (s.vecDo m d u 0x10)

/-- VECTOR SQRT (R145). -/
def execVecSqrt (m : Nat) (d : BitVec 256) (u : Upset) (s : State) : Res := .next (s.vecDo m d u 0x11)

/-- VECTOR RSQRT (R145). -/
def execVecRsqrt (m : Nat) (d : BitVec 256) (u : Upset) (s : State) : Res := .next (s.vecDo m d u 0x12)

/-- VECTOR EXP2 (R145). -/
def execVecExp2 (m : Nat) (d : BitVec 256) (u : Upset) (s : State) : Res := .next (s.vecDo m d u 0x13)

/-- VECTOR LOG2 (R145). -/
def execVecLog2 (m : Nat) (d : BitVec 256) (u : Upset) (s : State) : Res := .next (s.vecDo m d u 0x14)

/-- VECTOR EXP (R145). -/
def execVecExp (m : Nat) (d : BitVec 256) (u : Upset) (s : State) : Res := .next (s.vecDo m d u 0x15)

/-- VECTOR LN (R145). -/
def execVecLn (m : Nat) (d : BitVec 256) (u : Upset) (s : State) : Res := .next (s.vecDo m d u 0x16)

/-- VECTOR TANH (R145). -/
def execVecTanh (m : Nat) (d : BitVec 256) (u : Upset) (s : State) : Res := .next (s.vecDo m d u 0x17)

/-- VECTOR SIGMOID (R145). -/
def execVecSigmoid (m : Nat) (d : BitVec 256) (u : Upset) (s : State) : Res := .next (s.vecDo m d u 0x18)

/-- VECTOR SILU (R145). -/
def execVecSilu (m : Nat) (d : BitVec 256) (u : Upset) (s : State) : Res := .next (s.vecDo m d u 0x19)

/-- VECTOR GELU (R145). -/
def execVecGelu (m : Nat) (d : BitVec 256) (u : Upset) (s : State) : Res := .next (s.vecDo m d u 0x1A)

/-- VECTOR SIN (R145). -/
def execVecSin (m : Nat) (d : BitVec 256) (u : Upset) (s : State) : Res := .next (s.vecDo m d u 0x1B)

/-- VECTOR COS (R145). -/
def execVecCos (m : Nat) (d : BitVec 256) (u : Upset) (s : State) : Res := .next (s.vecDo m d u 0x1C)

/-- VECTOR EXPSUB (R145). -/
def execVecExpsub (m : Nat) (d : BitVec 256) (u : Upset) (s : State) : Res := .next (s.vecDo m d u 0x1D)

/-- VECTOR RSUM (R145). -/
def execVecRsum (m : Nat) (d : BitVec 256) (u : Upset) (s : State) : Res := .next (s.vecDo m d u 0x20)

/-- VECTOR RSUMSQ (R145). -/
def execVecRsumsq (m : Nat) (d : BitVec 256) (u : Upset) (s : State) : Res := .next (s.vecDo m d u 0x21)

/-- VECTOR RMAX (R145). -/
def execVecRmax (m : Nat) (d : BitVec 256) (u : Upset) (s : State) : Res := .next (s.vecDo m d u 0x22)

/-- VECTOR RMIN (R145). -/
def execVecRmin (m : Nat) (d : BitVec 256) (u : Upset) (s : State) : Res := .next (s.vecDo m d u 0x23)

/-- VECTOR DROPOUT (R148). -/
def execDropout (m : Nat) (d : BitVec 256) (u : Upset) (s : State) : Res := .next (s.vecDo m d u 0x30)

/-- VECTOR UNIFORM (R148). -/
def execUniform (m : Nat) (d : BitVec 256) (u : Upset) (s : State) : Res := .next (s.vecDo m d u 0x31)

end Sys2Proof.Machine
end

