-- ==== Sys2Proof/Machine/Cast.lean ====
section
/-! DEFINITION. The cast engine's CONVERT and the transposer (R196, R197, R226). -/

namespace Sys2Proof.Machine

/-- Whether n bytes from an address lie in LPDDR5X, or in dynamic Casket space (R226). -/
def State.inLpddr (_ : State) (a n : Nat) : Bool := decide (a + n ≤ 0x020000000000)
def State.inDynamic (s : State) (a n : Nat) : Bool :=
  decide (0x020000000000 + s.dynamicBase * 512 ≤ a) && decide (a + n ≤ 0x020100000000)
def State.castReach (s : State) (a n : Nat) : Bool := s.inLpddr a n || s.inDynamic a n

/-- The staging stripes of the cast engine and the transposer (R13, R188): at most a slot of stream 13 for so many bytes; none while they are not to be had. -/
def State.castStage (s : State) (m bytes : Nat) : Option State × State :=
  let o : Owner := ⟨.cast, 1 + m⟩
  match s.request 13 (max 1 (min (ceilDiv bytes 512) (s.rf (F.CASKET_SLOT_STRIPES 13)))) o with
  | (.granted _, s) => (some (s.freeOwner o), s)
  | (_, s) => (none, s)

/-! ### CONVERT (R226) -/

/-- CONVERT's fields; an exponent of −128 faults where the descriptor's own is used (R92). -/
def convertDecode (d : BitVec 256) : Bool :=
  let rand := bit (descField d 6 1) 1
  descHeader d 4 && descField d 1 1 == 0 && (rand || fmtOk (descField d 2 1)) && (bit (descField d 6 1) 0 || fmtOk (descField d 3 1)) &&
    (rand || descField d 4 1 != 128) && (bit (descField d 6 1) 0 || descField d 5 1 != 128) && decide (descField d 6 1 < 4) && descField d 7 1 == 0 && convOk (descField d 8 2) && decide (descField d 0xA 2 < 4096) &&
    (!rand || descField d 0x10 2 == 0)

/-- The format and exponent a CONVERT writes in: a managed destination's are its entry's (R106). -/
def State.convertDst (s : State) (d : BitVec 256) : Nat × Int :=
  if bit (descField d 6 1) 0 then
    let e := descField d 0xA 2
    (s.rf (F.FMT_ENT_STATE_CAST e), sbyte (s.rf (F.FMT_ENT_STATE_CAST_K e)))
  else (descField d 3 1, sbyte (descField d 5 1))

/-- The numbers a CONVERT takes (R226): its source elements, or draws as UNIFORM makes them; before they are widened. -/
def State.convertNums (s : State) (d : BitVec 256) : List Num :=
  let n := descField d 0x18 4
  if bit (descField d 6 1) 1 then
    (List.range n).map (fun i => f32 (uniformElem (BitVec.ofNat 32 (descField d 0xC 4)) (s.glintWord (descField d 0x1C 4) i 4)))
  else (List.range n).map (tensorValue (fun o => s.rb (descField d 0xC 6 + o)) (descField d 2 1) n (sbyte (descField d 4 1)))

/-- The bytes a CONVERT writes, and what its conversions count (R94, R226): each element is widened to FP32 first (R93), so that one beyond that range
converts as an infinity. -/
def State.convertData (s : State) (d : BitVec 256) : List Byte × Tally :=
  let (f, k) := s.convertDst d
  let conv := descField d 8 2
  let xs := s.convertNums d
  let (data, t) := convertTensor f (convSat conv) (s.rndAt conv (descField d 0x1C 4))
    (xs.map (fun x => let y := (widen x).scale (-k); if blockLen f ≠ 0 ∧ k ≠ 0 then widen y else y))
  (data, t.add (widenTally xs))

/-- CONVERT (R226): converts ELEMENTS elements, or draws them as UNIFORM does. -/
def execConvert (m : Nat) (d : BitVec 256) (u : Upset) (s : State) : Res :=
  let rand := bit (descField d 6 1) 1
  let managed := bit (descField d 6 1) 0
  let e := descField d 0xA 2
  let n := descField d 0x18 4
  let src := descField d 0xC 6
  let dst := descField d 0x12 6
  let srcLen := tensorBytes (descField d 2 1) n
  .next (s.issue m d fun s => if !convertDecode d then s.fault m 1
    else if managed && !s.fmtEntryOk e then s.badEntry m e
    else
      let out := tensorBytes (s.convertDst d).1 n
      if !s.castReach dst out || (!rand && !s.castReach src srcLen) then s.fault m 4
      else
        let s := s.meet u
        if !rand && s.poisonedAt src srcLen then s.fault m 5
        else match s.castStage m out with
          | (none, s) => s
          | (some s, _) =>
            let bad := if !rand && descField d 2 1 == 0xC then
                ((List.range (areaBytes 0xC n)).filter (fun o => decide (242 < (s.rb (src + o)).toNat))).length else 0
            let xs := s.convertNums d
            let (data, t) := s.convertData d
            let s := (s.store dst data).invalidT2 none bad
            let s := if managed then s.countConv e t xs else s
            (s.nanScale t (if managed then e else 0)).nextDesc m)

/-! ### TRANSPOSE (R196, R197) -/

/-- Bytes of a row of c elements of a size code. -/
def rowBytes (esize c : Nat) : Nat := if esize = 0 then c / 2 else c * 2 ^ (esize - 1)

/-- Bytes that rows of a pitch reach over. -/
def rowsExtent (rows pitch row : Nat) : Nat := (rows - 1) * pitch + row

/-- Element c of a row as bytes; a 4-bit one is the low or the high half of its byte. -/
def State.transElem (s : State) (esize a c : Nat) : Nat :=
  if esize = 0 then bits (s.rle (a + c / 2) 1) (4 * (c % 2)) 4 else s.rle (a + c * 2 ^ (esize - 1)) (2 ^ (esize - 1))

/-- A row of elements as bytes. -/
def packRow (esize : Nat) (l : List Nat) : List Byte :=
  if esize = 0 then packCodes 4 l else l.flatMap (fun x => natLe x (2 ^ (esize - 1)))

/-- TRANSPOSE (R196, R197, R226). R226 gives an address outside LPDDR5X and dynamic space the cause HANDLE, R197 one outside dynamic space the cause DECODE: the first
holds where neither space has the address, the second where LPDDR5X has it: DEDUCED. A poisoned source leaves free bytes over the destination's rows. -/
def execTranspose (m : Nat) (d : BitVec 256) (u : Upset) (s : State) : Res :=
  let es := descField d 2 1
  let rows := descField d 4 2 + 1
  let cols := descField d 6 2 + 1
  let sp := descField d 8 3
  let dp := descField d 0x18 3
  let src := descField d 0xC 6
  let dst := descField d 0x12 6
  let sLen := rowsExtent rows sp (rowBytes es cols)
  let dLen := rowsExtent cols dp (rowBytes es rows)
  .next (s.issue m d fun s => if !(descHeader d 4 && descField d 1 1 == 1 && decide (es < 4) && descField d 3 1 == 0 && descField d 0xB 1 == 0 && descZero d 0x1B 32) then s.fault m 1
    else if !s.castReach src sLen || !s.castReach dst dLen then s.fault m 4
    else if rangesMeet src sLen dst dLen || !s.inDynamic src sLen || !s.inDynamic dst dLen || (es == 0 && (rows % 2 == 1 || cols % 2 == 1)) then s.fault m 1
    else
      let s := s.meet u
      let srcRows := (List.range rows).map (fun r => src + r * sp)
      if srcRows.any (fun a => s.poisonedAt a (rowBytes es cols)) then
        let s := (List.range cols).foldl (fun (s : State) c =>
          let (l, s) := s.freeBytes (rowBytes es rows)
          s.wbs (dst + c * dp) l) s
        s.fault m 5
      else match s.castStage m (64 * 64 * 4) with
        | (none, s) => s
        | (some s, _) =>
          let out := (List.range cols).map (fun c => (dst + c * dp, packRow es (srcRows.map (fun a => s.transElem es a c))))
          (out.foldl (fun (s : State) p => s.store p.1 p.2) s).nextDesc m)

end Sys2Proof.Machine
end

