-- ==== Sys2Proof/Machine/CntClr.lean ====
section
/-! DEFINITION. The counter-clear commands: a write of 1 to a CNT_CLR bit zeroes the counters its own table names. -/

namespace Sys2Proof.Machine

/-- CHAIN_CNT_CLR (R60): CHAIN.CNT of the port. -/
def execChainCntClr (p : Nat) (s : State) : Res :=
  .next (s.zero ((List.range 16).map (fun i => F.CHAIN_CNT_COUNT p i)))

/-- PIPE_CNT_CLR (R81): both directions' counters, PARKS and RESUMES. -/
def execPipeCntClr (s : State) : Res :=
  .next (s.zero ((List.range 8).map F.PIPE_CNT_UP_COUNT ++ (List.range 8).map F.PIPE_CNT_DN_COUNT ++
    [F.PIPE_PARKS_COUNT, F.PIPE_RESUMES_COUNT]))

/-- CSTORE_CNT_CLR (R183): STALE_WR, BAD_WR, BAD_RD and CE. -/
def execCstoreCntClr (n : Nat) (s : State) : Res :=
  .next (s.zero [F.CSTORE_STALE_WR_COUNT n, F.CSTORE_BAD_WR_COUNT n, F.CSTORE_BAD_RD_COUNT n, F.CSTORE_CE_COUNT n])

/-- CASKET_CNT_CLR (R205): CE, UE, Q_OVR and Q_PAR to 0, SHARED_MIN to SHARED_FREE. -/
def execCasketCntClr (s : State) : Res :=
  .next ((s.zero [F.CASKET_CE_COUNT, F.CASKET_UE_COUNT, F.CASKET_Q_OVR_COUNT, F.CASKET_Q_PAR_COUNT]).wf
    F.CASKET_SHARED_MIN_STRIPES (s.rf F.CASKET_SHARED_FREE_STRIPES))

/-- GRAD_CNT_CLR (R227). -/
def execGradCntClr (s : State) : Res := .next (s.zero ((List.range 8).map F.GRAD_CNT_COUNT))

/-- CHARM_CNT_CLR (R262). -/
def execCharmCntClr (s : State) : Res := .next (s.zero ((List.range 8).map F.CHARM_CNT_COUNT))

/-- CODEC_CNT_CLR (R275). -/
def execCodecCntClr (s : State) : Res := .next (s.zero ((List.range 8).map F.CODEC_CNT_COUNT))

/-- FRONT_CNT_CLR (R300): FRONT.CNT and OVF_LOST. -/
def execFrontCntClr (s : State) : Res :=
  .next (s.zero ((List.range 8).map F.FRONT_CNT_COUNT ++ [F.FRONT_OVF_LOST_COUNT]))

/-- CLASP_CNT_CLR (R318). -/
def execClaspCntClr (s : State) : Res := .next (s.zero ((List.range 8).map F.CLASP_CNT_COUNT))

/-- LOUPE_CNT_CLR (R334): LOST and VAR.SRC. -/
def execLoupeCntClr (s : State) : Res :=
  .next (s.zero (F.LOUPE_LOST_COUNT :: (List.range 8).map F.LOUPE_VAR_SRC_COUNT))

/-- POWER_CNT_CLR (R349). -/
def execPowerCntClr (s : State) : Res := .next (s.zero ((List.range 8).map F.POWER_CNT_COUNT))

/-- LINK_CNT_CLR (R372): CNT, LANE_UC and LANE_NAK of the port. -/
def execLinkCntClr (l : Nat) (s : State) : Res :=
  .next (s.zero ((List.range 16).map (F.LINK_CNT_COUNT l) ++ (List.range 32).map (F.LINK_LANE_UC_COUNT l) ++
    (List.range 32).map (F.LINK_LANE_NAK_COUNT l)))

/-- HOSTIF_CNT_CLR (R391). -/
def execHostifCntClr (s : State) : Res := .next (s.zero ((List.range 8).map F.HOSTIF_CNT_COUNT))

/-- SPARE_CNT_CLR (R467). -/
def execSpareCntClr (s : State) : Res := .next (s.zero ((List.range 4).map F.SPARE_CNT_COUNT))

end Sys2Proof.Machine
end

