-- ==== Sys2Proof/Machine/Spdm.lean ====
section
/-! DEFINITION. The Hallmark responder: SPDM 1.2 over the mailbox and the I3C port (R427, R428), and the I3C port's address (R476). Codes and
message layouts are the standard's (DSP0274 1.2), which the spec names and does not repeat: PRESUMED. -/

namespace Sys2Proof.Machine

/-! ### Connections -/

/-- The connection of a transport. -/
def State.conn (s : State) (t : Transport) : SpdmConn := match t with | .doe => s.locket.doeConn | .i3c => s.locket.i3cConn

/-- Put the connection of a transport. -/
def State.setConn (s : State) (t : Transport) (c : SpdmConn) : State :=
  { s with locket := match t with | .doe => { s.locket with doeConn := c } | .i3c => { s.locket with i3cConn := c } }

/-- How far a connection is: GET_VERSION, GET_CAPABILITIES, NEGOTIATE_ALGORITHMS answered. -/
def spVersion : Nat := 1
def spCaps : Nat := 2
def spAlgs : Nat := 3

/-- Whether a transport carries requests now: the Locket runs (R386, R418), and the I3C port has its address (R476). -/
def State.reaches (s : State) (t : Transport) : Bool :=
  s.pcie.configReady && !s.power.failing && (match t with | .doe => true | .i3c => s.locket.i3cAddr.isSome)

/-- An SPDM message's header: version, code, two parameters. -/
def spHead (version code p1 p2 : Nat) : List Byte := natLe version 1 ++ natLe code 1 ++ natLe p1 1 ++ natLe p2 1

/-- An ERROR response: 1 InvalidRequest, 4 UnexpectedRequest, 7 UnsupportedRequest, 0x41 VersionMismatch. -/
def spError (code data : Nat) : List Byte := spHead 0x12 0x7F code data

/-- Answer a request. -/
def State.answer (s : State) (t : Transport) (m : List Byte) : State := s.toHost (.spdm t m)

/-- Take a request of a code: nothing where the transport does not carry it or it is another request; a data object of more than 16 KiB is refused (R389);
one of another SPDM version, out of turn or too short answers with the standard's error. -/
def State.spdm (s : State) (t : Transport) (m : List Byte) (code version phase len : Nat) (run : State → State) : State :=
  if !s.reaches t || leAt m 1 1 != code then s
  else if t = .doe ∧ 16384 < m.length then s.toHost .doeError
  else if leAt m 0 1 ≠ version then s.answer t (spError 0x41 0)
  else if (s.conn t).phase < phase then s.answer t (spError 4 0)
  else if m.length < len then s.answer t (spError 1 0)
  else run s

/-- Answer a request and add both messages to a transcript. -/
def State.answerWith (s : State) (t : Transport) (resp : List Byte) (f : SpdmConn → SpdmConn) : State :=
  (s.setConn t (f (s.conn t))).answer t resp

/-! ### Negotiation -/

/-- GET_VERSION (R427): version 1.2 alone; the connection starts again. -/
def execGetVersion (t : Transport) (m : List Byte) (s : State) : Res :=
  let r := spHead 0x10 0x04 0 0 ++ natLe 0 1 ++ natLe 1 1 ++ natLe 0x1200 2
  .next (s.spdm t m 0x84 0x10 0 4 (fun s => s.answerWith t r (fun _ => ⟨spVersion, m ++ r, [], []⟩)))

/-- GET_CAPABILITIES (R427): certificates, CHALLENGE, signed measurements; data objects of 16 KiB (R389). -/
def execGetCapabilities (t : Transport) (m : List Byte) (s : State) : Res :=
  let r := spHead 0x12 0x61 0 0 ++ natLe 0 1 ++ [Config.ctExponent] ++ natLe 0 2 ++ natLe 0x16 4 ++ natLe 16384 4 ++ natLe 16384 4
  .next (s.spdm t m 0xE1 0x12 spVersion 20 (fun s => s.answerWith t r (fun c => { c with phase := spCaps, vca := c.vca ++ m ++ r })))

/-- NEGOTIATE_ALGORITHMS (R427): RSASSA-PSS 3072, SHA-256, measurement hash SHA-256. -/
def execNegotiateAlgorithms (t : Transport) (m : List Byte) (s : State) : Res :=
  let r := spHead 0x12 0x63 0 0 ++ natLe 36 2 ++ natLe 1 1 ++ natLe 0 1 ++ natLe 2 4 ++ natLe 8 4 ++ natLe 1 4 ++ natLe 0 16
  .next (s.spdm t m 0xE3 0x12 spCaps 32 (fun s => s.answerWith t r (fun c => { c with phase := spAlgs, vca := c.vca ++ m ++ r })))

/-! ### Certificates -/

/-- The certificate chain of slot 0 as the standard carries one: its length, the hash of the root, the certificates. -/
def certChain : List Byte :=
  natLe (36 + Config.certificates.length) 2 ++ natLe 0 2 ++ (List.range 32).map (fun i => Config.rootHash i) ++ Config.certificates

/-- GET_DIGESTS (R427): slot 0 only. -/
def execGetDigests (t : Transport) (m : List Byte) (s : State) : Res :=
  let r := spHead 0x12 0x01 0 1 ++ sha256 certChain
  .next (s.spdm t m 0x81 0x12 spAlgs 4 (fun s => s.answerWith t r (fun c => { c with digests := c.digests ++ m ++ r })))

/-- GET_CERTIFICATE (R427): a portion of the chain of slot 0. -/
def execGetCertificate (t : Transport) (m : List Byte) (s : State) : Res :=
  let off := leAt m 4 2
  let n := min (leAt m 6 2) (min 16000 (certChain.length - off))
  let r := spHead 0x12 0x02 0 0 ++ natLe n 2 ++ natLe (certChain.length - off - n) 2 ++ (certChain.drop off).take n
  .next (s.spdm t m 0x82 0x12 spAlgs 8 (fun s =>
    if leAt m 2 1 ≠ 0 ∨ certChain.length ≤ off then s.answer t (spError 1 0)
    else s.answerWith t r (fun c => { c with digests := c.digests ++ m ++ r })))

/-! ### Measurements (R428) -/

/-- What measurement i hashes: an image, the presented map, or a form that the spec leaves open. -/
def State.measured (s : State) (i : Nat) : List Byte :=
  let unit := fun (u : BadUnit) => [u.core, u.column.getD 0xFF]
  match i with
  | 1 => (List.range 0x40000).map (fun k => Config.bootByte (s.rf F.LOCKET_FW_STATUS_LOADER * 0x40000 + k))
  | 2 => s.rflash (fwBase (s.rf F.LOCKET_FW_STATUS_SLOT)) (s.fwField (s.rf F.LOCKET_FW_STATUS_SLOT) 0x10 4)
  | 3 => Config.measuredForm 3 [s.rf F.LOCKET_SVN_COUNT]
  | 4 => Config.measuredForm 4 ((List.range 8).map (fun k => s.rf (F.SETUP_HASH_HASH k)) ++ [s.rf F.SETUP_ASEQ_ASEQ])
  | 5 => s.presentedMap
  | 6 => Config.measuredForm 6 (s.locket.soft.flatMap unit ++ s.locket.fused.flatMap unit ++ s.locket.badStores)
  | 7 => Config.measuredForm 7 (s.locket.owners.flatMap (fun o => match o with | some k => [1, k.modulus, k.seq] | none => [0]))
  | _ => Config.measuredForm 8 [s.rf (F.LOCKET_KEY_GEN_GEN 0), b2n (s.flag (keyValid 0)), s.rf (F.LOCKET_KEY_GEN_GEN 1), b2n (s.flag (keyValid 1))]

/-- DMTF value types: mutable firmware, hardware configuration, firmware configuration. -/
def measureType (i : Nat) : Nat := if i ≤ 2 then 1 else if i = 3 ∨ i = 6 then 2 else 3

/-- A measurement block in the DMTF format. -/
def measureBlock (i ty : Nat) (v : List Byte) : List Byte :=
  natLe i 1 ++ natLe 1 1 ++ natLe (v.length + 3) 2 ++ natLe ty 1 ++ natLe v.length 2 ++ v

/-- The manifest: VERSION and SVN of the running image. -/
def State.manifest (s : State) : List Byte := natLe (s.rf F.LOCKET_FW_VERSION_VERSION) 4 ++ natLe (s.rf F.LOCKET_SVN_RUNNING) 1

/-- The block of an index, where one is reported: 1 to 8, and the manifest at the standard's index. -/
def State.measurement (s : State) (i : Nat) : Option (List Byte) :=
  if 1 ≤ i ∧ i ≤ 8 then some (measureBlock i (measureType i) (sha256 (s.measured i)))
  else if i = 0xFD then some (measureBlock i 0x84 s.manifest)
  else none

/-- Every block, in order. -/
def State.allMeasurements (s : State) : List (List Byte) := ([1, 2, 3, 4, 5, 6, 7, 8, 0xFD].map s.measurement).filterMap id

/-- The bytes that a context string of the standard signs before a transcript's hash. -/
def spPrefix (context : String) : List Byte :=
  let v := "dmtf-spdm-v1.2.*dmtf-spdm-v1.2.*dmtf-spdm-v1.2.*dmtf-spdm-v1.2.*".toUTF8.data.toList.map (fun b => BitVec.ofNat 8 b.toNat)
  let c := context.toUTF8.data.toList.map (fun b => BitVec.ofNat 8 b.toNat)
  v ++ List.replicate (36 - c.length) 0#8 ++ c

/-- Sign a transcript with the identity key under a fresh salt (R426, R427). -/
def State.signWith (s : State) (context : String) (transcript : List Byte) : List Byte × State :=
  let (salt, s) := s.freeBytes 32
  (pssSign s.locket.idModulus s.locket.idPrivate (spPrefix context ++ sha256 transcript) salt, s)

/-- CHALLENGE (R427): signed with the identity key over the connection's transcript. The responder's nonce is a free value. -/
def execChallenge (t : Transport) (m : List Byte) (s : State) : Res :=
  .next (s.spdm t m 0x83 0x12 spAlgs 36 (fun s =>
    if leAt m 2 1 ≠ 0 then s.answer t (spError 1 0)
    else
      let ty := leAt m 3 1
      let (nonce, s) := s.freeBytes 32
      let all := if ty = 1 then s.measurement 1 else none
      let summary := if ty = 0 then [] else sha256 (if ty = 1 then all.getD [] else s.allMeasurements.flatMap id)
      let r := spHead 0x12 0x03 0 1 ++ sha256 certChain ++ nonce ++ summary ++ natLe 0 2
      let c := s.conn t
      let (sig, s) := s.signWith "responder-challenge_auth signing" (c.vca ++ c.digests ++ m ++ r)
      s.answerWith t (r ++ sig) (fun c => { c with digests := [] })))

/-- GET_MEASUREMENTS (R428): the number of blocks, one, or all; signed where the request asks. -/
def execGetMeasurements (t : Transport) (m : List Byte) (s : State) : Res :=
  let signed := bit (leAt m 2 1) 0
  .next (s.spdm t m 0xE0 0x12 spAlgs (if signed then 37 else 4) (fun s =>
    let op := leAt m 3 1
    let blocks := if op = 0 then some [] else if op = 0xFF then some s.allMeasurements else (s.measurement op).map (fun b => [b])
    match blocks with
    | none => s.answer t (spError 1 0)
    | some l =>
      let rec0 := l.flatMap id
      let (nonce, s) := s.freeBytes 32
      let r := spHead 0x12 0x60 (if op = 0 then 9 else 0) 0 ++ natLe l.length 1 ++ natLe rec0.length 3 ++ rec0 ++ nonce ++ natLe 0 2
      let c := s.conn t
      let log := c.measurements ++ m ++ r
      if signed then
        let (sig, s) := s.signWith "responder-measurements signing" (c.vca ++ log)
        s.answerWith t (r ++ sig) (fun c => { c with measurements := [] })
      else s.answerWith t r (fun c => { c with measurements := log })))

/-- The requests that the responder serves (R427). -/
def spServed : List Nat := [0x84, 0xE1, 0xE3, 0x81, 0x82, 0x83, 0xE0]

/-- SPDM_UNSUPPORTED (R427). -/
def execSpdmUnsupported (t : Transport) (m : List Byte) (s : State) : Res :=
  .next (if !s.reaches t || spServed.contains (leAt m 1 1) then s
    else if t = .doe ∧ 16384 < m.length then s.toHost .doeError
    else s.answer t (spError 7 (leAt m 1 1)))

/-- I3C_ENTDAA (R476): a port without an address takes one, showing its provisioned ID, of which the spec gives the low 32 bits. -/
def execI3cEntdaa (a : Nat) (s : State) : Res :=
  .next (if s.locket.i3cAddr.isSome || !s.pcie.configReady then s
    else
      let (hi, s) := s.freeWord 16
      { s with locket := { s.locket with i3cAddr := some (a % 128) } }.toHost (.i3cAddress (hi.toNat * 2 ^ 32 + s.locket.serial.toNat % 2 ^ 32) (a % 128)))

end Sys2Proof.Machine
end

