-- ==== Sys2Proof/Machine/Dispatch.lean ====
section
/-! DEFINITION. One arm per command: each is a direct call of the command's meaning. -/

namespace Sys2Proof.Machine

def exec (i : Instr) (s : State) : Host.Outcome State Fault Refusal :=
  match i with
  | .regWrite a b c => Sys2Proof.Machine.execRegWrite a b c s
  | .pairLoRead a => Sys2Proof.Machine.execPairLoRead a s
  | .pairHiWrite a b => Sys2Proof.Machine.execPairHiWrite a b s
  | .boundaryBegin => Sys2Proof.Machine.execBoundaryBegin s
  | .boundaryDrained a b c => Sys2Proof.Machine.execBoundaryDrained a b c s
  | .boundaryApplied => Sys2Proof.Machine.execBoundaryApplied s
  | .boundaryStallAbort => Sys2Proof.Machine.execBoundaryStallAbort s
  | .abortedReleaseDone => Sys2Proof.Machine.execAbortedReleaseDone s
  | .roundStart => Sys2Proof.Machine.execRoundStart s
  | .beadInject a b => Sys2Proof.Machine.execBeadInject s a b
  | .beadRx a b => Sys2Proof.Machine.execBeadRx a b s
  | .transitBeadRx a b => Sys2Proof.Machine.execTransitBeadRx a b s
  | .beadTagCheckDone a => Sys2Proof.Machine.execBeadTagCheckDone a s
  | .beadLate a b c => Sys2Proof.Machine.execBeadLate a b c s
  | .resendReq a b => Sys2Proof.Machine.execResendReq a b s
  | .cameoFetch a b => Sys2Proof.Machine.execCameoFetch a b s
  | .linkDown a => Sys2Proof.Machine.execLinkDown a s
  | .foldNotice a b => Sys2Proof.Machine.execFoldNotice a b s
  | .joinNegotiate a b => Sys2Proof.Machine.execJoinNegotiate a b s
  | .stepAbort a b => Sys2Proof.Machine.execStepAbort a b s
  | .pipeChunkRx a b => Sys2Proof.Machine.execPipeChunkRx a b s
  | .xferAck a b => Sys2Proof.Machine.execXferAck a b s
  | .retransferReq a b => Sys2Proof.Machine.execRetransferReq a b s
  | .roundEnd a b => Sys2Proof.Machine.execRoundEnd a b s
  | .slotResumeDone a => Sys2Proof.Machine.execSlotResumeDone a s
  | .array a b c => Sys2Proof.Machine.execArray a b c s
  | .arrayElement a b c => Sys2Proof.Machine.execArrayElement a b c s
  | .vecCopy a b c => Sys2Proof.Machine.execVecCopy a b c s
  | .vecAdd a b c => Sys2Proof.Machine.execVecAdd a b c s
  | .vecSub a b c => Sys2Proof.Machine.execVecSub a b c s
  | .vecMul a b c => Sys2Proof.Machine.execVecMul a b c s
  | .vecFma a b c => Sys2Proof.Machine.execVecFma a b c s
  | .vecMax a b c => Sys2Proof.Machine.execVecMax a b c s
  | .vecMin a b c => Sys2Proof.Machine.execVecMin a b c s
  | .vecAbs a b c => Sys2Proof.Machine.execVecAbs a b c s
  | .vecNeg a b c => Sys2Proof.Machine.execVecNeg a b c s
  | .vecSelect a b c => Sys2Proof.Machine.execVecSelect a b c s
  | .vecCmpgt a b c => Sys2Proof.Machine.execVecCmpgt a b c s
  | .vecRcp a b c => Sys2Proof.Machine.execVecRcp a b c s
  | .vecSqrt a b c => Sys2Proof.Machine.execVecSqrt a b c s
  | .vecRsqrt a b c => Sys2Proof.Machine.execVecRsqrt a b c s
  | .vecExp2 a b c => Sys2Proof.Machine.execVecExp2 a b c s
  | .vecLog2 a b c => Sys2Proof.Machine.execVecLog2 a b c s
  | .vecExp a b c => Sys2Proof.Machine.execVecExp a b c s
  | .vecLn a b c => Sys2Proof.Machine.execVecLn a b c s
  | .vecTanh a b c => Sys2Proof.Machine.execVecTanh a b c s
  | .vecSigmoid a b c => Sys2Proof.Machine.execVecSigmoid a b c s
  | .vecSilu a b c => Sys2Proof.Machine.execVecSilu a b c s
  | .vecGelu a b c => Sys2Proof.Machine.execVecGelu a b c s
  | .vecSin a b c => Sys2Proof.Machine.execVecSin a b c s
  | .vecCos a b c => Sys2Proof.Machine.execVecCos a b c s
  | .vecExpsub a b c => Sys2Proof.Machine.execVecExpsub a b c s
  | .vecRsum a b c => Sys2Proof.Machine.execVecRsum a b c s
  | .vecRsumsq a b c => Sys2Proof.Machine.execVecRsumsq a b c s
  | .vecRmax a b c => Sys2Proof.Machine.execVecRmax a b c s
  | .vecRmin a b c => Sys2Proof.Machine.execVecRmin a b c s
  | .dropout a b c => Sys2Proof.Machine.execDropout a b c s
  | .uniform a b c => Sys2Proof.Machine.execUniform a b c s
  | .taskPreempt a => Sys2Proof.Machine.execTaskPreempt a s
  | .run a b c d => Sys2Proof.Machine.execRun a b s c d
  | .fill a b c => Sys2Proof.Machine.execFill a b s c
  | .copy a b c d => Sys2Proof.Machine.execCopy a b c s d
  | .hset a b c => Sys2Proof.Machine.execHset a b s c
  | .hclose a b c => Sys2Proof.Machine.execHclose a b s c
  | .waitArr a b c => Sys2Proof.Machine.execWaitArr a b s c
  | .streamTransferDone a b c d => Sys2Proof.Machine.execStreamTransferDone a b c d s
  | .remoteWrite a => Sys2Proof.Machine.execRemoteWrite a s
  | .remoteRead a b => Sys2Proof.Machine.execRemoteRead a s b
  | .bankGatePend a b => Sys2Proof.Machine.execBankGatePend a b s
  | .bankPowerOff a b => Sys2Proof.Machine.execBankPowerOff a b s
  | .bankWakeDone a b => Sys2Proof.Machine.execBankWakeDone a b s
  | .allocRequest a b c => Sys2Proof.Machine.execAllocRequest a b c s
  | .allocWaitGrant => Sys2Proof.Machine.execAllocWaitGrant s
  | .casketNoprog a => Sys2Proof.Machine.execCasketNoprog a s
  | .transpose a b c => Sys2Proof.Machine.execTranspose a b c s
  | .qWrite a b c d => Sys2Proof.Machine.execQWrite a b c s d
  | .qRead a b c => Sys2Proof.Machine.execQRead a b c s
  | .qFlushReq a b => Sys2Proof.Machine.execQFlushReq a b s
  | .gradAdd a b c => Sys2Proof.Machine.execGradAdd a b c s
  | .gradLate a => Sys2Proof.Machine.execGradLate a s
  | .gcontrib a b c => Sys2Proof.Machine.execGcontrib a b c s
  | .gclose a b => Sys2Proof.Machine.execGclose a b s
  | .statisticsClose => Sys2Proof.Machine.execStatisticsClose s
  | .spanCloseComplete => Sys2Proof.Machine.execSpanCloseComplete s
  | .updateRecordCast => Sys2Proof.Machine.execUpdateRecordCast s
  | .convert a b c => Sys2Proof.Machine.execConvert a b c s
  | .loss a b => Sys2Proof.Machine.execLoss a b s
  | .cameoCommit => Sys2Proof.Machine.execCameoCommit s
  | .cameoRewriteCheck => Sys2Proof.Machine.execCameoRewriteCheck s
  | .verdictHoldSet a => Sys2Proof.Machine.execVerdictHoldSet a s
  | .rollbackSet a => Sys2Proof.Machine.execRollbackSet a s
  | .skipSet a => Sys2Proof.Machine.execSkipSet a s
  | .charmAddr a b => Sys2Proof.Machine.execCharmAddr a b s
  | .cgacc a b c => Sys2Proof.Machine.execCgacc a b c s
  | .cgaccRelease a => Sys2Proof.Machine.execCgaccRelease a s
  | .codecCommit a => Sys2Proof.Machine.execCodecCommit a s
  | .codecTableWrite a b c => Sys2Proof.Machine.execCodecTableWrite a b c s
  | .codecSwitchSet => Sys2Proof.Machine.execCodecSwitchSet s
  | .doorbell a b => Sys2Proof.Machine.execDoorbell a b s
  | .qRestart a => Sys2Proof.Machine.execQRestart a s
  | .cmdNop a b => Sys2Proof.Machine.execCmdNop a b s
  | .launch a b c => Sys2Proof.Machine.execLaunch a b c s
  | .graphLoad a b c => Sys2Proof.Machine.execGraphLoad a b c s
  | .graphPatch a b c => Sys2Proof.Machine.execGraphPatch a b c s
  | .graphFree a b => Sys2Proof.Machine.execGraphFree a b s
  | .stepEnd a b => Sys2Proof.Machine.execStepEnd a b s
  | .cmdSignal a b => Sys2Proof.Machine.execCmdSignal a b s
  | .cmdReserved a b => Sys2Proof.Machine.execCmdReserved a b s
  | .taskStart a => Sys2Proof.Machine.execTaskStart a s
  | .persistentPop a b c => Sys2Proof.Machine.execPersistentPop a b c s
  | .taskStall a => Sys2Proof.Machine.execTaskStall a s
  | .taskKill a => Sys2Proof.Machine.execTaskKill a s
  | .ctrlNop a b => Sys2Proof.Machine.execCtrlNop a b s
  | .enqueue a b => Sys2Proof.Machine.execEnqueue a b s
  | .qpush a b => Sys2Proof.Machine.execQpush a b s
  | .qopen a b => Sys2Proof.Machine.execQopen a b s
  | .qclose a b => Sys2Proof.Machine.execQclose a b s
  | .qflush a b c => Sys2Proof.Machine.execQflush a b s c
  | .slotOpen a b => Sys2Proof.Machine.execSlotOpen a b s
  | .slotPark a b => Sys2Proof.Machine.execSlotPark a b s
  | .slotResume a b => Sys2Proof.Machine.execSlotResume a b s
  | .slotClose a b => Sys2Proof.Machine.execSlotClose a b s
  | .constAddr a b => Sys2Proof.Machine.execConstAddr a b s
  | .completionWrite => Sys2Proof.Machine.execCompletionWrite s
  | .recordVerifyDone a b => Sys2Proof.Machine.execRecordVerifyDone a b s
  | .cstallClear a => Sys2Proof.Machine.execCstallClear a s
  | .claspSignal a b => Sys2Proof.Machine.execClaspSignal a b s
  | .claspWait a b => Sys2Proof.Machine.execClaspWait a b s
  | .claspAcquire a b => Sys2Proof.Machine.execClaspAcquire a b s
  | .claspArrive a b => Sys2Proof.Machine.execClaspArrive a b s
  | .claspSpanArrive a b => Sys2Proof.Machine.execClaspSpanArrive a b s
  | .claspApply a => Sys2Proof.Machine.execClaspApply a s
  | .chainSignal a b => Sys2Proof.Machine.execChainSignal a b s
  | .spanArriveMsg a b => Sys2Proof.Machine.execSpanArriveMsg a b s
  | .hostAdd a => Sys2Proof.Machine.execHostAdd a s
  | .watchArm a => Sys2Proof.Machine.execWatchArm a s
  | .claspForce a => Sys2Proof.Machine.execClaspForce a s
  | .claspFlagClear a b => Sys2Proof.Machine.execClaspFlagClear a b s
  | .coreLend a => Sys2Proof.Machine.execCoreLend a s
  | .loupeModeWrite a => Sys2Proof.Machine.execLoupeModeWrite a s
  | .loupeRestart => Sys2Proof.Machine.execLoupeRestart s
  | .alignEdge a => Sys2Proof.Machine.execAlignEdge a s
  | .paceRegulate a b => Sys2Proof.Machine.execPaceRegulate a b s
  | .powerSample a b => Sys2Proof.Machine.execPowerSample a b s
  | .throttleTick => Sys2Proof.Machine.execThrottleTick s
  | .powerEmergency => Sys2Proof.Machine.execPowerEmergency s
  | .emergencyClear => Sys2Proof.Machine.execEmergencyClear s
  | .tempSample a b => Sys2Proof.Machine.execTempSample a b s
  | .thermalTrip => Sys2Proof.Machine.execThermalTrip s
  | .coolant a b => Sys2Proof.Machine.execCoolant a b s
  | .droop a => Sys2Proof.Machine.execDroop a s
  | .droopClear a => Sys2Proof.Machine.execDroopClear a s
  | .powerFail => Sys2Proof.Machine.execPowerFail s
  | .casketBankRetention a b => Sys2Proof.Machine.execCasketBankRetention a b s
  | .lpddrSelfRefresh a b c => Sys2Proof.Machine.execLpddrSelfRefresh a b c s
  | .linkEnWrite a b => Sys2Proof.Machine.execLinkEnWrite a b s
  | .pipeEnWrite a b => Sys2Proof.Machine.execPipeEnWrite a b s
  | .holdoffDone a => Sys2Proof.Machine.execHoldoffDone a s
  | .lanesTrained a b => Sys2Proof.Machine.execLanesTrained a b s
  | .trainTimeout a => Sys2Proof.Machine.execTrainTimeout a s
  | .linkAligned a b c d => Sys2Proof.Machine.execLinkAligned a b c d s
  | .exchange a b => Sys2Proof.Machine.execExchange a b s
  | .exchangeResend a => Sys2Proof.Machine.execExchangeResend a s
  | .retrain a => Sys2Proof.Machine.execRetrain a s
  | .flitData a b c d => Sys2Proof.Machine.execFlitData a b c d s
  | .flitIdle a b c => Sys2Proof.Machine.execFlitIdle a b c s
  | .flitNak a b c => Sys2Proof.Machine.execFlitNak a b c s
  | .flitLost a b c d => Sys2Proof.Machine.execFlitLost a b c d s
  | .nakTimeout a => Sys2Proof.Machine.execNakTimeout a s
  | .flitSlotSend a b => Sys2Proof.Machine.execFlitSlotSend a b s
  | .linkSilent a => Sys2Proof.Machine.execLinkSilent a s
  | .laneFail a b => Sys2Proof.Machine.execLaneFail a b s
  | .widthReq a b => Sys2Proof.Machine.execWidthReq a b s
  | .widthAck a b => Sys2Proof.Machine.execWidthAck a b s
  | .stepGate a b => Sys2Proof.Machine.execStepGate a b s
  | .bar2Read a b c => Sys2Proof.Machine.execBar2Read a b s c
  | .bar2Write a b c => Sys2Proof.Machine.execBar2Write a b c s
  | .hostReset => Sys2Proof.Machine.execHostReset s
  | .drvVersionWrite a => Sys2Proof.Machine.execDrvVersionWrite a s
  | .dmaEnWrite a => Sys2Proof.Machine.execDmaEnWrite a s
  | .d3hotEnter => Sys2Proof.Machine.execD3hotEnter s
  | .d0Return => Sys2Proof.Machine.execD0Return s
  | .dmaReadDone a b c => Sys2Proof.Machine.execDmaReadDone a b c s
  | .msixUnmask a => Sys2Proof.Machine.execMsixUnmask a s
  | .doeDiscovery a => Sys2Proof.Machine.execDoeDiscovery a s
  | .doeAbort => Sys2Proof.Machine.execDoeAbort s
  | .getVersion a b => Sys2Proof.Machine.execGetVersion a b s
  | .getCapabilities a b => Sys2Proof.Machine.execGetCapabilities a b s
  | .negotiateAlgorithms a b => Sys2Proof.Machine.execNegotiateAlgorithms a b s
  | .getDigests a b => Sys2Proof.Machine.execGetDigests a b s
  | .getCertificate a b => Sys2Proof.Machine.execGetCertificate a b s
  | .challenge a b => Sys2Proof.Machine.execChallenge a b s
  | .getMeasurements a b => Sys2Proof.Machine.execGetMeasurements a b s
  | .spdmUnsupported a b => Sys2Proof.Machine.execSpdmUnsupported a b s
  | .i3cEntdaa a => Sys2Proof.Machine.execI3cEntdaa a s
  | .coldStart a => Sys2Proof.Machine.execColdStart a s
  | .startupStateDone a => Sys2Proof.Machine.execStartupStateDone a s
  | .warm a => Sys2Proof.Machine.execWarm a s
  | .erase => Sys2Proof.Machine.execErase s
  | .program => Sys2Proof.Machine.execProgram s
  | .commit => Sys2Proof.Machine.execCommit s
  | .flashOpDone a => Sys2Proof.Machine.execFlashOpDone a s
  | .amendSubmit => Sys2Proof.Machine.execAmendSubmit s
  | .fwErase => Sys2Proof.Machine.execFwErase s
  | .fwProgram => Sys2Proof.Machine.execFwProgram s
  | .fwCommit => Sys2Proof.Machine.execFwCommit s
  | .fwSwitch a => Sys2Proof.Machine.execFwSwitch a s
  | .svnCommit a => Sys2Proof.Machine.execSvnCommit a s
  | .ownerSubmit => Sys2Proof.Machine.execOwnerSubmit s
  | .keyInstall a => Sys2Proof.Machine.execKeyInstall a s
  | .keyClear a => Sys2Proof.Machine.execKeyClear a s
  | .encSlotWrite a => Sys2Proof.Machine.execEncSlotWrite a s
  | .flush => Sys2Proof.Machine.execFlush s
  | .clearSubmit => Sys2Proof.Machine.execClearSubmit s
  | .rdGo => Sys2Proof.Machine.execRdGo s
  | .tokenRefill a => Sys2Proof.Machine.execTokenRefill a s
  | .eventSuppressed => Sys2Proof.Machine.execEventSuppressed s
  | .lifeSecond a => Sys2Proof.Machine.execLifeSecond a s
  | .lifeSnapshot => Sys2Proof.Machine.execLifeSnapshot s
  | .writeNow => Sys2Proof.Machine.execWriteNow s
  | .testCmd a b => Sys2Proof.Machine.execTestCmd a b s
  | .bistDone a b => Sys2Proof.Machine.execBistDone a b s
  | .migrate a b => Sys2Proof.Machine.execMigrate a b s
  | .coreRetire a => Sys2Proof.Machine.execCoreRetire a s
  | .migrationPassBoundary => Sys2Proof.Machine.execMigrationPassBoundary s
  | .forwardedAccess a => Sys2Proof.Machine.execForwardedAccess a s
  | .slotRemoved => Sys2Proof.Machine.execSlotRemoved s
  | .rackclkLost => Sys2Proof.Machine.execRackclkLost s
  | .holdupLow a => Sys2Proof.Machine.execHoldupLow a s
  | .chainCntClr a => Sys2Proof.Machine.execChainCntClr a s
  | .pipeCntClr => Sys2Proof.Machine.execPipeCntClr s
  | .cstoreCntClr a => Sys2Proof.Machine.execCstoreCntClr a s
  | .casketCntClr => Sys2Proof.Machine.execCasketCntClr s
  | .gradCntClr => Sys2Proof.Machine.execGradCntClr s
  | .charmCntClr => Sys2Proof.Machine.execCharmCntClr s
  | .codecCntClr => Sys2Proof.Machine.execCodecCntClr s
  | .frontCntClr => Sys2Proof.Machine.execFrontCntClr s
  | .claspCntClr => Sys2Proof.Machine.execClaspCntClr s
  | .loupeCntClr => Sys2Proof.Machine.execLoupeCntClr s
  | .powerCntClr => Sys2Proof.Machine.execPowerCntClr s
  | .linkCntClr a => Sys2Proof.Machine.execLinkCntClr a s
  | .hostifCntClr => Sys2Proof.Machine.execHostifCntClr s
  | .spareCntClr => Sys2Proof.Machine.execSpareCntClr s
  | .busMasterEnableWrite a => Sys2Proof.Machine.execBusMasterEnableWrite a s
  | .coolantBackInRange a b => Sys2Proof.Machine.execCoolantBackInRange a b s
  | .eventFlushDone a b => Sys2Proof.Machine.execEventFlushDone a b s
  | .lifeSnapshotDone a => Sys2Proof.Machine.execLifeSnapshotDone a s

end Sys2Proof.Machine
end

