-- ==== Sys2Proof/Laws/Bits.lean ====
section
/-! SUPPORT. Bit fields: what a field reads after a field has been put. -/

namespace Sys2Proof.Laws

open Sys2Proof.Machine

theorem testBit_bits (x lo w i : Nat) : (bits x lo w).testBit i = (decide (i < w) && x.testBit (lo + i)) := by
  simp [bits, Nat.testBit_mod_two_pow, Nat.testBit_div_two_pow, Nat.add_comm]

theorem testBit_insertBits (x lo w v i : Nat) :
    (insertBits x lo w v).testBit i = if lo ≤ i ∧ i < lo + w then v.testBit (i - lo) else x.testBit i := by
  have hb : x % 2 ^ lo < 2 ^ lo := Nat.mod_lt _ (Nat.two_pow_pos _)
  have hv : v % 2 ^ w < 2 ^ w := Nat.mod_lt _ (Nat.two_pow_pos _)
  have hlow : 2 ^ lo * (v % 2 ^ w) + x % 2 ^ lo < 2 ^ (lo + w) := by
    have : 2 ^ lo * (v % 2 ^ w) + 2 ^ lo ≤ 2 ^ lo * 2 ^ w := by
      rw [← Nat.mul_succ]; exact Nat.mul_le_mul_left _ hv
    rw [Nat.pow_add]; omega
  have e : insertBits x lo w v = 2 ^ (lo + w) * (x / 2 ^ (lo + w)) + (2 ^ lo * (v % 2 ^ w) + x % 2 ^ lo) := by
    simp only [insertBits, Nat.mul_comm]; omega
  rw [e, Nat.testBit_two_pow_mul_add _ hlow]
  split
  · rw [Nat.testBit_two_pow_mul_add _ hb]
    split
    · have : ¬ (lo ≤ i) := by omega
      simp [this, Nat.testBit_mod_two_pow, *]
    · have h1 : lo ≤ i := by omega
      have h2 : i - lo < w := by omega
      simp [*, Nat.testBit_mod_two_pow]
  · have : ¬ (i < lo + w) := by omega
    simp [this, Nat.testBit_div_two_pow]
    congr 1; omega

theorem bits_insertBits_same (x lo w v : Nat) : bits (insertBits x lo w v) lo w = v % 2 ^ w := by
  apply Nat.eq_of_testBit_eq
  intro i
  simp only [testBit_bits, testBit_insertBits, Nat.testBit_mod_two_pow]
  by_cases h : i < w
  · have : lo ≤ lo + i ∧ lo + i < lo + w := by omega
    simp [h]
  · simp [h]

theorem bits_insertBits_other (x lo w v lo' w' : Nat) (h : lo' + w' ≤ lo ∨ lo + w ≤ lo') :
    bits (insertBits x lo w v) lo' w' = bits x lo' w' := by
  apply Nat.eq_of_testBit_eq
  intro i
  simp only [testBit_bits, testBit_insertBits]
  by_cases hi : i < w'
  · have : ¬ (lo ≤ lo' + i ∧ lo' + i < lo + w) := by omega
    simp [hi, this]
  · simp [hi]

theorem bits_lt (x lo w : Nat) : bits x lo w < 2 ^ w := Nat.mod_lt _ (Nat.two_pow_pos _)

theorem insertBits_lt (x lo w v n : Nat) (hx : x < 2 ^ n) (h : lo + w ≤ n) : insertBits x lo w v < 2 ^ n := by
  apply Nat.lt_pow_two_of_testBit
  intro i hi
  rw [testBit_insertBits]
  have : ¬ (lo ≤ i ∧ i < lo + w) := by omega
  simp only [this, if_false]
  exact Nat.testBit_lt_two_pow (Nat.lt_of_lt_of_le hx (Nat.pow_le_pow_right (by omega) hi))

end Sys2Proof.Laws
end

