-- ==== Sys2Proof/Laws/SMap.lean ====
section
/-! SUPPORT. Sparse data: a read after a write, at the same key and at another, and the canonical form every write keeps. -/

namespace Sys2Proof.Laws

open Sys2Proof.Machine

variable {α : Type} [DecidableEq α] (d : Nat → α)

omit [DecidableEq α] in
theorem SMap_get_dropWhile_same (r : List (Nat × α)) (k : Nat) :
    SMap.get d (r.dropWhile (fun e => decide (e.1 ≤ k))) k = d k := by
  induction r with
  | nil => rfl
  | cons e r ih =>
    obtain ⟨j, v⟩ := e
    simp only [List.dropWhile]
    by_cases h : j ≤ k
    · simp [h, ih]
    · simp [h, SMap.get, Nat.lt_of_not_le h]

omit [DecidableEq α] in
theorem SMap_get_dropWhile_above (r : List (Nat × α)) (k i : Nat) (h : k < i) :
    SMap.get d (r.dropWhile (fun e => decide (e.1 ≤ k))) i = SMap.get d r i := by
  induction r with
  | nil => rfl
  | cons e r ih =>
    obtain ⟨j, v⟩ := e
    simp only [List.dropWhile]
    by_cases hj : j ≤ k
    · have h1 : ¬ i < j := by omega
      have h2 : ¬ i = j := by omega
      simp [hj, ih, SMap.get, h1, h2]
    · simp [hj]

omit [DecidableEq α] in
theorem SMap_get_dropWhile_below (r : List (Nat × α)) (k i : Nat) (h : i < k) :
    SMap.get d (r.dropWhile (fun e => decide (e.1 ≤ k))) i = d i := by
  induction r with
  | nil => rfl
  | cons e r ih =>
    obtain ⟨j, v⟩ := e
    simp only [List.dropWhile]
    by_cases hj : j ≤ k
    · simp [hj, ih]
    · have h1 : i < j := by omega
      simp [hj, SMap.get, h1]

theorem SMap_get_set_same (l : List (Nat × α)) (k : Nat) (v : α) :
    SMap.get d (SMap.set d l k v) k = v := by
  induction l with
  | nil => by_cases h : v = d k <;> simp [SMap.set, SMap.get, h]
  | cons e r ih =>
    obtain ⟨j, w⟩ := e
    simp only [SMap.set]
    by_cases h1 : k < j
    · by_cases h : v = d k <;> simp [SMap.get, h, h1]
    · by_cases h2 : k = j
      · subst h2
        by_cases h : v = d k
        · simp [h, SMap_get_dropWhile_same]
        · simp [h, SMap.get]
      · simp [h1, h2, SMap.get, ih]

theorem SMap_get_set_other (l : List (Nat × α)) (k i : Nat) (v : α) (hne : i ≠ k) :
    SMap.get d (SMap.set d l k v) i = SMap.get d l i := by
  induction l with
  | nil =>
    by_cases h : v = d k
    · simp [SMap.set, SMap.get, h]
    · simp only [SMap.set, h, if_false, SMap.get]
      by_cases h1 : i < k <;> simp [h1, hne]
  | cons e r ih =>
    obtain ⟨j, w⟩ := e
    simp only [SMap.set]
    by_cases h1 : k < j
    · by_cases h : v = d k
      · simp [h, h1]
      · simp only [h1, if_true, h, if_false]
        simp only [SMap.get]
        by_cases h2 : i < k
        · have h3 : i < j := by omega
          simp [h2, h3]
        · simp [h2, hne]
    · by_cases h2 : k = j
      · subst h2
        by_cases h : v = d k
        · simp only [h1, if_false, h, if_true]
          by_cases h3 : i < k
          · simp [SMap_get_dropWhile_below d r k i h3, SMap.get, h3]
          · have h4 : k < i := by omega
            simp [SMap_get_dropWhile_above d r k i h4, SMap.get, h3, hne]
        · simp [h, SMap.get, hne]
      · simp only [h1, h2, if_false, SMap.get, ih]

omit [DecidableEq α] in
theorem SMap_rising_weaken (b c : Option Nat) (l : List (Nat × α))
    (h : SMap.rising b l = true) (hc : ∀ i, c = some i → ∃ j, b = some j ∧ i ≤ j) : SMap.rising c l = true := by
  cases l with
  | nil => rfl
  | cons e r =>
    obtain ⟨j, v⟩ := e
    simp only [SMap.rising, Bool.and_eq_true] at h ⊢
    refine ⟨?_, h.2⟩
    cases c with
    | none => rfl
    | some i =>
      obtain ⟨m, hm, hle⟩ := hc i rfl
      subst hm
      have := h.1
      simp at this ⊢
      omega

omit [DecidableEq α] in
theorem SMap_dropWhile_rising (k : Nat) (r : List (Nat × α)) (h : SMap.rising (some k) r = true) :
    r.dropWhile (fun e => decide (e.1 ≤ k)) = r := by
  cases r with
  | nil => rfl
  | cons e r =>
    obtain ⟨j, v⟩ := e
    simp only [SMap.rising, Bool.and_eq_true] at h
    have h1 := h.1
    simp at h1
    have : ¬ j ≤ k := by omega
    simp [List.dropWhile, this]

theorem SMap_rising_set (b : Option Nat) (l : List (Nat × α)) (k : Nat) (v : α)
    (h : SMap.rising b l = true) (hb : ∀ i, b = some i → i < k) : SMap.rising b (SMap.set d l k v) = true := by
  induction l generalizing b with
  | nil =>
    by_cases hv : v = d k
    · simp [SMap.set, hv, SMap.rising]
    · cases b with
      | none => simp [SMap.set, hv, SMap.rising]
      | some i => simp [SMap.set, hv, SMap.rising, hb i rfl]
  | cons e r ih =>
    obtain ⟨j, w⟩ := e
    have h' := h
    simp only [SMap.rising, Bool.and_eq_true] at h'
    simp only [SMap.set]
    by_cases h1 : k < j
    · by_cases hv : v = d k
      · simpa [h1, hv] using h
      · simp only [h1, if_true, hv, if_false]
        simp only [SMap.rising, Bool.and_eq_true, h'.2, and_true]
        refine ⟨?_, by simp [h1]⟩
        cases b with
        | none => rfl
        | some i => simp [hb i rfl]
    · by_cases h2 : k = j
      · subst h2
        by_cases hv : v = d k
        · simp only [h1, if_false, hv, if_true]
          rw [SMap_dropWhile_rising k r h'.2]
          exact SMap_rising_weaken (some k) b r h'.2 (fun i hi => ⟨k, rfl, Nat.le_of_lt (hb i hi)⟩)
        · simp only [h1, if_false, hv]
          simp only [if_true, SMap.rising, Bool.and_eq_true, h'.2, and_true]
          cases b with
          | none => rfl
          | some i => simp [hb i rfl]
      · simp only [h1, h2, if_false]
        simp only [SMap.rising, Bool.and_eq_true]
        refine ⟨h'.1, ih (some j) h'.2 ?_⟩
        intro i hi
        have : j = i := by simpa using hi
        omega

theorem SMap_mem_set (l : List (Nat × α)) (k : Nat) (v : α) (e : Nat × α) (he : e ∈ SMap.set d l k v) :
    e ∈ l ∨ (e = (k, v) ∧ v ≠ d k) := by
  induction l with
  | nil =>
    by_cases hv : v = d k
    · simp [SMap.set, hv] at he
    · simp [SMap.set, hv] at he
      exact Or.inr ⟨he, hv⟩
  | cons x r ih =>
    obtain ⟨j, w⟩ := x
    simp only [SMap.set] at he
    split at he
    · split at he
      · exact Or.inl he
      · rename_i hv
        rcases List.mem_cons.1 he with h | h
        · exact Or.inr ⟨h, hv⟩
        · exact Or.inl h
    · split at he
      · split at he
        · exact Or.inl (List.mem_cons_of_mem _ ((List.dropWhile_sublist _).subset he))
        · rename_i hv
          rcases List.mem_cons.1 he with h | h
          · exact Or.inr ⟨h, hv⟩
          · exact Or.inl (List.mem_cons_of_mem _ h)
      · rcases List.mem_cons.1 he with h | h
        · exact Or.inl (h ▸ List.mem_cons_self)
        · rcases ih h with h | h
          · exact Or.inl (List.mem_cons_of_mem _ h)
          · exact Or.inr h

/-- A write keeps the canonical form. -/
theorem SMap_wf_set (l : List (Nat × α)) (k : Nat) (v : α) (h : SMap.wf d l = true) :
    SMap.wf d (SMap.set d l k v) = true := by
  simp only [SMap.wf, Bool.and_eq_true, List.all_eq_true] at h ⊢
  refine ⟨SMap_rising_set d none l k v h.1 (by simp), ?_⟩
  intro e he
  rcases SMap_mem_set d l k v e he with h1 | ⟨h1, h2⟩
  · exact h.2 e h1
  · subst h1; simpa using h2

theorem SMap_wf_setMany (vs : List α) (l : List (Nat × α)) (k : Nat) (h : SMap.wf d l = true) :
    SMap.wf d (SMap.setMany d l k vs) = true := by
  induction vs generalizing l k with
  | nil => exact h
  | cons v vs ih => exact ih _ _ (SMap_wf_set d l k v h)

omit [DecidableEq α] in
omit [DecidableEq α] in
theorem SMap_rising_filter (p : Nat × α → Bool) (b : Option Nat) (l : List (Nat × α)) (h : SMap.rising b l = true) :
    SMap.rising b (l.filter p) = true := by
  induction l generalizing b with
  | nil => rfl
  | cons e r ih =>
    obtain ⟨j, v⟩ := e
    simp only [SMap.rising, Bool.and_eq_true] at h
    by_cases hp : p (j, v) = true
    · simp only [List.filter, hp, SMap.rising, Bool.and_eq_true]
      exact ⟨h.1, ih _ h.2⟩
    · simp only [Bool.not_eq_true] at hp
      simp only [List.filter, hp]
      refine ih b ?_
      have h2 := h.2
      have h1 := h.1
      cases r with
      | nil => rfl
      | cons e2 r2 =>
        obtain ⟨j2, v2⟩ := e2
        simp only [SMap.rising, Bool.and_eq_true] at h2 ⊢
        refine ⟨?_, h2.2⟩
        cases b with
        | none => rfl
        | some i =>
          have a1 := h2.1
          simp at a1 h1 ⊢
          omega

theorem SMap_wf_filter (p : Nat × α → Bool) (l : List (Nat × α)) (h : SMap.wf d l = true) : SMap.wf d (l.filter p) = true := by
  simp only [SMap.wf, Bool.and_eq_true, List.all_eq_true] at h ⊢
  refine ⟨SMap_rising_filter _ none l h.1, ?_⟩
  intro e he
  exact h.2 e (List.mem_filter.1 he).1

theorem SMap_wf_dropRange (l : List (Nat × α)) (a b : Nat) (h : SMap.wf d l = true) :
    SMap.wf d (SMap.dropRange l a b) = true := by
  simp only [SMap.wf, Bool.and_eq_true, List.all_eq_true] at h ⊢
  refine ⟨SMap_rising_filter _ none l h.1, ?_⟩
  intro e he
  exact h.2 e (List.mem_filter.1 he).1

theorem SMap_get_setMany (vs : List α) (l : List (Nat × α)) (k x : Nat) :
    SMap.get d (SMap.setMany d l k vs) x = (if k ≤ x then vs[x - k]? else none).getD (SMap.get d l x) := by
  induction vs generalizing l k with
  | nil => simp [SMap.setMany]
  | cons v vs ih =>
    rw [SMap.setMany, ih]
    rcases Nat.lt_trichotomy x k with h | h | h
    · rw [if_neg (by omega), if_neg (by omega), Option.getD_none, Option.getD_none, SMap_get_set_other _ _ _ _ _ (by omega)]
    · subst h
      rw [if_neg (by omega)]
      simp [SMap_get_set_same]
    · obtain ⟨j, hj⟩ : ∃ j, x - k = j + 1 := ⟨x - k - 1, by omega⟩
      rw [if_pos (by omega), if_pos (by omega), show x - (k + 1) = j by omega, hj, List.getElem?_cons_succ, SMap_get_set_other _ _ _ _ _ (by omega)]

end Sys2Proof.Laws
end

