-- ==== Sys2Proof/Laws/State.lean ====
section
/-! SUPPORT. What the plain updates of a state leave alone: one lemma per field and update, each true by the definition of the update. -/

namespace Sys2Proof.Laws

open Sys2Proof.Machine

variable (s : State)

/-! ### wr -/

@[simp] theorem wr_pairs (x : Nat) (v : Word) : (s.wr x v).pairs = s.pairs := rfl
@[simp] theorem wr_shadows (x : Nat) (v : Word) : (s.wr x v).shadows = s.shadows := rfl
@[simp] theorem wr_buffers (x : Nat) (v : Word) : (s.wr x v).buffers = s.buffers := rfl
@[simp] theorem wr_mem (x : Nat) (v : Word) : (s.wr x v).mem = s.mem := rfl
@[simp] theorem wr_poison (x : Nat) (v : Word) : (s.wr x v).poison = s.poison := rfl
@[simp] theorem wr_flash (x : Nat) (v : Word) : (s.wr x v).flash = s.flash := rfl
@[simp] theorem wr_free (x : Nat) (v : Word) : (s.wr x v).free = s.free := rfl
@[simp] theorem wr_ev (x : Nat) (v : Word) : (s.wr x v).ev = s.ev := rfl
@[simp] theorem wr_lifeX (x : Nat) (v : Word) : (s.wr x v).lifeX = s.lifeX := rfl
@[simp] theorem wr_tests (x : Nat) (v : Word) : (s.wr x v).tests = s.tests := rfl
@[simp] theorem wr_pcie (x : Nat) (v : Word) : (s.wr x v).pcie = s.pcie := rfl
@[simp] theorem wr_hostOut (x : Nat) (v : Word) : (s.wr x v).hostOut = s.hostOut := rfl
@[simp] theorem wr_front (x : Nat) (v : Word) : (s.wr x v).front = s.front := rfl
@[simp] theorem wr_clasp (x : Nat) (v : Word) : (s.wr x v).clasp = s.clasp := rfl
@[simp] theorem wr_casket (x : Nat) (v : Word) : (s.wr x v).casket = s.casket := rfl
@[simp] theorem wr_cores (x : Nat) (v : Word) : (s.wr x v).cores = s.cores := rfl
@[simp] theorem wr_links (x : Nat) (v : Word) : (s.wr x v).links = s.links := rfl
@[simp] theorem wr_power (x : Nat) (v : Word) : (s.wr x v).power = s.power := rfl
@[simp] theorem wr_setup (x : Nat) (v : Word) : (s.wr x v).setup = s.setup := rfl
@[simp] theorem wr_locket (x : Nat) (v : Word) : (s.wr x v).locket = s.locket := rfl
@[simp] theorem wr_migration (x : Nat) (v : Word) : (s.wr x v).migration = s.migration := rfl
@[simp] theorem wr_loupe (x : Nat) (v : Word) : (s.wr x v).loupe = s.loupe := rfl
@[simp] theorem wr_chain (x : Nat) (v : Word) : (s.wr x v).chain = s.chain := rfl
@[simp] theorem wr_grad (x : Nat) (v : Word) : (s.wr x v).grad = s.grad := rfl
@[simp] theorem wr_pipe (x : Nat) (v : Word) : (s.wr x v).pipe = s.pipe := rfl
@[simp] theorem wr_fmt (x : Nat) (v : Word) : (s.wr x v).fmt = s.fmt := rfl
@[simp] theorem wr_health (x : Nat) (v : Word) : (s.wr x v).health = s.health := rfl
@[simp] theorem wr_charm (x : Nat) (v : Word) : (s.wr x v).charm = s.charm := rfl
@[simp] theorem wr_pending (x : Nat) (v : Word) : (s.wr x v).pending = s.pending := rfl

/-! ### wf -/

@[simp] theorem wf_pairs (f : Fld) (v : Nat) : (s.wf f v).pairs = s.pairs := rfl
@[simp] theorem wf_shadows (f : Fld) (v : Nat) : (s.wf f v).shadows = s.shadows := rfl
@[simp] theorem wf_buffers (f : Fld) (v : Nat) : (s.wf f v).buffers = s.buffers := rfl
@[simp] theorem wf_mem (f : Fld) (v : Nat) : (s.wf f v).mem = s.mem := rfl
@[simp] theorem wf_poison (f : Fld) (v : Nat) : (s.wf f v).poison = s.poison := rfl
@[simp] theorem wf_flash (f : Fld) (v : Nat) : (s.wf f v).flash = s.flash := rfl
@[simp] theorem wf_free (f : Fld) (v : Nat) : (s.wf f v).free = s.free := rfl
@[simp] theorem wf_ev (f : Fld) (v : Nat) : (s.wf f v).ev = s.ev := rfl
@[simp] theorem wf_lifeX (f : Fld) (v : Nat) : (s.wf f v).lifeX = s.lifeX := rfl
@[simp] theorem wf_tests (f : Fld) (v : Nat) : (s.wf f v).tests = s.tests := rfl
@[simp] theorem wf_pcie (f : Fld) (v : Nat) : (s.wf f v).pcie = s.pcie := rfl
@[simp] theorem wf_hostOut (f : Fld) (v : Nat) : (s.wf f v).hostOut = s.hostOut := rfl
@[simp] theorem wf_front (f : Fld) (v : Nat) : (s.wf f v).front = s.front := rfl
@[simp] theorem wf_clasp (f : Fld) (v : Nat) : (s.wf f v).clasp = s.clasp := rfl
@[simp] theorem wf_casket (f : Fld) (v : Nat) : (s.wf f v).casket = s.casket := rfl
@[simp] theorem wf_cores (f : Fld) (v : Nat) : (s.wf f v).cores = s.cores := rfl
@[simp] theorem wf_links (f : Fld) (v : Nat) : (s.wf f v).links = s.links := rfl
@[simp] theorem wf_power (f : Fld) (v : Nat) : (s.wf f v).power = s.power := rfl
@[simp] theorem wf_setup (f : Fld) (v : Nat) : (s.wf f v).setup = s.setup := rfl
@[simp] theorem wf_locket (f : Fld) (v : Nat) : (s.wf f v).locket = s.locket := rfl
@[simp] theorem wf_migration (f : Fld) (v : Nat) : (s.wf f v).migration = s.migration := rfl
@[simp] theorem wf_loupe (f : Fld) (v : Nat) : (s.wf f v).loupe = s.loupe := rfl
@[simp] theorem wf_chain (f : Fld) (v : Nat) : (s.wf f v).chain = s.chain := rfl
@[simp] theorem wf_grad (f : Fld) (v : Nat) : (s.wf f v).grad = s.grad := rfl
@[simp] theorem wf_pipe (f : Fld) (v : Nat) : (s.wf f v).pipe = s.pipe := rfl
@[simp] theorem wf_fmt (f : Fld) (v : Nat) : (s.wf f v).fmt = s.fmt := rfl
@[simp] theorem wf_health (f : Fld) (v : Nat) : (s.wf f v).health = s.health := rfl
@[simp] theorem wf_charm (f : Fld) (v : Nat) : (s.wf f v).charm = s.charm := rfl
@[simp] theorem wf_pending (f : Fld) (v : Nat) : (s.wf f v).pending = s.pending := rfl

/-! ### wflag -/

@[simp] theorem wflag_pairs (f : Fld) (b : Bool) : (s.wflag f b).pairs = s.pairs := rfl
@[simp] theorem wflag_shadows (f : Fld) (b : Bool) : (s.wflag f b).shadows = s.shadows := rfl
@[simp] theorem wflag_buffers (f : Fld) (b : Bool) : (s.wflag f b).buffers = s.buffers := rfl
@[simp] theorem wflag_mem (f : Fld) (b : Bool) : (s.wflag f b).mem = s.mem := rfl
@[simp] theorem wflag_poison (f : Fld) (b : Bool) : (s.wflag f b).poison = s.poison := rfl
@[simp] theorem wflag_flash (f : Fld) (b : Bool) : (s.wflag f b).flash = s.flash := rfl
@[simp] theorem wflag_free (f : Fld) (b : Bool) : (s.wflag f b).free = s.free := rfl
@[simp] theorem wflag_ev (f : Fld) (b : Bool) : (s.wflag f b).ev = s.ev := rfl
@[simp] theorem wflag_lifeX (f : Fld) (b : Bool) : (s.wflag f b).lifeX = s.lifeX := rfl
@[simp] theorem wflag_tests (f : Fld) (b : Bool) : (s.wflag f b).tests = s.tests := rfl
@[simp] theorem wflag_pcie (f : Fld) (b : Bool) : (s.wflag f b).pcie = s.pcie := rfl
@[simp] theorem wflag_hostOut (f : Fld) (b : Bool) : (s.wflag f b).hostOut = s.hostOut := rfl
@[simp] theorem wflag_front (f : Fld) (b : Bool) : (s.wflag f b).front = s.front := rfl
@[simp] theorem wflag_clasp (f : Fld) (b : Bool) : (s.wflag f b).clasp = s.clasp := rfl
@[simp] theorem wflag_casket (f : Fld) (b : Bool) : (s.wflag f b).casket = s.casket := rfl
@[simp] theorem wflag_cores (f : Fld) (b : Bool) : (s.wflag f b).cores = s.cores := rfl
@[simp] theorem wflag_links (f : Fld) (b : Bool) : (s.wflag f b).links = s.links := rfl
@[simp] theorem wflag_power (f : Fld) (b : Bool) : (s.wflag f b).power = s.power := rfl
@[simp] theorem wflag_setup (f : Fld) (b : Bool) : (s.wflag f b).setup = s.setup := rfl
@[simp] theorem wflag_locket (f : Fld) (b : Bool) : (s.wflag f b).locket = s.locket := rfl
@[simp] theorem wflag_migration (f : Fld) (b : Bool) : (s.wflag f b).migration = s.migration := rfl
@[simp] theorem wflag_loupe (f : Fld) (b : Bool) : (s.wflag f b).loupe = s.loupe := rfl
@[simp] theorem wflag_chain (f : Fld) (b : Bool) : (s.wflag f b).chain = s.chain := rfl
@[simp] theorem wflag_grad (f : Fld) (b : Bool) : (s.wflag f b).grad = s.grad := rfl
@[simp] theorem wflag_pipe (f : Fld) (b : Bool) : (s.wflag f b).pipe = s.pipe := rfl
@[simp] theorem wflag_fmt (f : Fld) (b : Bool) : (s.wflag f b).fmt = s.fmt := rfl
@[simp] theorem wflag_health (f : Fld) (b : Bool) : (s.wflag f b).health = s.health := rfl
@[simp] theorem wflag_charm (f : Fld) (b : Bool) : (s.wflag f b).charm = s.charm := rfl
@[simp] theorem wflag_pending (f : Fld) (b : Bool) : (s.wflag f b).pending = s.pending := rfl

/-! ### bump -/

@[simp] theorem bump_pairs (f : Fld) (n : Nat) : (s.bump f n).pairs = s.pairs := rfl
@[simp] theorem bump_shadows (f : Fld) (n : Nat) : (s.bump f n).shadows = s.shadows := rfl
@[simp] theorem bump_buffers (f : Fld) (n : Nat) : (s.bump f n).buffers = s.buffers := rfl
@[simp] theorem bump_mem (f : Fld) (n : Nat) : (s.bump f n).mem = s.mem := rfl
@[simp] theorem bump_poison (f : Fld) (n : Nat) : (s.bump f n).poison = s.poison := rfl
@[simp] theorem bump_flash (f : Fld) (n : Nat) : (s.bump f n).flash = s.flash := rfl
@[simp] theorem bump_free (f : Fld) (n : Nat) : (s.bump f n).free = s.free := rfl
@[simp] theorem bump_ev (f : Fld) (n : Nat) : (s.bump f n).ev = s.ev := rfl
@[simp] theorem bump_lifeX (f : Fld) (n : Nat) : (s.bump f n).lifeX = s.lifeX := rfl
@[simp] theorem bump_tests (f : Fld) (n : Nat) : (s.bump f n).tests = s.tests := rfl
@[simp] theorem bump_pcie (f : Fld) (n : Nat) : (s.bump f n).pcie = s.pcie := rfl
@[simp] theorem bump_hostOut (f : Fld) (n : Nat) : (s.bump f n).hostOut = s.hostOut := rfl
@[simp] theorem bump_front (f : Fld) (n : Nat) : (s.bump f n).front = s.front := rfl
@[simp] theorem bump_clasp (f : Fld) (n : Nat) : (s.bump f n).clasp = s.clasp := rfl
@[simp] theorem bump_casket (f : Fld) (n : Nat) : (s.bump f n).casket = s.casket := rfl
@[simp] theorem bump_cores (f : Fld) (n : Nat) : (s.bump f n).cores = s.cores := rfl
@[simp] theorem bump_links (f : Fld) (n : Nat) : (s.bump f n).links = s.links := rfl
@[simp] theorem bump_power (f : Fld) (n : Nat) : (s.bump f n).power = s.power := rfl
@[simp] theorem bump_setup (f : Fld) (n : Nat) : (s.bump f n).setup = s.setup := rfl
@[simp] theorem bump_locket (f : Fld) (n : Nat) : (s.bump f n).locket = s.locket := rfl
@[simp] theorem bump_migration (f : Fld) (n : Nat) : (s.bump f n).migration = s.migration := rfl
@[simp] theorem bump_loupe (f : Fld) (n : Nat) : (s.bump f n).loupe = s.loupe := rfl
@[simp] theorem bump_chain (f : Fld) (n : Nat) : (s.bump f n).chain = s.chain := rfl
@[simp] theorem bump_grad (f : Fld) (n : Nat) : (s.bump f n).grad = s.grad := rfl
@[simp] theorem bump_pipe (f : Fld) (n : Nat) : (s.bump f n).pipe = s.pipe := rfl
@[simp] theorem bump_fmt (f : Fld) (n : Nat) : (s.bump f n).fmt = s.fmt := rfl
@[simp] theorem bump_health (f : Fld) (n : Nat) : (s.bump f n).health = s.health := rfl
@[simp] theorem bump_charm (f : Fld) (n : Nat) : (s.bump f n).charm = s.charm := rfl
@[simp] theorem bump_pending (f : Fld) (n : Nat) : (s.bump f n).pending = s.pending := rfl

/-! ### wpair -/

@[simp] theorem wpair_pairs (lo hi : Fld) (v : Nat) : (s.wpair lo hi v).pairs = s.pairs := rfl
@[simp] theorem wpair_shadows (lo hi : Fld) (v : Nat) : (s.wpair lo hi v).shadows = s.shadows := rfl
@[simp] theorem wpair_buffers (lo hi : Fld) (v : Nat) : (s.wpair lo hi v).buffers = s.buffers := rfl
@[simp] theorem wpair_mem (lo hi : Fld) (v : Nat) : (s.wpair lo hi v).mem = s.mem := rfl
@[simp] theorem wpair_poison (lo hi : Fld) (v : Nat) : (s.wpair lo hi v).poison = s.poison := rfl
@[simp] theorem wpair_flash (lo hi : Fld) (v : Nat) : (s.wpair lo hi v).flash = s.flash := rfl
@[simp] theorem wpair_free (lo hi : Fld) (v : Nat) : (s.wpair lo hi v).free = s.free := rfl
@[simp] theorem wpair_ev (lo hi : Fld) (v : Nat) : (s.wpair lo hi v).ev = s.ev := rfl
@[simp] theorem wpair_lifeX (lo hi : Fld) (v : Nat) : (s.wpair lo hi v).lifeX = s.lifeX := rfl
@[simp] theorem wpair_tests (lo hi : Fld) (v : Nat) : (s.wpair lo hi v).tests = s.tests := rfl
@[simp] theorem wpair_pcie (lo hi : Fld) (v : Nat) : (s.wpair lo hi v).pcie = s.pcie := rfl
@[simp] theorem wpair_hostOut (lo hi : Fld) (v : Nat) : (s.wpair lo hi v).hostOut = s.hostOut := rfl
@[simp] theorem wpair_front (lo hi : Fld) (v : Nat) : (s.wpair lo hi v).front = s.front := rfl
@[simp] theorem wpair_clasp (lo hi : Fld) (v : Nat) : (s.wpair lo hi v).clasp = s.clasp := rfl
@[simp] theorem wpair_casket (lo hi : Fld) (v : Nat) : (s.wpair lo hi v).casket = s.casket := rfl
@[simp] theorem wpair_cores (lo hi : Fld) (v : Nat) : (s.wpair lo hi v).cores = s.cores := rfl
@[simp] theorem wpair_links (lo hi : Fld) (v : Nat) : (s.wpair lo hi v).links = s.links := rfl
@[simp] theorem wpair_power (lo hi : Fld) (v : Nat) : (s.wpair lo hi v).power = s.power := rfl
@[simp] theorem wpair_setup (lo hi : Fld) (v : Nat) : (s.wpair lo hi v).setup = s.setup := rfl
@[simp] theorem wpair_locket (lo hi : Fld) (v : Nat) : (s.wpair lo hi v).locket = s.locket := rfl
@[simp] theorem wpair_migration (lo hi : Fld) (v : Nat) : (s.wpair lo hi v).migration = s.migration := rfl
@[simp] theorem wpair_loupe (lo hi : Fld) (v : Nat) : (s.wpair lo hi v).loupe = s.loupe := rfl
@[simp] theorem wpair_chain (lo hi : Fld) (v : Nat) : (s.wpair lo hi v).chain = s.chain := rfl
@[simp] theorem wpair_grad (lo hi : Fld) (v : Nat) : (s.wpair lo hi v).grad = s.grad := rfl
@[simp] theorem wpair_pipe (lo hi : Fld) (v : Nat) : (s.wpair lo hi v).pipe = s.pipe := rfl
@[simp] theorem wpair_fmt (lo hi : Fld) (v : Nat) : (s.wpair lo hi v).fmt = s.fmt := rfl
@[simp] theorem wpair_health (lo hi : Fld) (v : Nat) : (s.wpair lo hi v).health = s.health := rfl
@[simp] theorem wpair_charm (lo hi : Fld) (v : Nat) : (s.wpair lo hi v).charm = s.charm := rfl
@[simp] theorem wpair_pending (lo hi : Fld) (v : Nat) : (s.wpair lo hi v).pending = s.pending := rfl

/-! ### setPair -/

@[simp] theorem setPair_regs (x : Nat) (v : Pair) : (s.setPair x v).regs = s.regs := rfl
@[simp] theorem setPair_shadows (x : Nat) (v : Pair) : (s.setPair x v).shadows = s.shadows := rfl
@[simp] theorem setPair_buffers (x : Nat) (v : Pair) : (s.setPair x v).buffers = s.buffers := rfl
@[simp] theorem setPair_mem (x : Nat) (v : Pair) : (s.setPair x v).mem = s.mem := rfl
@[simp] theorem setPair_poison (x : Nat) (v : Pair) : (s.setPair x v).poison = s.poison := rfl
@[simp] theorem setPair_flash (x : Nat) (v : Pair) : (s.setPair x v).flash = s.flash := rfl
@[simp] theorem setPair_free (x : Nat) (v : Pair) : (s.setPair x v).free = s.free := rfl
@[simp] theorem setPair_ev (x : Nat) (v : Pair) : (s.setPair x v).ev = s.ev := rfl
@[simp] theorem setPair_lifeX (x : Nat) (v : Pair) : (s.setPair x v).lifeX = s.lifeX := rfl
@[simp] theorem setPair_tests (x : Nat) (v : Pair) : (s.setPair x v).tests = s.tests := rfl
@[simp] theorem setPair_pcie (x : Nat) (v : Pair) : (s.setPair x v).pcie = s.pcie := rfl
@[simp] theorem setPair_hostOut (x : Nat) (v : Pair) : (s.setPair x v).hostOut = s.hostOut := rfl
@[simp] theorem setPair_front (x : Nat) (v : Pair) : (s.setPair x v).front = s.front := rfl
@[simp] theorem setPair_clasp (x : Nat) (v : Pair) : (s.setPair x v).clasp = s.clasp := rfl
@[simp] theorem setPair_casket (x : Nat) (v : Pair) : (s.setPair x v).casket = s.casket := rfl
@[simp] theorem setPair_cores (x : Nat) (v : Pair) : (s.setPair x v).cores = s.cores := rfl
@[simp] theorem setPair_links (x : Nat) (v : Pair) : (s.setPair x v).links = s.links := rfl
@[simp] theorem setPair_power (x : Nat) (v : Pair) : (s.setPair x v).power = s.power := rfl
@[simp] theorem setPair_setup (x : Nat) (v : Pair) : (s.setPair x v).setup = s.setup := rfl
@[simp] theorem setPair_locket (x : Nat) (v : Pair) : (s.setPair x v).locket = s.locket := rfl
@[simp] theorem setPair_migration (x : Nat) (v : Pair) : (s.setPair x v).migration = s.migration := rfl
@[simp] theorem setPair_loupe (x : Nat) (v : Pair) : (s.setPair x v).loupe = s.loupe := rfl
@[simp] theorem setPair_chain (x : Nat) (v : Pair) : (s.setPair x v).chain = s.chain := rfl
@[simp] theorem setPair_grad (x : Nat) (v : Pair) : (s.setPair x v).grad = s.grad := rfl
@[simp] theorem setPair_pipe (x : Nat) (v : Pair) : (s.setPair x v).pipe = s.pipe := rfl
@[simp] theorem setPair_fmt (x : Nat) (v : Pair) : (s.setPair x v).fmt = s.fmt := rfl
@[simp] theorem setPair_health (x : Nat) (v : Pair) : (s.setPair x v).health = s.health := rfl
@[simp] theorem setPair_charm (x : Nat) (v : Pair) : (s.setPair x v).charm = s.charm := rfl
@[simp] theorem setPair_pending (x : Nat) (v : Pair) : (s.setPair x v).pending = s.pending := rfl

/-! ### wb -/

@[simp] theorem wb_regs (a : Nat) (v : Byte) : (s.wb a v).regs = s.regs := rfl
@[simp] theorem wb_pairs (a : Nat) (v : Byte) : (s.wb a v).pairs = s.pairs := rfl
@[simp] theorem wb_shadows (a : Nat) (v : Byte) : (s.wb a v).shadows = s.shadows := rfl
@[simp] theorem wb_buffers (a : Nat) (v : Byte) : (s.wb a v).buffers = s.buffers := rfl
@[simp] theorem wb_poison (a : Nat) (v : Byte) : (s.wb a v).poison = s.poison := rfl
@[simp] theorem wb_flash (a : Nat) (v : Byte) : (s.wb a v).flash = s.flash := rfl
@[simp] theorem wb_free (a : Nat) (v : Byte) : (s.wb a v).free = s.free := rfl
@[simp] theorem wb_ev (a : Nat) (v : Byte) : (s.wb a v).ev = s.ev := rfl
@[simp] theorem wb_lifeX (a : Nat) (v : Byte) : (s.wb a v).lifeX = s.lifeX := rfl
@[simp] theorem wb_tests (a : Nat) (v : Byte) : (s.wb a v).tests = s.tests := rfl
@[simp] theorem wb_pcie (a : Nat) (v : Byte) : (s.wb a v).pcie = s.pcie := rfl
@[simp] theorem wb_hostOut (a : Nat) (v : Byte) : (s.wb a v).hostOut = s.hostOut := rfl
@[simp] theorem wb_front (a : Nat) (v : Byte) : (s.wb a v).front = s.front := rfl
@[simp] theorem wb_clasp (a : Nat) (v : Byte) : (s.wb a v).clasp = s.clasp := rfl
@[simp] theorem wb_casket (a : Nat) (v : Byte) : (s.wb a v).casket = s.casket := rfl
@[simp] theorem wb_cores (a : Nat) (v : Byte) : (s.wb a v).cores = s.cores := rfl
@[simp] theorem wb_links (a : Nat) (v : Byte) : (s.wb a v).links = s.links := rfl
@[simp] theorem wb_power (a : Nat) (v : Byte) : (s.wb a v).power = s.power := rfl
@[simp] theorem wb_setup (a : Nat) (v : Byte) : (s.wb a v).setup = s.setup := rfl
@[simp] theorem wb_locket (a : Nat) (v : Byte) : (s.wb a v).locket = s.locket := rfl
@[simp] theorem wb_migration (a : Nat) (v : Byte) : (s.wb a v).migration = s.migration := rfl
@[simp] theorem wb_loupe (a : Nat) (v : Byte) : (s.wb a v).loupe = s.loupe := rfl
@[simp] theorem wb_chain (a : Nat) (v : Byte) : (s.wb a v).chain = s.chain := rfl
@[simp] theorem wb_grad (a : Nat) (v : Byte) : (s.wb a v).grad = s.grad := rfl
@[simp] theorem wb_pipe (a : Nat) (v : Byte) : (s.wb a v).pipe = s.pipe := rfl
@[simp] theorem wb_fmt (a : Nat) (v : Byte) : (s.wb a v).fmt = s.fmt := rfl
@[simp] theorem wb_health (a : Nat) (v : Byte) : (s.wb a v).health = s.health := rfl
@[simp] theorem wb_charm (a : Nat) (v : Byte) : (s.wb a v).charm = s.charm := rfl
@[simp] theorem wb_pending (a : Nat) (v : Byte) : (s.wb a v).pending = s.pending := rfl

/-! ### wbs -/

@[simp] theorem wbs_regs (a : Nat) (l : List Byte) : (s.wbs a l).regs = s.regs := rfl
@[simp] theorem wbs_pairs (a : Nat) (l : List Byte) : (s.wbs a l).pairs = s.pairs := rfl
@[simp] theorem wbs_shadows (a : Nat) (l : List Byte) : (s.wbs a l).shadows = s.shadows := rfl
@[simp] theorem wbs_buffers (a : Nat) (l : List Byte) : (s.wbs a l).buffers = s.buffers := rfl
@[simp] theorem wbs_poison (a : Nat) (l : List Byte) : (s.wbs a l).poison = s.poison := rfl
@[simp] theorem wbs_flash (a : Nat) (l : List Byte) : (s.wbs a l).flash = s.flash := rfl
@[simp] theorem wbs_free (a : Nat) (l : List Byte) : (s.wbs a l).free = s.free := rfl
@[simp] theorem wbs_ev (a : Nat) (l : List Byte) : (s.wbs a l).ev = s.ev := rfl
@[simp] theorem wbs_lifeX (a : Nat) (l : List Byte) : (s.wbs a l).lifeX = s.lifeX := rfl
@[simp] theorem wbs_tests (a : Nat) (l : List Byte) : (s.wbs a l).tests = s.tests := rfl
@[simp] theorem wbs_pcie (a : Nat) (l : List Byte) : (s.wbs a l).pcie = s.pcie := rfl
@[simp] theorem wbs_hostOut (a : Nat) (l : List Byte) : (s.wbs a l).hostOut = s.hostOut := rfl
@[simp] theorem wbs_front (a : Nat) (l : List Byte) : (s.wbs a l).front = s.front := rfl
@[simp] theorem wbs_clasp (a : Nat) (l : List Byte) : (s.wbs a l).clasp = s.clasp := rfl
@[simp] theorem wbs_casket (a : Nat) (l : List Byte) : (s.wbs a l).casket = s.casket := rfl
@[simp] theorem wbs_cores (a : Nat) (l : List Byte) : (s.wbs a l).cores = s.cores := rfl
@[simp] theorem wbs_links (a : Nat) (l : List Byte) : (s.wbs a l).links = s.links := rfl
@[simp] theorem wbs_power (a : Nat) (l : List Byte) : (s.wbs a l).power = s.power := rfl
@[simp] theorem wbs_setup (a : Nat) (l : List Byte) : (s.wbs a l).setup = s.setup := rfl
@[simp] theorem wbs_locket (a : Nat) (l : List Byte) : (s.wbs a l).locket = s.locket := rfl
@[simp] theorem wbs_migration (a : Nat) (l : List Byte) : (s.wbs a l).migration = s.migration := rfl
@[simp] theorem wbs_loupe (a : Nat) (l : List Byte) : (s.wbs a l).loupe = s.loupe := rfl
@[simp] theorem wbs_chain (a : Nat) (l : List Byte) : (s.wbs a l).chain = s.chain := rfl
@[simp] theorem wbs_grad (a : Nat) (l : List Byte) : (s.wbs a l).grad = s.grad := rfl
@[simp] theorem wbs_pipe (a : Nat) (l : List Byte) : (s.wbs a l).pipe = s.pipe := rfl
@[simp] theorem wbs_fmt (a : Nat) (l : List Byte) : (s.wbs a l).fmt = s.fmt := rfl
@[simp] theorem wbs_health (a : Nat) (l : List Byte) : (s.wbs a l).health = s.health := rfl
@[simp] theorem wbs_charm (a : Nat) (l : List Byte) : (s.wbs a l).charm = s.charm := rfl
@[simp] theorem wbs_pending (a : Nat) (l : List Byte) : (s.wbs a l).pending = s.pending := rfl

/-! ### setPoison -/

@[simp] theorem setPoison_regs (a : Nat) (b : Bool) : (s.setPoison a b).regs = s.regs := rfl
@[simp] theorem setPoison_pairs (a : Nat) (b : Bool) : (s.setPoison a b).pairs = s.pairs := rfl
@[simp] theorem setPoison_shadows (a : Nat) (b : Bool) : (s.setPoison a b).shadows = s.shadows := rfl
@[simp] theorem setPoison_buffers (a : Nat) (b : Bool) : (s.setPoison a b).buffers = s.buffers := rfl
@[simp] theorem setPoison_mem (a : Nat) (b : Bool) : (s.setPoison a b).mem = s.mem := rfl
@[simp] theorem setPoison_flash (a : Nat) (b : Bool) : (s.setPoison a b).flash = s.flash := rfl
@[simp] theorem setPoison_free (a : Nat) (b : Bool) : (s.setPoison a b).free = s.free := rfl
@[simp] theorem setPoison_ev (a : Nat) (b : Bool) : (s.setPoison a b).ev = s.ev := rfl
@[simp] theorem setPoison_lifeX (a : Nat) (b : Bool) : (s.setPoison a b).lifeX = s.lifeX := rfl
@[simp] theorem setPoison_tests (a : Nat) (b : Bool) : (s.setPoison a b).tests = s.tests := rfl
@[simp] theorem setPoison_pcie (a : Nat) (b : Bool) : (s.setPoison a b).pcie = s.pcie := rfl
@[simp] theorem setPoison_hostOut (a : Nat) (b : Bool) : (s.setPoison a b).hostOut = s.hostOut := rfl
@[simp] theorem setPoison_front (a : Nat) (b : Bool) : (s.setPoison a b).front = s.front := rfl
@[simp] theorem setPoison_clasp (a : Nat) (b : Bool) : (s.setPoison a b).clasp = s.clasp := rfl
@[simp] theorem setPoison_casket (a : Nat) (b : Bool) : (s.setPoison a b).casket = s.casket := rfl
@[simp] theorem setPoison_cores (a : Nat) (b : Bool) : (s.setPoison a b).cores = s.cores := rfl
@[simp] theorem setPoison_links (a : Nat) (b : Bool) : (s.setPoison a b).links = s.links := rfl
@[simp] theorem setPoison_power (a : Nat) (b : Bool) : (s.setPoison a b).power = s.power := rfl
@[simp] theorem setPoison_setup (a : Nat) (b : Bool) : (s.setPoison a b).setup = s.setup := rfl
@[simp] theorem setPoison_locket (a : Nat) (b : Bool) : (s.setPoison a b).locket = s.locket := rfl
@[simp] theorem setPoison_migration (a : Nat) (b : Bool) : (s.setPoison a b).migration = s.migration := rfl
@[simp] theorem setPoison_loupe (a : Nat) (b : Bool) : (s.setPoison a b).loupe = s.loupe := rfl
@[simp] theorem setPoison_chain (a : Nat) (b : Bool) : (s.setPoison a b).chain = s.chain := rfl
@[simp] theorem setPoison_grad (a : Nat) (b : Bool) : (s.setPoison a b).grad = s.grad := rfl
@[simp] theorem setPoison_pipe (a : Nat) (b : Bool) : (s.setPoison a b).pipe = s.pipe := rfl
@[simp] theorem setPoison_fmt (a : Nat) (b : Bool) : (s.setPoison a b).fmt = s.fmt := rfl
@[simp] theorem setPoison_health (a : Nat) (b : Bool) : (s.setPoison a b).health = s.health := rfl
@[simp] theorem setPoison_charm (a : Nat) (b : Bool) : (s.setPoison a b).charm = s.charm := rfl
@[simp] theorem setPoison_pending (a : Nat) (b : Bool) : (s.setPoison a b).pending = s.pending := rfl

/-! ### store -/

@[simp] theorem store_regs (a : Nat) (l : List Byte) : (s.store a l).regs = s.regs := rfl
@[simp] theorem store_pairs (a : Nat) (l : List Byte) : (s.store a l).pairs = s.pairs := rfl
@[simp] theorem store_shadows (a : Nat) (l : List Byte) : (s.store a l).shadows = s.shadows := rfl
@[simp] theorem store_buffers (a : Nat) (l : List Byte) : (s.store a l).buffers = s.buffers := rfl
@[simp] theorem store_flash (a : Nat) (l : List Byte) : (s.store a l).flash = s.flash := rfl
@[simp] theorem store_free (a : Nat) (l : List Byte) : (s.store a l).free = s.free := rfl
@[simp] theorem store_ev (a : Nat) (l : List Byte) : (s.store a l).ev = s.ev := rfl
@[simp] theorem store_lifeX (a : Nat) (l : List Byte) : (s.store a l).lifeX = s.lifeX := rfl
@[simp] theorem store_tests (a : Nat) (l : List Byte) : (s.store a l).tests = s.tests := rfl
@[simp] theorem store_pcie (a : Nat) (l : List Byte) : (s.store a l).pcie = s.pcie := rfl
@[simp] theorem store_hostOut (a : Nat) (l : List Byte) : (s.store a l).hostOut = s.hostOut := rfl
@[simp] theorem store_front (a : Nat) (l : List Byte) : (s.store a l).front = s.front := rfl
@[simp] theorem store_clasp (a : Nat) (l : List Byte) : (s.store a l).clasp = s.clasp := rfl
@[simp] theorem store_casket (a : Nat) (l : List Byte) : (s.store a l).casket = s.casket := rfl
@[simp] theorem store_cores (a : Nat) (l : List Byte) : (s.store a l).cores = s.cores := rfl
@[simp] theorem store_links (a : Nat) (l : List Byte) : (s.store a l).links = s.links := rfl
@[simp] theorem store_power (a : Nat) (l : List Byte) : (s.store a l).power = s.power := rfl
@[simp] theorem store_setup (a : Nat) (l : List Byte) : (s.store a l).setup = s.setup := rfl
@[simp] theorem store_locket (a : Nat) (l : List Byte) : (s.store a l).locket = s.locket := rfl
@[simp] theorem store_migration (a : Nat) (l : List Byte) : (s.store a l).migration = s.migration := rfl
@[simp] theorem store_loupe (a : Nat) (l : List Byte) : (s.store a l).loupe = s.loupe := rfl
@[simp] theorem store_chain (a : Nat) (l : List Byte) : (s.store a l).chain = s.chain := rfl
@[simp] theorem store_grad (a : Nat) (l : List Byte) : (s.store a l).grad = s.grad := rfl
@[simp] theorem store_pipe (a : Nat) (l : List Byte) : (s.store a l).pipe = s.pipe := rfl
@[simp] theorem store_fmt (a : Nat) (l : List Byte) : (s.store a l).fmt = s.fmt := rfl
@[simp] theorem store_health (a : Nat) (l : List Byte) : (s.store a l).health = s.health := rfl
@[simp] theorem store_charm (a : Nat) (l : List Byte) : (s.store a l).charm = s.charm := rfl
@[simp] theorem store_pending (a : Nat) (l : List Byte) : (s.store a l).pending = s.pending := rfl

/-! ### wflash -/

@[simp] theorem wflash_regs (a : Nat) (l : List Byte) : (s.wflash a l).regs = s.regs := rfl
@[simp] theorem wflash_pairs (a : Nat) (l : List Byte) : (s.wflash a l).pairs = s.pairs := rfl
@[simp] theorem wflash_shadows (a : Nat) (l : List Byte) : (s.wflash a l).shadows = s.shadows := rfl
@[simp] theorem wflash_buffers (a : Nat) (l : List Byte) : (s.wflash a l).buffers = s.buffers := rfl
@[simp] theorem wflash_mem (a : Nat) (l : List Byte) : (s.wflash a l).mem = s.mem := rfl
@[simp] theorem wflash_poison (a : Nat) (l : List Byte) : (s.wflash a l).poison = s.poison := rfl
@[simp] theorem wflash_free (a : Nat) (l : List Byte) : (s.wflash a l).free = s.free := rfl
@[simp] theorem wflash_ev (a : Nat) (l : List Byte) : (s.wflash a l).ev = s.ev := rfl
@[simp] theorem wflash_lifeX (a : Nat) (l : List Byte) : (s.wflash a l).lifeX = s.lifeX := rfl
@[simp] theorem wflash_tests (a : Nat) (l : List Byte) : (s.wflash a l).tests = s.tests := rfl
@[simp] theorem wflash_pcie (a : Nat) (l : List Byte) : (s.wflash a l).pcie = s.pcie := rfl
@[simp] theorem wflash_hostOut (a : Nat) (l : List Byte) : (s.wflash a l).hostOut = s.hostOut := rfl
@[simp] theorem wflash_front (a : Nat) (l : List Byte) : (s.wflash a l).front = s.front := rfl
@[simp] theorem wflash_clasp (a : Nat) (l : List Byte) : (s.wflash a l).clasp = s.clasp := rfl
@[simp] theorem wflash_casket (a : Nat) (l : List Byte) : (s.wflash a l).casket = s.casket := rfl
@[simp] theorem wflash_cores (a : Nat) (l : List Byte) : (s.wflash a l).cores = s.cores := rfl
@[simp] theorem wflash_links (a : Nat) (l : List Byte) : (s.wflash a l).links = s.links := rfl
@[simp] theorem wflash_power (a : Nat) (l : List Byte) : (s.wflash a l).power = s.power := rfl
@[simp] theorem wflash_setup (a : Nat) (l : List Byte) : (s.wflash a l).setup = s.setup := rfl
@[simp] theorem wflash_locket (a : Nat) (l : List Byte) : (s.wflash a l).locket = s.locket := rfl
@[simp] theorem wflash_migration (a : Nat) (l : List Byte) : (s.wflash a l).migration = s.migration := rfl
@[simp] theorem wflash_loupe (a : Nat) (l : List Byte) : (s.wflash a l).loupe = s.loupe := rfl
@[simp] theorem wflash_chain (a : Nat) (l : List Byte) : (s.wflash a l).chain = s.chain := rfl
@[simp] theorem wflash_grad (a : Nat) (l : List Byte) : (s.wflash a l).grad = s.grad := rfl
@[simp] theorem wflash_pipe (a : Nat) (l : List Byte) : (s.wflash a l).pipe = s.pipe := rfl
@[simp] theorem wflash_fmt (a : Nat) (l : List Byte) : (s.wflash a l).fmt = s.fmt := rfl
@[simp] theorem wflash_health (a : Nat) (l : List Byte) : (s.wflash a l).health = s.health := rfl
@[simp] theorem wflash_charm (a : Nat) (l : List Byte) : (s.wflash a l).charm = s.charm := rfl
@[simp] theorem wflash_pending (a : Nat) (l : List Byte) : (s.wflash a l).pending = s.pending := rfl

/-! ### eraseFlash -/

@[simp] theorem eraseFlash_regs (a n : Nat) : (s.eraseFlash a n).regs = s.regs := rfl
@[simp] theorem eraseFlash_pairs (a n : Nat) : (s.eraseFlash a n).pairs = s.pairs := rfl
@[simp] theorem eraseFlash_shadows (a n : Nat) : (s.eraseFlash a n).shadows = s.shadows := rfl
@[simp] theorem eraseFlash_buffers (a n : Nat) : (s.eraseFlash a n).buffers = s.buffers := rfl
@[simp] theorem eraseFlash_mem (a n : Nat) : (s.eraseFlash a n).mem = s.mem := rfl
@[simp] theorem eraseFlash_poison (a n : Nat) : (s.eraseFlash a n).poison = s.poison := rfl
@[simp] theorem eraseFlash_free (a n : Nat) : (s.eraseFlash a n).free = s.free := rfl
@[simp] theorem eraseFlash_ev (a n : Nat) : (s.eraseFlash a n).ev = s.ev := rfl
@[simp] theorem eraseFlash_lifeX (a n : Nat) : (s.eraseFlash a n).lifeX = s.lifeX := rfl
@[simp] theorem eraseFlash_tests (a n : Nat) : (s.eraseFlash a n).tests = s.tests := rfl
@[simp] theorem eraseFlash_pcie (a n : Nat) : (s.eraseFlash a n).pcie = s.pcie := rfl
@[simp] theorem eraseFlash_hostOut (a n : Nat) : (s.eraseFlash a n).hostOut = s.hostOut := rfl
@[simp] theorem eraseFlash_front (a n : Nat) : (s.eraseFlash a n).front = s.front := rfl
@[simp] theorem eraseFlash_clasp (a n : Nat) : (s.eraseFlash a n).clasp = s.clasp := rfl
@[simp] theorem eraseFlash_casket (a n : Nat) : (s.eraseFlash a n).casket = s.casket := rfl
@[simp] theorem eraseFlash_cores (a n : Nat) : (s.eraseFlash a n).cores = s.cores := rfl
@[simp] theorem eraseFlash_links (a n : Nat) : (s.eraseFlash a n).links = s.links := rfl
@[simp] theorem eraseFlash_power (a n : Nat) : (s.eraseFlash a n).power = s.power := rfl
@[simp] theorem eraseFlash_setup (a n : Nat) : (s.eraseFlash a n).setup = s.setup := rfl
@[simp] theorem eraseFlash_locket (a n : Nat) : (s.eraseFlash a n).locket = s.locket := rfl
@[simp] theorem eraseFlash_migration (a n : Nat) : (s.eraseFlash a n).migration = s.migration := rfl
@[simp] theorem eraseFlash_loupe (a n : Nat) : (s.eraseFlash a n).loupe = s.loupe := rfl
@[simp] theorem eraseFlash_chain (a n : Nat) : (s.eraseFlash a n).chain = s.chain := rfl
@[simp] theorem eraseFlash_grad (a n : Nat) : (s.eraseFlash a n).grad = s.grad := rfl
@[simp] theorem eraseFlash_pipe (a n : Nat) : (s.eraseFlash a n).pipe = s.pipe := rfl
@[simp] theorem eraseFlash_fmt (a n : Nat) : (s.eraseFlash a n).fmt = s.fmt := rfl
@[simp] theorem eraseFlash_health (a n : Nat) : (s.eraseFlash a n).health = s.health := rfl
@[simp] theorem eraseFlash_charm (a n : Nat) : (s.eraseFlash a n).charm = s.charm := rfl
@[simp] theorem eraseFlash_pending (a n : Nat) : (s.eraseFlash a n).pending = s.pending := rfl

/-! ### toHost -/

@[simp] theorem toHost_regs (o : HostOut) : (s.toHost o).regs = s.regs := rfl
@[simp] theorem toHost_pairs (o : HostOut) : (s.toHost o).pairs = s.pairs := rfl
@[simp] theorem toHost_shadows (o : HostOut) : (s.toHost o).shadows = s.shadows := rfl
@[simp] theorem toHost_buffers (o : HostOut) : (s.toHost o).buffers = s.buffers := rfl
@[simp] theorem toHost_mem (o : HostOut) : (s.toHost o).mem = s.mem := rfl
@[simp] theorem toHost_poison (o : HostOut) : (s.toHost o).poison = s.poison := rfl
@[simp] theorem toHost_flash (o : HostOut) : (s.toHost o).flash = s.flash := rfl
@[simp] theorem toHost_free (o : HostOut) : (s.toHost o).free = s.free := rfl
@[simp] theorem toHost_ev (o : HostOut) : (s.toHost o).ev = s.ev := rfl
@[simp] theorem toHost_lifeX (o : HostOut) : (s.toHost o).lifeX = s.lifeX := rfl
@[simp] theorem toHost_tests (o : HostOut) : (s.toHost o).tests = s.tests := rfl
@[simp] theorem toHost_pcie (o : HostOut) : (s.toHost o).pcie = s.pcie := rfl
@[simp] theorem toHost_front (o : HostOut) : (s.toHost o).front = s.front := rfl
@[simp] theorem toHost_clasp (o : HostOut) : (s.toHost o).clasp = s.clasp := rfl
@[simp] theorem toHost_casket (o : HostOut) : (s.toHost o).casket = s.casket := rfl
@[simp] theorem toHost_cores (o : HostOut) : (s.toHost o).cores = s.cores := rfl
@[simp] theorem toHost_links (o : HostOut) : (s.toHost o).links = s.links := rfl
@[simp] theorem toHost_power (o : HostOut) : (s.toHost o).power = s.power := rfl
@[simp] theorem toHost_setup (o : HostOut) : (s.toHost o).setup = s.setup := rfl
@[simp] theorem toHost_locket (o : HostOut) : (s.toHost o).locket = s.locket := rfl
@[simp] theorem toHost_migration (o : HostOut) : (s.toHost o).migration = s.migration := rfl
@[simp] theorem toHost_loupe (o : HostOut) : (s.toHost o).loupe = s.loupe := rfl
@[simp] theorem toHost_chain (o : HostOut) : (s.toHost o).chain = s.chain := rfl
@[simp] theorem toHost_grad (o : HostOut) : (s.toHost o).grad = s.grad := rfl
@[simp] theorem toHost_pipe (o : HostOut) : (s.toHost o).pipe = s.pipe := rfl
@[simp] theorem toHost_fmt (o : HostOut) : (s.toHost o).fmt = s.fmt := rfl
@[simp] theorem toHost_health (o : HostOut) : (s.toHost o).health = s.health := rfl
@[simp] theorem toHost_charm (o : HostOut) : (s.toHost o).charm = s.charm := rfl
@[simp] theorem toHost_pending (o : HostOut) : (s.toHost o).pending = s.pending := rfl

/-! ### setCore -/

@[simp] theorem setCore_regs (n : Nat) (c : CoreX) : (s.setCore n c).regs = s.regs := rfl
@[simp] theorem setCore_pairs (n : Nat) (c : CoreX) : (s.setCore n c).pairs = s.pairs := rfl
@[simp] theorem setCore_shadows (n : Nat) (c : CoreX) : (s.setCore n c).shadows = s.shadows := rfl
@[simp] theorem setCore_buffers (n : Nat) (c : CoreX) : (s.setCore n c).buffers = s.buffers := rfl
@[simp] theorem setCore_mem (n : Nat) (c : CoreX) : (s.setCore n c).mem = s.mem := rfl
@[simp] theorem setCore_poison (n : Nat) (c : CoreX) : (s.setCore n c).poison = s.poison := rfl
@[simp] theorem setCore_flash (n : Nat) (c : CoreX) : (s.setCore n c).flash = s.flash := rfl
@[simp] theorem setCore_free (n : Nat) (c : CoreX) : (s.setCore n c).free = s.free := rfl
@[simp] theorem setCore_ev (n : Nat) (c : CoreX) : (s.setCore n c).ev = s.ev := rfl
@[simp] theorem setCore_lifeX (n : Nat) (c : CoreX) : (s.setCore n c).lifeX = s.lifeX := rfl
@[simp] theorem setCore_tests (n : Nat) (c : CoreX) : (s.setCore n c).tests = s.tests := rfl
@[simp] theorem setCore_pcie (n : Nat) (c : CoreX) : (s.setCore n c).pcie = s.pcie := rfl
@[simp] theorem setCore_hostOut (n : Nat) (c : CoreX) : (s.setCore n c).hostOut = s.hostOut := rfl
@[simp] theorem setCore_front (n : Nat) (c : CoreX) : (s.setCore n c).front = s.front := rfl
@[simp] theorem setCore_clasp (n : Nat) (c : CoreX) : (s.setCore n c).clasp = s.clasp := rfl
@[simp] theorem setCore_casket (n : Nat) (c : CoreX) : (s.setCore n c).casket = s.casket := rfl
@[simp] theorem setCore_links (n : Nat) (c : CoreX) : (s.setCore n c).links = s.links := rfl
@[simp] theorem setCore_power (n : Nat) (c : CoreX) : (s.setCore n c).power = s.power := rfl
@[simp] theorem setCore_setup (n : Nat) (c : CoreX) : (s.setCore n c).setup = s.setup := rfl
@[simp] theorem setCore_locket (n : Nat) (c : CoreX) : (s.setCore n c).locket = s.locket := rfl
@[simp] theorem setCore_migration (n : Nat) (c : CoreX) : (s.setCore n c).migration = s.migration := rfl
@[simp] theorem setCore_loupe (n : Nat) (c : CoreX) : (s.setCore n c).loupe = s.loupe := rfl
@[simp] theorem setCore_chain (n : Nat) (c : CoreX) : (s.setCore n c).chain = s.chain := rfl
@[simp] theorem setCore_grad (n : Nat) (c : CoreX) : (s.setCore n c).grad = s.grad := rfl
@[simp] theorem setCore_pipe (n : Nat) (c : CoreX) : (s.setCore n c).pipe = s.pipe := rfl
@[simp] theorem setCore_fmt (n : Nat) (c : CoreX) : (s.setCore n c).fmt = s.fmt := rfl
@[simp] theorem setCore_health (n : Nat) (c : CoreX) : (s.setCore n c).health = s.health := rfl
@[simp] theorem setCore_charm (n : Nat) (c : CoreX) : (s.setCore n c).charm = s.charm := rfl
@[simp] theorem setCore_pending (n : Nat) (c : CoreX) : (s.setCore n c).pending = s.pending := rfl

/-! ### setLink -/

@[simp] theorem setLink_regs (p : Nat) (x : LinkX) : (s.setLink p x).regs = s.regs := rfl
@[simp] theorem setLink_pairs (p : Nat) (x : LinkX) : (s.setLink p x).pairs = s.pairs := rfl
@[simp] theorem setLink_shadows (p : Nat) (x : LinkX) : (s.setLink p x).shadows = s.shadows := rfl
@[simp] theorem setLink_buffers (p : Nat) (x : LinkX) : (s.setLink p x).buffers = s.buffers := rfl
@[simp] theorem setLink_mem (p : Nat) (x : LinkX) : (s.setLink p x).mem = s.mem := rfl
@[simp] theorem setLink_poison (p : Nat) (x : LinkX) : (s.setLink p x).poison = s.poison := rfl
@[simp] theorem setLink_flash (p : Nat) (x : LinkX) : (s.setLink p x).flash = s.flash := rfl
@[simp] theorem setLink_free (p : Nat) (x : LinkX) : (s.setLink p x).free = s.free := rfl
@[simp] theorem setLink_ev (p : Nat) (x : LinkX) : (s.setLink p x).ev = s.ev := rfl
@[simp] theorem setLink_lifeX (p : Nat) (x : LinkX) : (s.setLink p x).lifeX = s.lifeX := rfl
@[simp] theorem setLink_tests (p : Nat) (x : LinkX) : (s.setLink p x).tests = s.tests := rfl
@[simp] theorem setLink_pcie (p : Nat) (x : LinkX) : (s.setLink p x).pcie = s.pcie := rfl
@[simp] theorem setLink_hostOut (p : Nat) (x : LinkX) : (s.setLink p x).hostOut = s.hostOut := rfl
@[simp] theorem setLink_front (p : Nat) (x : LinkX) : (s.setLink p x).front = s.front := rfl
@[simp] theorem setLink_clasp (p : Nat) (x : LinkX) : (s.setLink p x).clasp = s.clasp := rfl
@[simp] theorem setLink_casket (p : Nat) (x : LinkX) : (s.setLink p x).casket = s.casket := rfl
@[simp] theorem setLink_cores (p : Nat) (x : LinkX) : (s.setLink p x).cores = s.cores := rfl
@[simp] theorem setLink_power (p : Nat) (x : LinkX) : (s.setLink p x).power = s.power := rfl
@[simp] theorem setLink_setup (p : Nat) (x : LinkX) : (s.setLink p x).setup = s.setup := rfl
@[simp] theorem setLink_locket (p : Nat) (x : LinkX) : (s.setLink p x).locket = s.locket := rfl
@[simp] theorem setLink_migration (p : Nat) (x : LinkX) : (s.setLink p x).migration = s.migration := rfl
@[simp] theorem setLink_loupe (p : Nat) (x : LinkX) : (s.setLink p x).loupe = s.loupe := rfl
@[simp] theorem setLink_chain (p : Nat) (x : LinkX) : (s.setLink p x).chain = s.chain := rfl
@[simp] theorem setLink_grad (p : Nat) (x : LinkX) : (s.setLink p x).grad = s.grad := rfl
@[simp] theorem setLink_pipe (p : Nat) (x : LinkX) : (s.setLink p x).pipe = s.pipe := rfl
@[simp] theorem setLink_fmt (p : Nat) (x : LinkX) : (s.setLink p x).fmt = s.fmt := rfl
@[simp] theorem setLink_health (p : Nat) (x : LinkX) : (s.setLink p x).health = s.health := rfl
@[simp] theorem setLink_charm (p : Nat) (x : LinkX) : (s.setLink p x).charm = s.charm := rfl
@[simp] theorem setLink_pending (p : Nat) (x : LinkX) : (s.setLink p x).pending = s.pending := rfl

/-! ### setTasks -/

@[simp] theorem setTasks_regs (l : List Task) : (s.setTasks l).regs = s.regs := rfl
@[simp] theorem setTasks_pairs (l : List Task) : (s.setTasks l).pairs = s.pairs := rfl
@[simp] theorem setTasks_shadows (l : List Task) : (s.setTasks l).shadows = s.shadows := rfl
@[simp] theorem setTasks_buffers (l : List Task) : (s.setTasks l).buffers = s.buffers := rfl
@[simp] theorem setTasks_mem (l : List Task) : (s.setTasks l).mem = s.mem := rfl
@[simp] theorem setTasks_poison (l : List Task) : (s.setTasks l).poison = s.poison := rfl
@[simp] theorem setTasks_flash (l : List Task) : (s.setTasks l).flash = s.flash := rfl
@[simp] theorem setTasks_free (l : List Task) : (s.setTasks l).free = s.free := rfl
@[simp] theorem setTasks_ev (l : List Task) : (s.setTasks l).ev = s.ev := rfl
@[simp] theorem setTasks_lifeX (l : List Task) : (s.setTasks l).lifeX = s.lifeX := rfl
@[simp] theorem setTasks_tests (l : List Task) : (s.setTasks l).tests = s.tests := rfl
@[simp] theorem setTasks_pcie (l : List Task) : (s.setTasks l).pcie = s.pcie := rfl
@[simp] theorem setTasks_hostOut (l : List Task) : (s.setTasks l).hostOut = s.hostOut := rfl
@[simp] theorem setTasks_clasp (l : List Task) : (s.setTasks l).clasp = s.clasp := rfl
@[simp] theorem setTasks_casket (l : List Task) : (s.setTasks l).casket = s.casket := rfl
@[simp] theorem setTasks_cores (l : List Task) : (s.setTasks l).cores = s.cores := rfl
@[simp] theorem setTasks_links (l : List Task) : (s.setTasks l).links = s.links := rfl
@[simp] theorem setTasks_power (l : List Task) : (s.setTasks l).power = s.power := rfl
@[simp] theorem setTasks_setup (l : List Task) : (s.setTasks l).setup = s.setup := rfl
@[simp] theorem setTasks_locket (l : List Task) : (s.setTasks l).locket = s.locket := rfl
@[simp] theorem setTasks_migration (l : List Task) : (s.setTasks l).migration = s.migration := rfl
@[simp] theorem setTasks_loupe (l : List Task) : (s.setTasks l).loupe = s.loupe := rfl
@[simp] theorem setTasks_chain (l : List Task) : (s.setTasks l).chain = s.chain := rfl
@[simp] theorem setTasks_grad (l : List Task) : (s.setTasks l).grad = s.grad := rfl
@[simp] theorem setTasks_pipe (l : List Task) : (s.setTasks l).pipe = s.pipe := rfl
@[simp] theorem setTasks_fmt (l : List Task) : (s.setTasks l).fmt = s.fmt := rfl
@[simp] theorem setTasks_health (l : List Task) : (s.setTasks l).health = s.health := rfl
@[simp] theorem setTasks_charm (l : List Task) : (s.setTasks l).charm = s.charm := rfl
@[simp] theorem setTasks_pending (l : List Task) : (s.setTasks l).pending = s.pending := rfl

/-! ### setLaunches -/

@[simp] theorem setLaunches_regs (l : List Launch) : (s.setLaunches l).regs = s.regs := rfl
@[simp] theorem setLaunches_pairs (l : List Launch) : (s.setLaunches l).pairs = s.pairs := rfl
@[simp] theorem setLaunches_shadows (l : List Launch) : (s.setLaunches l).shadows = s.shadows := rfl
@[simp] theorem setLaunches_buffers (l : List Launch) : (s.setLaunches l).buffers = s.buffers := rfl
@[simp] theorem setLaunches_mem (l : List Launch) : (s.setLaunches l).mem = s.mem := rfl
@[simp] theorem setLaunches_poison (l : List Launch) : (s.setLaunches l).poison = s.poison := rfl
@[simp] theorem setLaunches_flash (l : List Launch) : (s.setLaunches l).flash = s.flash := rfl
@[simp] theorem setLaunches_free (l : List Launch) : (s.setLaunches l).free = s.free := rfl
@[simp] theorem setLaunches_ev (l : List Launch) : (s.setLaunches l).ev = s.ev := rfl
@[simp] theorem setLaunches_lifeX (l : List Launch) : (s.setLaunches l).lifeX = s.lifeX := rfl
@[simp] theorem setLaunches_tests (l : List Launch) : (s.setLaunches l).tests = s.tests := rfl
@[simp] theorem setLaunches_pcie (l : List Launch) : (s.setLaunches l).pcie = s.pcie := rfl
@[simp] theorem setLaunches_hostOut (l : List Launch) : (s.setLaunches l).hostOut = s.hostOut := rfl
@[simp] theorem setLaunches_clasp (l : List Launch) : (s.setLaunches l).clasp = s.clasp := rfl
@[simp] theorem setLaunches_casket (l : List Launch) : (s.setLaunches l).casket = s.casket := rfl
@[simp] theorem setLaunches_cores (l : List Launch) : (s.setLaunches l).cores = s.cores := rfl
@[simp] theorem setLaunches_links (l : List Launch) : (s.setLaunches l).links = s.links := rfl
@[simp] theorem setLaunches_power (l : List Launch) : (s.setLaunches l).power = s.power := rfl
@[simp] theorem setLaunches_setup (l : List Launch) : (s.setLaunches l).setup = s.setup := rfl
@[simp] theorem setLaunches_locket (l : List Launch) : (s.setLaunches l).locket = s.locket := rfl
@[simp] theorem setLaunches_migration (l : List Launch) : (s.setLaunches l).migration = s.migration := rfl
@[simp] theorem setLaunches_loupe (l : List Launch) : (s.setLaunches l).loupe = s.loupe := rfl
@[simp] theorem setLaunches_chain (l : List Launch) : (s.setLaunches l).chain = s.chain := rfl
@[simp] theorem setLaunches_grad (l : List Launch) : (s.setLaunches l).grad = s.grad := rfl
@[simp] theorem setLaunches_pipe (l : List Launch) : (s.setLaunches l).pipe = s.pipe := rfl
@[simp] theorem setLaunches_fmt (l : List Launch) : (s.setLaunches l).fmt = s.fmt := rfl
@[simp] theorem setLaunches_health (l : List Launch) : (s.setLaunches l).health = s.health := rfl
@[simp] theorem setLaunches_charm (l : List Launch) : (s.setLaunches l).charm = s.charm := rfl
@[simp] theorem setLaunches_pending (l : List Launch) : (s.setLaunches l).pending = s.pending := rfl

end Sys2Proof.Laws
end

