-- ==== Sys2Proof/Safety.lean ====
section
/-! DEFINITION. What counts as a safe outcome, the standing shape of a state's sparse data, and what an event record may touch. -/

namespace Sys2Proof.Machine

/-- The outcome is a next state: the module neither faults nor refuses. -/
def Answers (o : Host.Outcome State Fault Refusal) : Prop := ∃ t, o = .next t

/-- What an unlisted poison tag reads as. -/
def poisonReset : Nat → Bool := fun _ => false

/-- The sparse data of a state stands in canonical form: registers, pairs, module memory, its poison tags, the configuration flash. -/
structure State.Canonical (s : State) : Prop where
  regs : SMap.wf regReset s.regs = true
  pairs : SMap.wf pairReset s.pairs = true
  mem : Memory.wf s.mem = true
  poison : SMap.wf poisonReset s.poison = true
  flash : SMap.wf flashErased s.flash = true

/-- The registers that an event record or an interrupt message may write of itself (R388, R434 to R441): the EVENT block below its window, the lifetime
image's count of records, the two pending words of the MSI-X table. -/
def bookkeeping (x : Nat) : Bool :=
  (decide (0x01400000 ≤ x) && decide (x < 0x01401000)) || x == 0x01495440 || x == 0x00102000 || x == 0x00102004

/-- t differs from s only by records of events and messages to the host. -/
structure Recorded (s t : State) : Prop where
  rd : ∀ x, bookkeeping x = false → t.rd x = s.rd x
  rest : { t with regs := s.regs, ev := s.ev, free := s.free, hostOut := s.hostOut } = s
  out : s.hostOut <+: t.hostOut

/-- t differs from s only in the registers at the offsets of L. -/
structure OnlyRegs (L : List Nat) (s t : State) : Prop where
  rd : ∀ x, x ∉ L → t.rd x = s.rd x
  rest : { t with regs := s.regs } = s

/-- t differs from s only in the registers at the offsets of L, by records of events and by messages to the host. -/
structure RegsAndRecords (L : List Nat) (s t : State) : Prop where
  rd : ∀ x, x ∉ L → bookkeeping x = false → t.rd x = s.rd x
  rest : { t with regs := s.regs, ev := s.ev, free := s.free, hostOut := s.hostOut } = s
  out : s.hostOut <+: t.hostOut

/-- The registers that going on, ending and faulting a task write of themselves (R151, R154, R183, R287, R300): the front end's block, the Casket's shares and error
bits, the code tables' references, of a core's slot all but its handle table, and the record-keeping ones. -/
def taskRegister (x : Nat) : Bool :=
  bookkeeping x || (decide (0x200000 ≤ x) && decide (x < 0x400000)) || (decide (0x400000 ≤ x) && decide (x < 0x410000)) ||
    x == 0x60001C || x == 0x600020 || (decide (0x02000000 ≤ x) && !(decide (0x200 ≤ x % 0x8000) && decide (x % 0x8000 < 0xA00)))

/-- t differs from s only by what a task's going on, ending or faulting touches. -/
structure TaskFrame (s t : State) : Prop where
  rd : ∀ x, taskRegister x = false → t.rd x = s.rd x
  rest : { t with regs := s.regs, ev := s.ev, free := s.free, hostOut := s.hostOut, front := s.front, casket := s.casket, cores := s.cores,
                  grad := s.grad, charm := s.charm } = s
  queues : t.casket.queues = s.casket.queues
  out : s.hostOut <+: t.hostOut

/-- Logical core m, on physical core n, issues descriptor d now: no task of it, or one that stands there (R286), and no earlier descriptor marked DEP still runs (R138, R179). -/
structure State.AtIssue (s : State) (m n : Nat) (d : BitVec 256) : Prop where
  phys : s.physOf m = some n
  dep : s.depPending n = false
  issue : s.issues m d = true

/-- The stream engine of logical core m, on physical core n, starts the descriptor d that lies k beyond the one its task t stands at (R179). -/
structure State.Ahead (s : State) (m n : Nat) (t : Task) (k : Nat) (d : BitVec 256) : Prop where
  phys : s.physOf m = some n
  dep : s.depPending n = false
  beyond : 0 < k
  task : s.curTask m = some t
  may : s.mayRunAhead n t k d = true

/-- The STREAM commands, with the place k of their descriptor beyond the issue point. -/
def streamCommands : List (Nat → BitVec 256 → Nat → Upset → Instr) :=
  [fun m d k _ => .hset m d k, fun m d k _ => .hclose m d k, fun m d k _ => .waitArr m d k, fun m d k _ => .fill m d k,
   fun m d k u => .copy m d u k, fun m d k u => .run m d k u]

/-- An address of the stripes of dynamic Casket space or of the Charm contexts (R187). -/
def inStripes (a : Nat) : Bool := decide (0x020000000000 ≤ a) && decide (a < 0x020100000000)

/-- A request of stream i by owner o for what n bytes take is granted now, in stripes of the Casket; or no Setting has given the stream stripes (R190). -/
def State.StagesNow (s : State) (i : Nat) (o : Owner) (n : Nat) : Prop :=
  n = 0 ∨ s.rf (F.CASKET_SLOT_STRIPES i) = 0 ∨
    ∃ a, (s.request i (min (ceilDiv n 512) (s.rf (F.CASKET_SLOT_STRIPES i))) o).1 = .granted a ∧
      stripeAddr a + 512 * s.rf (F.CASKET_SLOT_STRIPES i) ≤ 0x020100000000

/-- A host access of n bytes at module address a reaches memory from b up now (R164, R188, R379): the module is ready, no access waits, every byte is memory, the banks
serve it, the HOST stream has stripes. -/
structure State.HostReady (s : State) (read : Bool) (a b n : Nat) : Prop where
  up : s.power.failing = false
  ready : s.flag F.HOSTIF_STATUS_MODULE_READY = true
  first : s.pcie.held = []
  bytes : 0 < n
  place : ∀ i < n, s.hostPlace (a + i) = .memory (b + i)
  banks : ∀ c o, s.coreAt b = some (c, o) → (s.touch c o n read).2 = true
  stripes : s.StagesNow 11 ⟨.host, 0⟩ n

/-- The words of word queue q, oldest first (R198): the head, the middle stripes in the order of their filling, the tail. -/
def State.queueWords (s : State) (q : Nat) : List QWord :=
  let x := s.queue q
  x.head ++ (List.range x.filled).flatMap (fun k => s.spillWords (s.spillAt q (x.first + k))) ++ x.tail

/-- A byte outside the stripes of the spill region that queue q uses in turn (R198). -/
def State.outsideQueue (s : State) (q a : Nat) : Prop :=
  ∀ k < s.rf (F.CASKET_QCFG_MID q), a < s.spillAt q k ∨ s.spillAt q k + 512 ≤ a

/-- A control message taken from the link's hands and counted (R363, R364). -/
def State.received (s : State) (p : Nat) (m : List Byte) : State := (s.takeUnit p 0 m).bump (F.LINK_CNT_COUNT p 12) 1

/-- The VECTOR commands with their OP codes (R145, R147, R148). -/
def vecCommands : List (Nat × (Nat → BitVec 256 → Upset → Instr)) :=
  [(0x00, .vecCopy), (0x01, .vecAdd), (0x02, .vecSub), (0x03, .vecMul), (0x04, .vecFma), (0x05, .vecMax), (0x06, .vecMin), (0x07, .vecAbs),
   (0x08, .vecNeg), (0x09, .vecSelect), (0x0A, .vecCmpgt), (0x10, .vecRcp), (0x11, .vecSqrt), (0x12, .vecRsqrt), (0x13, .vecExp2)] ++
  [(0x14, .vecLog2), (0x15, .vecExp), (0x16, .vecLn), (0x17, .vecTanh), (0x18, .vecSigmoid), (0x19, .vecSilu), (0x1A, .vecGelu), (0x1B, .vecSin),
   (0x1C, .vecCos), (0x1D, .vecExpsub), (0x20, .vecRsum), (0x21, .vecRsumsq), (0x22, .vecRmax), (0x23, .vecRmin), (0x30, .dropout), (0x31, .uniform)]

/-- The buffers of two handles of a core share no byte. -/
def State.apart (s : State) (n h k : Nat) : Prop := s.hStart n h + s.hBytes n h ≤ s.hStart n k ∨ s.hStart n k + s.hBytes n k ≤ s.hStart n h

/-- The registers that an arithmetic descriptor on a core may write of itself: the core's own block, the format block, the record-keeping ones. -/
def mathRegister (n x : Nat) : Bool :=
  bookkeeping x || (decide (0x01800000 ≤ x) && decide (x < 0x02000000)) || (decide (slotBase n ≤ x) && decide (x < slotBase n + 0x100))

/-- t differs from s only in module memory below the poison tags, in managed entries' windows, in the registers of `mathRegister` and by records. -/
structure MathFrame (n : Nat) (s t : State) : Prop where
  rd : ∀ x, mathRegister n x = false → t.rd x = s.rd x
  rest : { t with regs := s.regs, ev := s.ev, free := s.free, hostOut := s.hostOut, mem := s.mem, poison := s.poison, fmt := s.fmt, cores := s.cores } = s
  out : s.hostOut <+: t.hostOut

/-- The codes a run of FP32 results is stored as from element i0 on (R94 to R99), and the scale records of its blocks. -/
def State.runCodes (s : State) (n : Nat) (d : Dest) (i0 : Nat) (ws : List Word) : List Nat × List Nat :=
  let r := convertRun d.f (convSat d.conv) (fun j => s.rndAt d.conv d.tensor (s.hCbase n d.h + i0 + j)) ws.length 0 (ws.map (toDest d))
  (r.2.1, r.1)

/-- The buffer of d's handle holds those codes from element i0 on, and those records. -/
def State.holdsRun (s : State) (n : Nat) (d : Dest) (i0 : Nat) (r : List Nat × List Nat) : Prop :=
  (∀ j c, r.1[j]? = some c → codeAt (s.hGet n d.h) d.f (i0 + j) = c) ∧
  ∀ j c, r.2[j]? = some c → s.rle (s.hAddr n d.h (scaleOff d.f d.tot + (i0 / blockLen d.f + j) * recBytes d.f)) (recBytes d.f) = c

end Sys2Proof.Machine
end

