-- ==== Sys2Proof/Laws/Ops.lean ====
section
/-! SUPPORT. What the named operations do: a read after a write, of registers, fields, memory and flash. -/

namespace Sys2Proof.Laws

open Sys2Proof.Machine

variable (s : State)

/-! ### Registers -/

theorem rd_wr_same (x : Nat) (v : Word) : (s.wr x v).rd x = v := SMap_get_set_same _ _ _ _

theorem rd_wr_other (x y : Nat) (v : Word) (h : y ≠ x) : (s.wr x v).rd y = s.rd y := SMap_get_set_other _ _ _ _ _ h

theorem rd_wf_other (f : Fld) (v y : Nat) (h : y ≠ f.off) : (s.wf f v).rd y = s.rd y := rd_wr_other s _ _ _ h

theorem rf_wf_same (f : Fld) (v : Nat) (h : f.lo + f.width ≤ 32) : (s.wf f v).rf f = v % 2 ^ f.width := by
  unfold State.rf State.wf
  rw [rd_wr_same, BitVec.toNat_ofNat, Nat.mod_eq_of_lt, bits_insertBits_same]
  exact insertBits_lt _ _ _ _ 32 (s.rd f.off).isLt h

theorem rf_wf_off (f g : Fld) (v : Nat) (h : g.off ≠ f.off) : (s.wf f v).rf g = s.rf g := by
  unfold State.rf
  rw [rd_wf_other _ _ _ _ h]

theorem rf_wf_bits (f g : Fld) (v : Nat) (hf : f.lo + f.width ≤ 32) (h : g.lo + g.width ≤ f.lo ∨ f.lo + f.width ≤ g.lo) :
    (s.wf f v).rf g = s.rf g := by
  by_cases e : g.off = f.off
  · unfold State.rf State.wf
    rw [e, rd_wr_same, BitVec.toNat_ofNat, Nat.mod_eq_of_lt, bits_insertBits_other _ _ _ _ _ _ h]
    exact insertBits_lt _ _ _ _ 32 (s.rd f.off).isLt hf
  · exact rf_wf_off s f g v e

theorem rf_lt (f : Fld) : s.rf f < 2 ^ f.width := bits_lt _ _ _

/-! ### Memory -/

theorem rb_wb_same (a : Nat) (v : Byte) : (s.wb a v).rb a = v := SMap_get_set_same _ _ _ _

theorem rb_wb_other (a b : Nat) (v : Byte) (h : b ≠ a) : (s.wb a v).rb b = s.rb b := SMap_get_set_other _ _ _ _ _ h

/-- A run of bytes written at an address: inside it a byte reads as written, outside as before. -/
theorem rb_wbs (a : Nat) (l : List Byte) (x : Nat) : (s.wbs a l).rb x = (if a ≤ x then l[x - a]? else none).getD (s.rb x) :=
  SMap_get_setMany memReset l s.mem a x

theorem rb_store_in (a : Nat) (l : List Byte) (i : Nat) (h : i < l.length) : (s.store a l).rb (a + i) = l[i] := by
  rw [show (s.store a l).rb (a + i) = (s.wbs a l).rb (a + i) from rfl, rb_wbs, if_pos (by omega), Nat.add_sub_cancel_left, List.getElem?_eq_getElem h,
    Option.getD_some]

theorem rb_store_out (a : Nat) (l : List Byte) (x : Nat) (h : x < a ∨ a + l.length ≤ x) : (s.store a l).rb x = s.rb x := by
  rw [show (s.store a l).rb x = (s.wbs a l).rb x from rfl, rb_wbs]
  split
  · rw [List.getElem?_eq_none (by omega), Option.getD_none]
  · rfl

@[simp] theorem length_rbs (a n : Nat) : (s.rbs a n).length = n := by simp [State.rbs]

theorem rbs_store_same (a : Nat) (l : List Byte) : (s.store a l).rbs a l.length = l := by
  apply List.ext_getElem (by simp)
  intro i h _
  simp only [State.rbs, List.getElem_map, List.getElem_range]
  exact rb_store_in s a l i (by simpa using h)

theorem rbs_store_out (a : Nat) (l : List Byte) (b n : Nat) (h : b + n ≤ a ∨ a + l.length ≤ b) : (s.store a l).rbs b n = s.rbs b n := by
  apply List.ext_getElem (by simp)
  intro i hi _
  simp only [State.rbs, List.getElem_map, List.getElem_range]
  exact rb_store_out s a l _ (by simp at hi; omega)

theorem rbs_add (a m n : Nat) : s.rbs a (m + n) = s.rbs a m ++ s.rbs (a + m) n := by
  simp [State.rbs, List.range_add, Nat.add_assoc]

/-- Every operation on memory keeps its canonical form: writing a byte or a run, dropping what a filter picks. -/
theorem wf_wb (a : Nat) (v : Byte) (h : Memory.wf s.mem = true) : Memory.wf (s.wb a v).mem = true := SMap_wf_set _ _ _ _ h

theorem wf_wbs (a : Nat) (l : List Byte) (h : Memory.wf s.mem = true) : Memory.wf (s.wbs a l).mem = true := SMap_wf_setMany _ _ _ _ h

theorem wf_store (a : Nat) (l : List Byte) (h : Memory.wf s.mem = true) : Memory.wf (s.store a l).mem = true := wf_wbs s a l h

theorem wf_zeroBank (n b : Nat) (h : Memory.wf s.mem = true) : Memory.wf (s.zeroBank n b).mem = true := SMap_wf_filter _ _ _ h

theorem wf_wipe (a b : Nat) (h : Memory.wf s.mem = true) : Memory.wf (s.wipe a b).mem = true := SMap_wf_dropRange _ _ _ _ h

/-! ### Numbers as bytes -/

@[simp] theorem length_natLe (n k : Nat) : (natLe n k).length = k := by
  induction k generalizing n with
  | zero => rfl
  | succ k ih => simp [natLe, ih]

theorem leNat_natLe (n k : Nat) : leNat (natLe n k) = n % 256 ^ k := by
  induction k generalizing n with
  | zero => simp [natLe, leNat, Nat.mod_one]
  | succ k ih =>
    rw [natLe, leNat, ih, Nat.pow_succ, Nat.mul_comm (256 ^ k) 256, Nat.mod_mul, BitVec.toNat_ofNat]

/-- A number stored little-endian reads back. -/
theorem rle_store (a n k : Nat) : (s.store a (natLe n k)).rle a k = n % 256 ^ k := by
  have h := rbs_store_same s a (natLe n k)
  rw [length_natLe] at h
  rw [State.rle, h, leNat_natLe]

end Sys2Proof.Laws
end

