-- ==== Sys2Proof/Laws/Events.lean ====
section
/-! SUPPORT. What recording an event, raising an error bit and sending an interrupt message touch. -/

namespace Sys2Proof.Machine

open Sys2Proof.Laws

theorem Recorded.refl (s : State) : Recorded s s := ⟨fun _ _ => rfl, rfl, List.prefix_rfl⟩

theorem Recorded.trans {s t u : State} (h : Recorded s t) (k : Recorded t u) : Recorded s u := by
  refine ⟨fun x hx => (k.rd x hx).trans (h.rd x hx), ?_, h.out.trans k.out⟩
  have h2 := h.rest
  rw [← k.rest] at h2
  exact h2

theorem OnlyRegs.refl (L : List Nat) (s : State) : OnlyRegs L s s := ⟨fun _ _ => rfl, rfl⟩

theorem OnlyRegs.trans {L : List Nat} {s t u : State} (h : OnlyRegs L s t) (k : OnlyRegs L t u) : OnlyRegs L s u := by
  refine ⟨fun x hx => (k.rd x hx).trans (h.rd x hx), ?_⟩
  have h2 := h.rest
  rw [← k.rest] at h2
  exact h2

theorem RegsAndRecords.refl (L : List Nat) (s : State) : RegsAndRecords L s s := ⟨fun _ _ _ => rfl, rfl, List.prefix_rfl⟩

theorem RegsAndRecords.trans {L : List Nat} {s t u : State} (h : RegsAndRecords L s t) (k : RegsAndRecords L t u) : RegsAndRecords L s u := by
  refine ⟨fun x hx hb => (k.rd x hx hb).trans (h.rd x hx hb), ?_, h.out.trans k.out⟩
  have h2 := h.rest
  rw [← k.rest] at h2
  exact h2

theorem Recorded.and {s t : State} (h : Recorded s t) (L : List Nat) : RegsAndRecords L s t := ⟨fun x _ hb => h.rd x hb, h.rest, h.out⟩

theorem OnlyRegs.and {L : List Nat} {s t : State} (h : OnlyRegs L s t) : RegsAndRecords L s t := by
  have h2 := h.rest
  have e : s = { t with regs := s.regs } := h2.symm
  refine ⟨fun x hx _ => h.rd x hx, ?_, ?_⟩
  · rw [e]
  · have h3 : s.hostOut = t.hostOut := by rw [e]
    exact ⟨[], by simp [h3]⟩

end Sys2Proof.Machine

namespace Sys2Proof.Laws

open Sys2Proof.Machine

theorem recorded_wf {s : State} (f : Fld) (v : Nat) (h : bookkeeping f.off = true) : Recorded s (s.wf f v) := by
  refine ⟨fun x hx => rd_wf_other s f v x ?_, rfl, List.prefix_rfl⟩
  intro e
  rw [e, h] at hx
  exact absurd hx (by decide)

theorem recorded_ev {s : State} (e : Ev) (n : Nat) : Recorded s { s with ev := e, free := n } := ⟨fun _ _ => rfl, rfl, List.prefix_rfl⟩

theorem recorded_toHost {s : State} (o : HostOut) : Recorded s (s.toHost o) := ⟨fun _ _ => rfl, rfl, List.prefix_append _ _⟩

theorem recorded_ite {s t u : State} {c : Prop} [Decidable c] (h : Recorded s t) (k : Recorded s u) : Recorded s (if c then t else u) := by
  split <;> assumption

theorem bookkeeping_pba (v : Nat) (h : v < 64) : bookkeeping (pbaField v).off = true := by
  have h2 : v / 32 < 2 := by omega
  simp only [pbaField, F.HOSTIF_MSIX_PBA_PENDING]
  generalize v / 32 = k at h2
  match k, h2 with
  | 0, _ => decide
  | 1, _ => decide

theorem recorded_msix (s : State) (v : Nat) (h : v < 64) : Recorded s (s.msix v) := by
  unfold State.msix
  exact recorded_ite (recorded_wf _ _ (bookkeeping_pba v h)) (recorded_toHost _)

theorem recorded_raise (s : State) (f : Fld) : Recorded (s.wf f 1) (s.raise f) := by
  unfold State.raise
  exact recorded_ite (Recorded.refl _) (recorded_msix _ _ (rf_lt _ _))

theorem recorded_raise_of (s : State) (f : Fld) (h : bookkeeping f.off = true) : Recorded s (s.raise f) :=
  (recorded_wf f 1 h).trans (recorded_raise s f)

theorem recorded_bump {s : State} (f : Fld) (n : Nat) (h : bookkeeping f.off = true) : Recorded s (s.bump f n) := recorded_wf f _ h

theorem recorded_evLost (s : State) : Recorded s s.evLost :=
  ((recorded_ev (s := s) _ _).trans (recorded_bump _ _ (by decide))).trans (recorded_raise_of _ _ (by decide))

theorem recorded_startFlush (s : State) : Recorded s s.startFlush :=
  (recorded_ev (s := s) _ _).trans (recorded_wf _ _ (by decide))

theorem recorded_evAppend (s : State) (code src p0 p1 p2 p3 : Nat) : Recorded s (s.evAppend code src p0 p1 p2 p3) := by
  have h : Recorded s (State.life ((({ s with free := s.free + 1, ev := { s.ev with
      buf := s.ev.buf ++ [⟨BitVec.ofNat 16 code, BitVec.ofNat 16 src, BitVec.ofNat 32 (s.rf F.EVENT_SEQ_SEQ), s.timeField,
        BitVec.ofNat 32 p0, BitVec.ofNat 32 p1, BitVec.ofNat 32 p2, BitVec.ofNat 32 p3⟩]
      lastSeq := SMap.set (fun _ => none) s.ev.lastSeq code (some (BitVec.ofNat 32 (s.rf F.EVENT_SEQ_SEQ))) } } : State).wf
        F.EVENT_SEQ_SEQ (s.rf F.EVENT_SEQ_SEQ + 1)).wf F.EVENT_STATUS_UNFLUSHED
        (s.ev.buf ++ [(⟨BitVec.ofNat 16 code, BitVec.ofNat 16 src, BitVec.ofNat 32 (s.rf F.EVENT_SEQ_SEQ), s.timeField,
        BitVec.ofNat 32 p0, BitVec.ofNat 32 p1, BitVec.ofNat 32 p2, BitVec.ofNat 32 p3⟩ : EvRec)]).length) 0x5440 1) :=
    (((recorded_ev (s := s) _ _).trans (recorded_wf _ _ (by decide))).trans (recorded_wf _ _ (by decide))).trans
      (recorded_bump (lifeFld 0x5440) 1 (by decide))
  unfold State.evAppend
  exact recorded_ite (h.trans (recorded_startFlush _)) h

theorem recorded_evPlace (s : State) (code src p0 p1 p2 p3 : Nat) : Recorded s (s.evPlace code src p0 p1 p2 p3) := by
  unfold State.evPlace
  exact recorded_ite (recorded_evLost s) (recorded_evAppend s _ _ _ _ _ _)

theorem recorded_evNewPriv (s : State) (code src p0 p1 p2 rep now : Nat) : Recorded s (s.evNewPriv code src p0 p1 p2 rep now) := by
  unfold State.evNewPriv
  refine recorded_ite (recorded_evLost s) (Recorded.trans (Recorded.trans ?_ (recorded_ev _ _)) (recorded_evAppend _ _ _ _ _ _ _))
  exact recorded_ite ((recorded_ev (s := s) _ _).trans (recorded_evLost _)) (Recorded.refl s)

theorem recorded_evPrivileged (s : State) (code src p0 p1 p2 : Nat) : Recorded s (s.evPrivileged code src p0 p1 p2) := by
  unfold State.evPrivileged
  extract_lets now
  split
  · exact recorded_ite (recorded_ev _ _) (recorded_evNewPriv _ _ _ _ _ _ _ _)
  · exact recorded_evNewPriv _ _ _ _ _ _ _ _

/-- An event record touches the bookkeeping of events and messages alone. -/
theorem recorded_event (s : State) (code src p0 p1 p2 p3 : Nat) : Recorded s (s.event code src p0 p1 p2 p3) := by
  unfold State.event
  refine recorded_ite (recorded_evPrivileged s _ _ _ _ _) (recorded_ite (recorded_evPlace s _ _ _ _ _ _) ?_)
  exact recorded_ite ((recorded_ev (s := s) _ _).trans (recorded_bump _ _ (by decide)))
    ((recorded_ev (s := s) _ _).trans (recorded_evPlace _ _ _ _ _ _ _))

/-! ### Reads past a record -/

theorem rf_of_recorded {s t : State} (h : Recorded s t) (f : Fld) (hf : bookkeeping f.off = false) : t.rf f = s.rf f := by
  unfold State.rf
  rw [h.rd _ hf]

theorem rf_event (s : State) (code src p0 p1 p2 p3 : Nat) (f : Fld) (hf : bookkeeping f.off = false) :
    (s.event code src p0 p1 p2 p3).rf f = s.rf f := rf_of_recorded (recorded_event s _ _ _ _ _ _) f hf

theorem rf_raise (s : State) (g f : Fld) (hf : bookkeeping f.off = false) : (s.raise g).rf f = (s.wf g 1).rf f :=
  rf_of_recorded (recorded_raise s g) f hf

theorem rf_raise_self (s : State) (f : Fld) (hf : bookkeeping f.off = false) (hw : f.lo < 32) (h1 : f.width = 1) : (s.raise f).rf f = 1 := by
  exact (rf_raise s f f hf).trans ((rf_wf_same s f 1 (by omega)).trans (by simp [h1]))

theorem rf_msix (s : State) (v : Nat) (hv : v < 64) (f : Fld) (hf : bookkeeping f.off = false) : (s.msix v).rf f = s.rf f :=
  rf_of_recorded (recorded_msix s v hv) f hf

/-! ### What a run of writes, error bits and records touches -/

theorem only_wf {L : List Nat} (s : State) (f : Fld) (v : Nat) (h : f.off ∈ L) : OnlyRegs L s (s.wf f v) :=
  ⟨fun x hx => rd_wf_other s f v x (fun e => hx (e ▸ h)), rfl⟩

theorem and_wf {L : List Nat} {s t : State} (h : RegsAndRecords L s t) (f : Fld) (v : Nat) (m : f.off ∈ L) : RegsAndRecords L s (t.wf f v) :=
  h.trans (only_wf t f v m).and

theorem and_wflag {L : List Nat} {s t : State} (h : RegsAndRecords L s t) (f : Fld) (b : Bool) (m : f.off ∈ L) : RegsAndRecords L s (t.wflag f b) :=
  and_wf h f _ m

theorem and_bump {L : List Nat} {s t : State} (h : RegsAndRecords L s t) (f : Fld) (n : Nat) (m : f.off ∈ L) : RegsAndRecords L s (t.bump f n) :=
  and_wf h f _ m

theorem and_wpair {L : List Nat} {s t : State} (h : RegsAndRecords L s t) (f g : Fld) (v : Nat) (m : f.off ∈ L) (n : g.off ∈ L) :
    RegsAndRecords L s (t.wpair f g v) := and_wf (and_wf h f _ m) g _ n

theorem and_raise {L : List Nat} {s t : State} (h : RegsAndRecords L s t) (f : Fld) (m : f.off ∈ L) : RegsAndRecords L s (t.raise f) :=
  (and_wf h f 1 m).trans ((recorded_raise t f).and L)

theorem and_event {L : List Nat} {s t : State} (h : RegsAndRecords L s t) (code src p0 p1 p2 p3 : Nat) :
    RegsAndRecords L s (t.event code src p0 p1 p2 p3) := h.trans ((recorded_event t _ _ _ _ _ _).and L)

theorem and_msix {L : List Nat} {s t : State} (h : RegsAndRecords L s t) (v : Nat) (hv : v < 64) : RegsAndRecords L s (t.msix v) :=
  h.trans ((recorded_msix t v hv).and L)

theorem only_zero {L : List Nat} (fs : List Fld) (s : State) (h : ∀ f ∈ fs, f.off ∈ L) : OnlyRegs L s (s.zero fs) := by
  unfold State.zero
  induction fs generalizing s with
  | nil => exact OnlyRegs.refl L s
  | cons f fs ih => exact (only_wf s f 0 (h f (by simp))).trans (ih (s.wf f 0) (fun g hg => h g (by simp [hg])))

/-- Zeroed fields read 0, where each lies in its word and no other field of the list shares its register but itself. -/
theorem rf_zero (fs : List Fld) (s : State) (f : Fld) (hf : f ∈ fs) (hw : f.lo + f.width ≤ 32) (hd : ∀ g ∈ fs, g.off = f.off → g = f) :
    (s.zero fs).rf f = 0 := by
  have keep : ∀ (l : List Fld) (t : State), (∀ g ∈ l, g.off = f.off → g = f) → t.rf f = 0 → (l.foldl (fun a f => a.wf f 0) t).rf f = 0 := by
    intro l
    induction l with
    | nil => intro t _ h; exact h
    | cons g l ih =>
      intro t hl h
      refine ih _ (fun g' hg' => hl g' (by simp [hg'])) ?_
      by_cases e : g.off = f.off
      · have := hl g (by simp) e
        subst this
        rw [rf_wf_same _ _ _ hw, Nat.zero_mod]
      · rw [rf_wf_off _ _ _ _ (fun h => e h.symm)]; exact h
  unfold State.zero
  induction fs generalizing s with
  | nil => simp at hf
  | cons g fs ih =>
    simp only [List.mem_cons] at hf
    rcases hf with e | hf
    · subst e
      exact keep fs _ (fun g' hg' => hd g' (by simp [hg'])) (by rw [rf_wf_same _ _ _ hw, Nat.zero_mod])
    · exact ih (s.wf g 0) hf (fun g' hg' => hd g' (by simp [hg']))

end Sys2Proof.Laws
end

