-- ==== Sys2Proof/WellFormed.lean ====
section
/-! DEFINITION. Which commands are well formed: their numbers name a port, a core, a queue, a slot that the module has. A command that is not
well formed cannot come from the module's edges; exec gives it a meaning all the same. -/

namespace Sys2Proof

/-- A Chain port: 0 west, 1 east (R1). -/
def chainPort (p : Nat) : Bool := decide (p < 2)
/-- A pipeline port: 2 up, 3 down (R60). -/
def pipePort (p : Nat) : Bool := p == 2 || p == 3
/-- Any of the four ports. -/
def anyPort (p : Nat) : Bool := decide (p < 4)
/-- A logical core (R20). -/
def logicalCore (m : Nat) : Bool := decide (m < 320)
/-- A physical core (R486). -/
def physicalCore (n : Nat) : Bool := decide (n < 384)
/-- A bank of a core store (R157). -/
def storeBank (b : Nat) : Bool := decide (b < 64)
/-- A bank of the Casket (R184, R344). -/
def casketBank (b : Nat) : Bool := decide (b < 1024)
/-- A word queue (R198). -/
def wordQueue (q : Nat) : Bool := decide (q < 2048)
/-- A queue of the host's (R277). -/
def hostQueue (q : Nat) : Bool := decide (q < 8)
/-- A stream of the allocator (R188). -/
def allocStream (i : Nat) : Bool := decide (i < 32)
/-- A micro-batch slot (R68). -/
def mbSlot (k : Nat) : Bool := decide (k < 1024)
/-- A table slot of the codec, and a word of its table (R275). -/
def codecSlot (k : Nat) : Bool := decide (k < 2)
def tableWord (w : Nat) : Bool := decide (w < 34)
/-- A watch (R314), and a Clasp (R302). -/
def watchOk (w : Nat) : Bool := decide (w < 32)
def claspOk (n : Nat) : Bool := decide (n < 65536)
/-- An MSI-X vector (R388). -/
def vectorOk (v : Nat) : Bool := decide (v < 64)
/-- A value of LOUPE.CTRL.MODE (R334). -/
def modeOk (m : Nat) : Bool := decide (m < 4)
/-- A lane of a link (R354). -/
def laneOk (l : Nat) : Bool := decide (l < 32)
/-- A control message: a header of 16 bytes at least (R363). -/
def messageOk (m : List Byte) : Bool := decide (16 ≤ m.length)
/-- An offset of BAR0: a DWORD (R5). -/
def regOffset (x : Nat) : Bool := decide (x < 0x04000000) && x % 4 == 0
/-- An I3C dynamic address (R476). -/
def i3cAddrOk (a : Nat) : Bool := decide (a < 128)
/-- A die as POWER.TEMP numbers them (R345), and as TEST.CMD does (R453). -/
def tempDie (d : Nat) : Bool := decide (d < 20)
def testDie (d : Nat) : Bool := decide (d < 32)
/-- A kind of TEST.CMD, in two bits (R453). -/
def testKind (k : Nat) : Bool := decide (k < 4)
/-- An LPDDR5X channel, and a rank of it (R344). -/
def lpddrChannel (c : Nat) : Bool := decide (c < 128)
def lpddrRankOk (k : Nat) : Bool := decide (k < 2)
/-- An event code (R436). -/
def eventCode (c : Nat) : Bool := decide (c < 65536)
/-- A DATA flit's payload: at most 4 KiB (R355). -/
def payloadOk (l : List Byte) : Bool := decide (l.length ≤ 4096)

/-- Whether a command is well formed. -/
def Instr.wf : Instr → Bool
  | .regWrite addr _ _ => regOffset addr
  | .pairLoRead addr => regOffset addr
  | .pairHiWrite addr _ => regOffset addr
  | .boundaryBegin => true
  | .boundaryDrained _ _ _ => true
  | .boundaryApplied => true
  | .boundaryStallAbort => true
  | .abortedReleaseDone => true
  | .roundStart => true
  | .beadInject _ _ => true
  | .beadRx port _ => chainPort port
  | .transitBeadRx port _ => chainPort port
  | .beadTagCheckDone _ => true
  | .beadLate port _ _ => chainPort port
  | .resendReq port message => chainPort port && messageOk message
  | .cameoFetch port message => chainPort port && messageOk message
  | .linkDown port => anyPort port
  | .foldNotice port message => chainPort port && messageOk message
  | .joinNegotiate _ _ => true
  | .stepAbort port message => anyPort port && messageOk message
  | .pipeChunkRx port _ => pipePort port
  | .xferAck port message => pipePort port && messageOk message
  | .retransferReq port message => pipePort port && messageOk message
  | .roundEnd _ _ => true
  | .slotResumeDone slot => mbSlot slot
  | .array core _ _ => logicalCore core
  | .arrayElement core _ _ => logicalCore core
  | .vecCopy core _ _ => logicalCore core
  | .vecAdd core _ _ => logicalCore core
  | .vecSub core _ _ => logicalCore core
  | .vecMul core _ _ => logicalCore core
  | .vecFma core _ _ => logicalCore core
  | .vecMax core _ _ => logicalCore core
  | .vecMin core _ _ => logicalCore core
  | .vecAbs core _ _ => logicalCore core
  | .vecNeg core _ _ => logicalCore core
  | .vecSelect core _ _ => logicalCore core
  | .vecCmpgt core _ _ => logicalCore core
  | .vecRcp core _ _ => logicalCore core
  | .vecSqrt core _ _ => logicalCore core
  | .vecRsqrt core _ _ => logicalCore core
  | .vecExp2 core _ _ => logicalCore core
  | .vecLog2 core _ _ => logicalCore core
  | .vecExp core _ _ => logicalCore core
  | .vecLn core _ _ => logicalCore core
  | .vecTanh core _ _ => logicalCore core
  | .vecSigmoid core _ _ => logicalCore core
  | .vecSilu core _ _ => logicalCore core
  | .vecGelu core _ _ => logicalCore core
  | .vecSin core _ _ => logicalCore core
  | .vecCos core _ _ => logicalCore core
  | .vecExpsub core _ _ => logicalCore core
  | .vecRsum core _ _ => logicalCore core
  | .vecRsumsq core _ _ => logicalCore core
  | .vecRmax core _ _ => logicalCore core
  | .vecRmin core _ _ => logicalCore core
  | .dropout core _ _ => logicalCore core
  | .uniform core _ _ => logicalCore core
  | .taskPreempt core => logicalCore core
  | .run core _ _ _ => logicalCore core
  | .fill core _ _ => logicalCore core
  | .copy core _ _ _ => logicalCore core
  | .hset core _ _ => logicalCore core
  | .hclose core _ _ => logicalCore core
  | .waitArr core _ _ => logicalCore core
  | .streamTransferDone core _ _ _ => logicalCore core
  | .remoteWrite _ => true
  | .remoteRead _ _ => true
  | .bankGatePend core bank => physicalCore core && storeBank bank
  | .bankPowerOff core bank => physicalCore core && storeBank bank
  | .bankWakeDone core bank => physicalCore core && storeBank bank
  | .allocRequest stream _ _ => allocStream stream
  | .allocWaitGrant => true
  | .casketNoprog stream => allocStream stream
  | .transpose core _ _ => logicalCore core
  | .qWrite queue _ _ _ => wordQueue queue
  | .qRead queue _ _ => wordQueue queue
  | .qFlushReq queue _ => wordQueue queue
  | .gradAdd _ _ _ => true
  | .gradLate _ => true
  | .gcontrib core _ _ => logicalCore core
  | .gclose core _ => logicalCore core
  | .statisticsClose => true
  | .spanCloseComplete => true
  | .updateRecordCast => true
  | .convert core _ _ => logicalCore core
  | .loss core _ => logicalCore core
  | .cameoCommit => true
  | .cameoRewriteCheck => true
  | .verdictHoldSet _ => true
  | .rollbackSet _ => true
  | .skipSet _ => true
  | .charmAddr core _ => logicalCore core
  | .cgacc core _ _ => logicalCore core
  | .cgaccRelease core => logicalCore core
  | .codecCommit slot => codecSlot slot
  | .codecTableWrite slot word _ => codecSlot slot && tableWord word
  | .codecSwitchSet => true
  | .doorbell queue _ => hostQueue queue
  | .qRestart queue => hostQueue queue
  | .cmdNop queue _ => hostQueue queue
  | .launch queue _ _ => hostQueue queue
  | .graphLoad queue _ _ => hostQueue queue
  | .graphPatch queue _ _ => hostQueue queue
  | .graphFree queue _ => hostQueue queue
  | .stepEnd queue _ => hostQueue queue
  | .cmdSignal queue _ => hostQueue queue
  | .cmdReserved queue _ => hostQueue queue
  | .taskStart core => logicalCore core
  | .persistentPop core _ _ => logicalCore core
  | .taskStall core => logicalCore core
  | .taskKill core => logicalCore core
  | .ctrlNop core _ => logicalCore core
  | .enqueue core _ => logicalCore core
  | .qpush core _ => logicalCore core
  | .qopen core _ => logicalCore core
  | .qclose core _ => logicalCore core
  | .qflush core _ _ => logicalCore core
  | .slotOpen core _ => logicalCore core
  | .slotPark core _ => logicalCore core
  | .slotResume core _ => logicalCore core
  | .slotClose core _ => logicalCore core
  | .constAddr core _ => logicalCore core
  | .completionWrite => true
  | .recordVerifyDone queue _ => hostQueue queue
  | .cstallClear queue => hostQueue queue
  | .claspSignal core _ => logicalCore core
  | .claspWait core _ => logicalCore core
  | .claspAcquire core _ => logicalCore core
  | .claspArrive core _ => logicalCore core
  | .claspSpanArrive core _ => logicalCore core
  | .claspApply _ => true
  | .chainSignal port message => anyPort port && messageOk message
  | .spanArriveMsg port message => anyPort port && messageOk message
  | .hostAdd _ => true
  | .watchArm watch => watchOk watch
  | .claspForce _ => true
  | .claspFlagClear clasp _ => claspOk clasp
  | .coreLend core => logicalCore core
  | .loupeModeWrite mode => modeOk mode
  | .loupeRestart => true
  | .alignEdge _ => true
  | .paceRegulate _ _ => true
  | .powerSample _ _ => true
  | .throttleTick => true
  | .powerEmergency => true
  | .emergencyClear => true
  | .tempSample die _ => tempDie die
  | .thermalTrip => true
  | .coolant _ _ => true
  | .droop _ => true
  | .droopClear _ => true
  | .powerFail => true
  | .casketBankRetention bank _ => casketBank bank
  | .lpddrSelfRefresh channel rank _ => lpddrChannel channel && lpddrRankOk rank
  | .linkEnWrite port _ => chainPort port
  | .pipeEnWrite _ _ => true
  | .holdoffDone port => anyPort port
  | .lanesTrained port _ => anyPort port
  | .trainTimeout port => anyPort port
  | .linkAligned port _ _ _ => anyPort port
  | .exchange port message => anyPort port && messageOk message
  | .exchangeResend port => anyPort port
  | .retrain port => anyPort port
  | .flitData port _ payload _ => anyPort port && payloadOk payload
  | .flitIdle port _ _ => anyPort port
  | .flitNak port _ _ => anyPort port
  | .flitLost port lane _ _ => anyPort port && laneOk lane
  | .nakTimeout port => anyPort port
  | .flitSlotSend port lane => anyPort port && laneOk lane
  | .linkSilent port => anyPort port
  | .laneFail port lane => anyPort port && laneOk lane
  | .widthReq port message => anyPort port && messageOk message
  | .widthAck port message => anyPort port && messageOk message
  | .stepGate port message => anyPort port && messageOk message
  | .bar2Read _ _ _ => true
  | .bar2Write _ _ _ => true
  | .hostReset => true
  | .drvVersionWrite _ => true
  | .dmaEnWrite _ => true
  | .d3hotEnter => true
  | .d0Return => true
  | .dmaReadDone _ _ _ => true
  | .msixUnmask vector => vectorOk vector
  | .doeDiscovery _ => true
  | .doeAbort => true
  | .getVersion _ _ => true
  | .getCapabilities _ _ => true
  | .negotiateAlgorithms _ _ => true
  | .getDigests _ _ => true
  | .getCertificate _ _ => true
  | .challenge _ _ => true
  | .getMeasurements _ _ => true
  | .spdmUnsupported _ _ => true
  | .i3cEntdaa addr => i3cAddrOk addr
  | .coldStart _ => true
  | .startupStateDone _ => true
  | .warm _ => true
  | .erase => true
  | .program => true
  | .commit => true
  | .flashOpDone _ => true
  | .amendSubmit => true
  | .fwErase => true
  | .fwProgram => true
  | .fwCommit => true
  | .fwSwitch _ => true
  | .svnCommit _ => true
  | .ownerSubmit => true
  | .keyInstall _ => true
  | .keyClear _ => true
  | .encSlotWrite _ => true
  | .flush => true
  | .clearSubmit => true
  | .rdGo => true
  | .tokenRefill code => eventCode code
  | .eventSuppressed => true
  | .lifeSecond _ => true
  | .lifeSnapshot => true
  | .writeNow => true
  | .testCmd die kind => testDie die && testKind kind
  | .bistDone die _ => testDie die
  | .migrate logical _ => logicalCore logical
  | .coreRetire core => physicalCore core
  | .migrationPassBoundary => true
  | .forwardedAccess old => physicalCore old
  | .slotRemoved => true
  | .rackclkLost => true
  | .holdupLow _ => true
  | .chainCntClr port => chainPort port
  | .pipeCntClr => true
  | .cstoreCntClr core => physicalCore core
  | .casketCntClr => true
  | .gradCntClr => true
  | .charmCntClr => true
  | .codecCntClr => true
  | .frontCntClr => true
  | .claspCntClr => true
  | .loupeCntClr => true
  | .powerCntClr => true
  | .linkCntClr port => anyPort port
  | .hostifCntClr => true
  | .spareCntClr => true
  | .busMasterEnableWrite _ => true
  | .coolantBackInRange _ _ => true
  | .eventFlushDone _ _ => true
  | .lifeSnapshotDone _ => true

end Sys2Proof
end

