-- ==== Sys2Proof/Certificates/Slice0/Obligations.lean ====
section
/-! DEFINITION. The statements for the provers. -/

open Sys2Proof Sys2Proof.Machine Sys2Proof.Laws

/-- A step gives the command at the front of the queue its effect on the state with the queue's rest. -/
def Obligations.StepRunsFrontCommand : Prop :=
  ∀ (c : Instr) (rest : List Instr) (s : State), s.pending = c :: rest → step s = exec c { s with pending := rest }

/-- With no command waiting the module idles (the model's choice, log 4: the table has no row for a tick); a step takes the front command and leaves the queue's rest;
nothing handed to the host is taken back, no fuse is unblown (R456), no slot of the ledger is given up (R442). -/
def Obligations.StepLeavesTheRestOfTheQueue : Prop :=
  (∀ s : State, s.pending = [] → step s = .next s) ∧
  (∀ s t : State, step s = .next t → t.pending = s.pending.tail) ∧
  (∀ s t : State, step s = .next t → s.hostOut <+: t.hostOut ∧ s.locket.fused <+: t.locket.fused ∧ s.ev.ledger ≤ t.ev.ledger)

/-- Every step keeps the canonical form of the sparse data: registers, pairs, memory, its poison tags, flash. -/
def Obligations.StepKeepsCanonicalForm : Prop :=
 ∀ s t : State, s.Canonical → step s = .next t → t.Canonical

/-- The state after reset has its sparse data in canonical form. -/
def Obligations.ResetIsCanonical : Prop :=
 State.reset.Canonical

/-- Every command, whatever its operands and the state, ends in a next state: the model stops on none. -/
def Obligations.NoCommandStops : Prop :=
 ∀ (c : Instr) (s : State), Answers (exec c s)

/-- The counter-clear commands (R60, R81, R183, R205, R227, R262, R275, R300, R318, R334, R349, R372, R391, R467): each zeroes the counters its table names and changes
nothing else; the Casket's also puts SHARED_MIN to SHARED_FREE. The Loupe's controls (R334): a legal MODE is stored where there is a trace region, RESTART puts WR to 0
and clears FULL and WRAPPED. A command whose event cannot occur leaves the state as it is: the model's choice, log 6. -/
def Obligations.CountersAndLoupeAreCleared : Prop :=
  (∀ s : State,
    (∀ p, ∃ t, exec (.chainCntClr p) s = .next t ∧ (∀ i < 16, t.rf (F.CHAIN_CNT_COUNT p i) = 0) ∧
      OnlyRegs ((List.range 16).map (fun i => (F.CHAIN_CNT_COUNT p i).off)) s t) ∧
    (∃ t, exec .pipeCntClr s = .next t ∧ (∀ i < 8, t.rf (F.PIPE_CNT_UP_COUNT i) = 0 ∧ t.rf (F.PIPE_CNT_DN_COUNT i) = 0) ∧
      t.rf F.PIPE_PARKS_COUNT = 0 ∧ t.rf F.PIPE_RESUMES_COUNT = 0 ∧
      OnlyRegs ((List.range 18).map (fun i => 0xA00040 + 4 * i)) s t) ∧
    (∀ n, ∃ t, exec (.cstoreCntClr n) s = .next t ∧ t.rf (F.CSTORE_STALE_WR_COUNT n) = 0 ∧ t.rf (F.CSTORE_BAD_WR_COUNT n) = 0 ∧
      t.rf (F.CSTORE_BAD_RD_COUNT n) = 0 ∧ t.rf (F.CSTORE_CE_COUNT n) = 0 ∧
      OnlyRegs ((List.range 4).map (fun i => slotBase n + 0x110 + 4 * i)) s t) ∧
    (∃ t, exec .casketCntClr s = .next t ∧ t.rf F.CASKET_CE_COUNT = 0 ∧ t.rf F.CASKET_UE_COUNT = 0 ∧ t.rf F.CASKET_Q_OVR_COUNT = 0 ∧
      t.rf F.CASKET_Q_PAR_COUNT = 0 ∧ t.rf F.CASKET_SHARED_MIN_STRIPES = s.rf F.CASKET_SHARED_FREE_STRIPES ∧
      OnlyRegs [0x400028, 0x40002C, 0x400030, 0x400034, 0x40001C] s t) ∧
    (∃ t, exec .gradCntClr s = .next t ∧ (∀ i < 8, t.rf (F.GRAD_CNT_COUNT i) = 0) ∧ OnlyRegs ((List.range 8).map (fun i => (F.GRAD_CNT_COUNT i).off)) s t) ∧
    (∃ t, exec .charmCntClr s = .next t ∧ (∀ i < 8, t.rf (F.CHARM_CNT_COUNT i) = 0) ∧ OnlyRegs ((List.range 8).map (fun i => (F.CHARM_CNT_COUNT i).off)) s t) ∧
    (∃ t, exec .codecCntClr s = .next t ∧ (∀ i < 8, t.rf (F.CODEC_CNT_COUNT i) = 0) ∧ OnlyRegs ((List.range 8).map (fun i => (F.CODEC_CNT_COUNT i).off)) s t) ∧
    (∃ t, exec .frontCntClr s = .next t ∧ (∀ i < 8, t.rf (F.FRONT_CNT_COUNT i) = 0) ∧ t.rf F.FRONT_OVF_LOST_COUNT = 0 ∧
      OnlyRegs (0x200028 :: (List.range 8).map (fun i => (F.FRONT_CNT_COUNT i).off)) s t) ∧
    (∃ t, exec .claspCntClr s = .next t ∧ (∀ i < 8, t.rf (F.CLASP_CNT_COUNT i) = 0) ∧ OnlyRegs ((List.range 8).map (fun i => (F.CLASP_CNT_COUNT i).off)) s t) ∧
    (∃ t, exec .loupeCntClr s = .next t ∧ (∀ i < 8, t.rf (F.LOUPE_VAR_SRC_COUNT i) = 0) ∧ t.rf F.LOUPE_LOST_COUNT = 0 ∧
      OnlyRegs (0x1700018 :: (List.range 8).map (fun i => (F.LOUPE_VAR_SRC_COUNT i).off)) s t) ∧
    (∃ t, exec .powerCntClr s = .next t ∧ (∀ i < 8, t.rf (F.POWER_CNT_COUNT i) = 0) ∧ OnlyRegs ((List.range 8).map (fun i => (F.POWER_CNT_COUNT i).off)) s t) ∧
    (∀ p, ∃ t, exec (.linkCntClr p) s = .next t ∧ (∀ i < 16, t.rf (F.LINK_CNT_COUNT p i) = 0) ∧
      (∀ i < 32, t.rf (F.LINK_LANE_UC_COUNT p i) = 0 ∧ t.rf (F.LINK_LANE_NAK_COUNT p i) = 0) ∧
      OnlyRegs ((List.range 16).map (fun i => (F.LINK_CNT_COUNT p i).off) ++ (List.range 32).map (fun i => (F.LINK_LANE_UC_COUNT p i).off) ++
        (List.range 32).map (fun i => (F.LINK_LANE_NAK_COUNT p i).off)) s t) ∧
    (∃ t, exec .hostifCntClr s = .next t ∧ (∀ i < 8, t.rf (F.HOSTIF_CNT_COUNT i) = 0) ∧ OnlyRegs ((List.range 8).map (fun i => (F.HOSTIF_CNT_COUNT i).off)) s t) ∧
    (∃ t, exec .spareCntClr s = .next t ∧ (∀ i < 4, t.rf (F.SPARE_CNT_COUNT i) = 0) ∧ OnlyRegs ((List.range 4).map (fun i => (F.SPARE_CNT_COUNT i).off)) s t)) ∧
  ((∀ (m : Nat) (s : State), m < 3 → s.rf F.LOUPE_REGION_SIZE_GIB ≠ 0 →
    ∃ t, exec (.loupeModeWrite m) s = .next t ∧ t.rf F.LOUPE_CTRL_MODE = m ∧ OnlyRegs [0x1700000] s t) ∧
  (∀ s : State, s.rf F.LOUPE_REGION_SIZE_GIB = 0 → ∀ m, exec (.loupeModeWrite m) s = .next s) ∧
  (∀ s : State, ∃ t, exec .loupeRestart s = .next t ∧ t.rf F.LOUPE_WR_LO_INDEX = 0 ∧ t.rf F.LOUPE_WR_HI_INDEX = 0 ∧ t.rf F.LOUPE_STATUS_FULL = 0 ∧
    t.rf F.LOUPE_STATUS_WRAPPED = 0 ∧ t.rf F.LOUPE_STATUS_ACTIVE = s.rf F.LOUPE_STATUS_ACTIVE ∧
    (∀ x, x ∉ [0x170000C, 0x1700010, 0x1700014] → t.rd x = s.rd x) ∧ t.mem = s.mem))

/-- REG_WRITE (R9, R10, R386): after the Loupe's record of the write, each field of the register obeys its access code (RW stores the bits written, W1C clears where a 1
is written, W1S sets where a 1 is written, every other keeps its bits, as does a field that a command of its own writes), every other register keeps its word but for the
record-keeping ones, and memory is as the record left it. A write to a reserved address changes no register; one that does not go in because its die has no supply sets
ERR.EARLY; a write without all byte enables is ignored. A command whose event cannot occur leaves the state as it is: the model's choice, log 6. -/
def Obligations.RegisterWriteFollowsAccessCodes : Prop :=
  (∀ (x : Nat) (v : Word) (s : State) (r : RegRow), rowOf x = some r → s.writeGoes x true = true →
    ∃ t, exec (.regWrite x v true) s = .next t ∧
      (∀ f ∈ r.fields,
        let old := ((s.traceReg x v).rd x).toNat
        let new := refuseValue x old v.toNat
        let now := bits (t.rd x).toNat f.lo f.width
        (f.own = true → now = bits old f.lo f.width) ∧
        (f.own = false → f.acc = .rw → now = bits new f.lo f.width) ∧
        (f.own = false → f.acc = .w1c → now = bits old f.lo f.width &&& (2 ^ f.width - 1 - bits new f.lo f.width)) ∧
        (f.own = false → f.acc = .w1s → now = bits old f.lo f.width ||| bits new f.lo f.width) ∧
        (f.acc = .ro ∨ f.acc = .wo ∨ f.acc = .rs → now = bits old f.lo f.width)) ∧
      (∀ y, y ≠ x → bookkeeping y = false → t.rd y = (s.traceReg x v).rd y) ∧ t.mem = (s.traceReg x v).mem) ∧
  (∀ (x : Nat) (v : Word) (s : State), rowOf x = none → s.writeGoes x true = true → exec (.regWrite x v true) s = .next (s.traceReg x v)) ∧
  (∀ (x : Nat) (v : Word) (s : State), s.writeGoes x true = false →
    ∃ t, exec (.regWrite x v true) s = .next t ∧ RegsAndRecords [F.HOSTIF_ERR_EARLY.off] s t ∧
      (x % 4 = 0 → s.dieUp x = false → s.pcie.d3hot = false → s.power.failing = false → t.rf F.HOSTIF_ERR_EARLY = 1) ∧
      (s.dieUp x = true → t = s)) ∧
  (∀ (x : Nat) (v : Word) (s : State), exec (.regWrite x v false) s = .next s)

/-- The two halves of a pair (R8): a read of the _LO register returns it and captures the _HI into the shadow; the next read of the _HI register returns that shadow,
which then ends, and without one the register; a write of the _HI register makes the pair take effect as the two registers then stand, and stores the RW fields of the
_HI. -/
def Obligations.PairHalvesWorkTogether : Prop :=
  (∀ (x : Nat) (s : State), isPairLo x = true → s.power.failing = false →
    ∃ t, exec (.pairLoRead x) s = .next t ∧ t.hostOut = s.hostOut ++ [.readDone (s.busRead x)] ∧
      SMap.get (fun _ => none) t.shadows (x + 4) = some (s.busRead (x + 4)) ∧
      (∀ y, y ≠ x + 4 → SMap.get (fun _ => none) t.shadows y = SMap.get (fun _ => none) s.shadows y) ∧
      { t with hostOut := s.hostOut, shadows := s.shadows } = s) ∧
  (∀ (x : Nat) (s : State), isPairLo x = true → isPairLo (x + 4) = false → s.power.failing = false →
    ∃ t, exec (.pairLoRead (x + 4)) s = .next t ∧
      (∀ w, SMap.get (fun _ => none) s.shadows (x + 4) = some w → t.hostOut = s.hostOut ++ [.readDone w]) ∧
      (SMap.get (fun _ => none) s.shadows (x + 4) = none → t.hostOut = s.hostOut ++ [.readDone (s.busRead (x + 4))]) ∧
      SMap.get (fun _ => none) t.shadows (x + 4) = none ∧
      (∀ y, y ≠ x + 4 → SMap.get (fun _ => none) t.shadows y = SMap.get (fun _ => none) s.shadows y) ∧
      { t with hostOut := s.hostOut, shadows := s.shadows } = s) ∧
  (∀ (x : Nat) (v : Word) (s : State) (r : RegRow), isPairLo x = true → rowOf (x + 4) = some r → (r.fields.any (fun f => f.acc == .rw)) = true →
    s.writeGoes (x + 4) true = true →
    ∃ t, exec (.pairHiWrite (x + 4) v) s = .next t ∧ t.pairNow x = (t.rd x).toNat + 2 ^ 32 * (t.rd (x + 4)).toNat ∧
      (∀ f ∈ r.fields, bits (t.rd (x + 4)).toNat f.lo f.width = bits v.toNat f.lo f.width) ∧
      (∀ y, y ≠ x + 4 → t.rd y = (s.traceReg (x + 4) v).rd y) ∧ t.mem = (s.traceReg (x + 4) v).mem)

/-- The host's window in a module that is ready, at an access that none waits before and whose bank and HOST stripes are ready (R378, R379): a read of whole memory hands
the host its bytes, or the same bytes with the poison flag where a word carries a tag, and counts its KiB; a write puts its bytes there and leaves every other byte as the
Loupe's record of the write left it, but for the stripes it passes through; a poisoned write is dropped and flagged. A read of nothing ends in a completer abort; none is
answered in D3hot. -/
def Obligations.HostWindowReadsAndWritesMemory : Prop :=
  (∀ (x n b : Nat) (u : Upset) (s : State), s.HostReady true (s.windowAt x) b n → s.pcie.d3hot = false →
    ∃ t, exec (.bar2Read x n u) s = .next t ∧
      (∃ pre, t.hostOut = s.hostOut ++ pre ++ [if (s.meet u).poisonedAt b n then .memPoisoned (s.rbs b n) else .memDone (s.rbs b n)] ∧
        (u = .none → s.poisonedAt b n = false → pre = [])) ∧
      t.rf (F.HOSTIF_CNT_COUNT 1) = satAdd 32 (s.rf (F.HOSTIF_CNT_COUNT 1)) (ceilDiv n 1024) ∧ (∀ a, inStripes a = false → t.rb a = s.rb a)) ∧
  (∀ (x b : Nat) (data : List Byte) (s : State), s.HostReady false (s.windowAt x) b data.length → s.pcie.d3hot = false →
    ∃ t, exec (.bar2Write x data false) s = .next t ∧ (∀ i < data.length, t.rb (b + i) = nth data i 0) ∧
      (∀ a, inStripes a = false → a < b ∨ b + data.length ≤ a → t.rb a = (s.traceData 2 0xFE (s.windowAt x) data).rb a) ∧
      t.rf (F.HOSTIF_CNT_COUNT 0) = satAdd 32 (s.rf (F.HOSTIF_CNT_COUNT 0)) (ceilDiv data.length 1024) ∧ t.hostOut = s.hostOut) ∧
  (∀ (x b : Nat) (data : List Byte) (s : State), s.HostReady false (s.windowAt x) b data.length → s.pcie.d3hot = false →
    ∃ t, exec (.bar2Write x data true) s = .next t ∧ t.rf F.HOSTIF_ERR_POISON_IN = 1 ∧ t.rf F.HOSTIF_LAST_ERR_KIND = 6 ∧ t.mem = s.mem) ∧
  (∀ (x n : Nat) (u : Upset) (s : State), s.pcie.d3hot = false → s.power.failing = false → s.flag F.HOSTIF_STATUS_MODULE_READY = true → s.pcie.held = [] →
    0 < n → s.hostPlace (s.windowAt x) = .unmapped →
    ∃ t pre, exec (.bar2Read x n u) s = .next t ∧ t.hostOut = s.hostOut ++ pre ++ [.completerAbort] ∧ t.rf F.HOSTIF_ERR_UNMAPPED = 1 ∧
      t.rf (F.HOSTIF_CNT_COUNT 4) = satAdd 32 (s.rf (F.HOSTIF_CNT_COUNT 4)) 1 ∧ t.mem = s.mem) ∧
  (∀ (x n : Nat) (u : Upset) (s : State), s.pcie.d3hot = true → s.power.failing = false → exec (.bar2Read x n u) s = .next (s.toHost .unsupported))

/-- The conditions of the DMA gate (R384, R387, R390): each command stores what it writes, and STATUS.DMA_GATED then shows whether the gate is closed. The states are
those in which no handover write waits; what a waiting one does as the gate opens is of another statement's matter. Interrupts and failed reads (R388, R382): unmasking a
vector that is pending sends its message, once the gate is open; a read of a ring entry that fails is counted, flagged, named in LAST_ERR, and sets FETCH_ERR of its
queue. -/
def Obligations.GateAndMessagesFollowTheirConditions : Prop :=
  ((∀ (v : Word) (s : State), s.rf F.HOSTIF_VERSION_MIN ≤ bits v.toNat 0 16 → bits v.toNat 0 16 ≤ s.rf F.HOSTIF_VERSION_MAX →
    s.pcie.waiting = [] → ∃ t, exec (.drvVersionWrite v) s = .next t ∧ t.rf F.HOSTIF_DRV_VERSION_VERSION = bits v.toNat 0 16 ∧ t.rf F.HOSTIF_STATUS_NEGOTIATED = 1 ∧
      t.rf F.HOSTIF_STATUS_DMA_GATED = b2n t.gated) ∧
  (∀ (on : Bool) (s : State), s.pcie.waiting = [] → ∃ t, exec (.dmaEnWrite on) s = .next t ∧ t.rf F.HOSTIF_CTRL_DMA_EN = b2n on ∧ t.rf F.HOSTIF_STATUS_DMA_GATED = b2n t.gated) ∧
  (∀ (on : Bool) (s : State), s.pcie.waiting = [] → ∃ t, exec (.busMasterEnableWrite on) s = .next t ∧ t.pcie.busMaster = on ∧ t.rf F.HOSTIF_STATUS_DMA_GATED = b2n t.gated) ∧
  (∀ s : State, ∃ t, exec .d3hotEnter s = .next t ∧ t.pcie.d3hot = true ∧ t.rf F.HOSTIF_STATUS_DMA_GATED = 1) ∧
  (∀ s : State, s.pcie.waiting = [] → ∃ t, exec .d0Return s = .next t ∧ t.pcie.d3hot = false ∧ t.rf F.HOSTIF_STATUS_DMA_GATED = b2n t.gated)) ∧
  ((∀ (v : Nat) (s : State), v < 64 → s.gated = false → s.pcie.funcMask = false → s.flag (pbaField v) = true →
    ∃ t, exec (.msixUnmask v) s = .next t ∧ t.rf (F.HOSTIF_MSIX_CTRL_MASK v) = 0 ∧ t.rf (pbaField v) = 0 ∧
      t.hostOut = s.hostOut ++ [.msix (s.rf (F.HOSTIF_MSIX_ADDR_LO_ADDR v) * 4 + 2 ^ 32 * s.rf (F.HOSTIF_MSIX_ADDR_HI_ADDR v))
        (BitVec.ofNat 32 (s.rf (F.HOSTIF_MSIX_DATA_DATA v)))] ∧ OnlyRegs [(F.HOSTIF_MSIX_CTRL_MASK v).off, (pbaField v).off] { s with hostOut := t.hostOut } t) ∧
  (∀ (q : Nat) (e : BitVec 512) (a : BitVec 64) (r : Cpl) (s : State), q < 8 → r ≠ .ok →
    ∃ t, exec (.dmaReadDone (.ringEntry q e) a r) s = .next t ∧ t.rf (F.HOSTIF_CNT_COUNT 3) = satAdd 32 (s.rf (F.HOSTIF_CNT_COUNT 3)) 1 ∧
      t.rf F.HOSTIF_ERR_DMA_RD = 1 ∧ t.rf F.HOSTIF_LAST_ERR_KIND = errKind r ∧ t.rf F.HOSTIF_LAST_ERR_AGENT = 1 ∧
      t.rf F.HOSTIF_LAST_ERR_ADDR_LO_ADDR = a.toNat % 2 ^ 32 ∧ t.rf F.HOSTIF_LAST_ERR_ADDR_HI_ADDR = a.toNat / 2 ^ 32 ∧
      t.rf (F.FRONT_Q_STATUS_FETCH_ERR q) = 1 ∧ t.rf F.FRONT_ERR_FETCH = 1 ∧
      RegsAndRecords [0x10004C, 0x100010, 0x100024, 0x100028, 0x10002C, 0x200008, (F.FRONT_Q_STATUS_FETCH_ERR q).off] s t))

/-- HOST_RESET (R385, R391): every field of the host interface's domain returns to its reset value, but for what STATUS shows of the module and the counter of resets,
which counts this one; the function is disabled and in D0; its identity (R376) and module memory are untouched. The mailbox and the I3C port (R389, R476): Discovery lists
its two protocols and then none, Abort empties the mailbox, ENTDAA gives the port its address and shows a provisioned ID whose low 32 bits are those of the serial number.
-/
def Obligations.HostResetAndPortsAnswer : Prop :=
  (∀ s : State, ∃ t, exec .hostReset s = .next t ∧
    (∀ x r, rowOf x = some r → r.dom = .hostIf → x ≠ 0x10000C → x ≠ 0x100058 → bookkeeping x = false →
      ∀ f ∈ r.fields, bits (t.rd x).toNat f.lo f.width = f.reset) ∧
    t.rf (F.HOSTIF_CNT_COUNT 6) = 1 ∧ t.rf F.HOSTIF_STATUS_DMA_GATED = 1 ∧ t.rf F.HOSTIF_STATUS_NEGOTIATED = 0 ∧
    t.pcie.busMaster = false ∧ t.pcie.d3hot = false ∧ t.pcie.held = [] ∧ t.pcie.doe = [] ∧ t.pcie.ident = s.pcie.ident ∧ t.mem = s.mem ∧ t.poison = s.poison ∧ t.flash = s.flash) ∧
  ((∀ (i : Nat) (s : State), ∃ t, exec (.doeDiscovery i) s = .next t ∧
    t.hostOut = s.hostOut ++ [.doe (doeObject 0 (if i = 0 then [1, 0, 0, 1] else if i = 1 then [1, 0, 1, 0] else [0xFF, 0xFF, 0xFF, 0]))] ∧
    { t with hostOut := s.hostOut } = s) ∧
  (∀ s : State, ∃ t, exec .doeAbort s = .next t ∧ t.pcie.doe = [] ∧ { t with pcie := { t.pcie with doe := s.pcie.doe } } = s) ∧
  (∀ (a : Nat) (s : State), a < 128 → s.locket.i3cAddr = none → s.pcie.configReady = true →
    ∃ t pid, exec (.i3cEntdaa a) s = .next t ∧ t.locket.i3cAddr = some a ∧ pid % 2 ^ 32 = s.locket.serial.toNat % 2 ^ 32 ∧
      t.hostOut = s.hostOut ++ [.i3cAddress pid a] ∧ t.regs = s.regs ∧ t.mem = s.mem))

/-- The Hallmark responder (R427, R428; codes and layouts the standard's, PRESUMED in log 60): each request that comes on a transport that carries it, in its turn, of
SPDM 1.2 and long enough, is answered; negotiation goes from one phase to the next; a request the responder does not serve gets UnsupportedRequest. -/
def Obligations.ResponderAnswersInTurn : Prop :=
  ∀ (t0 : Transport) (m : List Byte) (s : State), s.reaches t0 = true → m.length ≤ 16384 →
    (leAt m 1 1 = 0x84 → leAt m 0 1 = 0x10 → 4 ≤ m.length →
      ∃ t, exec (.getVersion t0 m) s = .next t ∧ (t.conn t0).phase = 1 ∧ t.hostOut = s.hostOut ++ [.spdm t0 [0x10, 0x04, 0, 0, 0, 1, 0x00, 0x12]]) ∧
    (leAt m 1 1 = 0xE1 → leAt m 0 1 = 0x12 → 20 ≤ m.length → 1 ≤ (s.conn t0).phase →
      ∃ t r, exec (.getCapabilities t0 m) s = .next t ∧ (t.conn t0).phase = 2 ∧ t.hostOut = s.hostOut ++ [.spdm t0 r] ∧ leAt r 0 2 = 0x6112 ∧ r.length = 20) ∧
    (leAt m 1 1 = 0xE3 → leAt m 0 1 = 0x12 → 32 ≤ m.length → 2 ≤ (s.conn t0).phase →
      ∃ t r, exec (.negotiateAlgorithms t0 m) s = .next t ∧ (t.conn t0).phase = 3 ∧ t.hostOut = s.hostOut ++ [.spdm t0 r] ∧ leAt r 0 2 = 0x6312 ∧ r.length = 36) ∧
    (leAt m 1 1 = 0x81 → leAt m 0 1 = 0x12 → 4 ≤ m.length → 3 ≤ (s.conn t0).phase →
      ∃ t, exec (.getDigests t0 m) s = .next t ∧ t.hostOut = s.hostOut ++ [.spdm t0 ([0x12, 0x01, 0, 1] ++ sha256 certChain)]) ∧
    (leAt m 1 1 = 0x82 → leAt m 0 1 = 0x12 → 8 ≤ m.length → 3 ≤ (s.conn t0).phase → leAt m 2 1 = 0 → leAt m 4 2 < certChain.length →
      ∃ t n, exec (.getCertificate t0 m) s = .next t ∧ n ≤ leAt m 6 2 ∧
        t.hostOut = s.hostOut ++ [.spdm t0 ([0x12, 0x02, 0, 0] ++ natLe n 2 ++ natLe (certChain.length - leAt m 4 2 - n) 2 ++
          (certChain.drop (leAt m 4 2)).take n)]) ∧
    (leAt m 1 1 = 0x83 → leAt m 0 1 = 0x12 → 36 ≤ m.length → 3 ≤ (s.conn t0).phase → leAt m 2 1 = 0 →
      ∃ t r, exec (.challenge t0 m) s = .next t ∧ t.hostOut = s.hostOut ++ [.spdm t0 ([0x12, 0x03, 0, 1] ++ sha256 certChain ++ r)] ∧ (t.conn t0).digests = []) ∧
    (leAt m 1 1 = 0xE0 → leAt m 0 1 = 0x12 → 4 ≤ m.length → 3 ≤ (s.conn t0).phase → bit (leAt m 2 1) 0 = false → ∀ b, s.measurement (leAt m 3 1) = some b →
      leAt m 3 1 ≠ 0 → leAt m 3 1 ≠ 0xFF →
      ∃ t r, exec (.getMeasurements t0 m) s = .next t ∧
        t.hostOut = s.hostOut ++ [.spdm t0 ([0x12, 0x60, 0, 0, 1] ++ natLe b.length 3 ++ b ++ r)]) ∧
    (spServed.contains (leAt m 1 1) = false →
      ∃ t, exec (.spdmUnsupported t0 m) s = .next t ∧ t.hostOut = s.hostOut ++ [.spdm t0 (spHead 0x12 0x7F 7 (leAt m 1 1))])

/-- Records under a code (R434, R439, R440): an event of a code with neither privilege nor bucket, or with a token left, while the buffer has room for it, is appended
with the next SEQ and its parameters, and counts in the lifetime image; with no token left it is counted as suppressed and nothing is appended. Event records (R434, R438,
R440, R446): FLUSH covers every record of the buffer; a flush's end empties the buffer of what it covered; a bucket gains a token up to its cap; a whole second clears the
suppression counts; an accepted clear token waits for its flush. -/
def Obligations.EventsAreRecordedAndKept : Prop :=
  ((∀ (code src p0 p1 p2 p3 : Nat) (s : State), privileged code = false → 2 < code → 0 < SMap.get bucketCap s.ev.tokens code → s.ev.plain < 960 →
    s.ev.buf.length < 1024 →
    ∃ r : EvRec, (s.event code src p0 p1 p2 p3).ev.buf = s.ev.buf ++ [r] ∧ r.code = BitVec.ofNat 16 code ∧ r.source = BitVec.ofNat 16 src ∧
      r.seq = BitVec.ofNat 32 (s.rf F.EVENT_SEQ_SEQ) ∧ r.p0 = BitVec.ofNat 32 p0 ∧ r.p1 = BitVec.ofNat 32 p1 ∧ r.p2 = BitVec.ofNat 32 p2 ∧
      r.p3 = BitVec.ofNat 32 p3 ∧ (s.event code src p0 p1 p2 p3).rf F.EVENT_SEQ_SEQ = (s.rf F.EVENT_SEQ_SEQ + 1) % 2 ^ 32 ∧
      SMap.get bucketCap (s.event code src p0 p1 p2 p3).ev.tokens code = SMap.get bucketCap s.ev.tokens code - 1) ∧
  (∀ (code src p0 p1 p2 p3 : Nat) (s : State), privileged code = false → 2 < code → SMap.get bucketCap s.ev.tokens code = 0 →
    (s.event code src p0 p1 p2 p3).ev.buf = s.ev.buf ∧
      SMap.get (fun _ => 0) (s.event code src p0 p1 p2 p3).ev.suppressed code = SMap.get (fun _ => 0) s.ev.suppressed code + 1 ∧
      (s.event code src p0 p1 p2 p3).rf F.EVENT_SEQ_SEQ = s.rf F.EVENT_SEQ_SEQ)) ∧
  ((∀ s : State, ∃ t, exec .flush s = .next t ∧ t.ev.flushN = s.ev.buf.length ∧ t.rf F.EVENT_STATUS_FLUSHING = 1 ∧ t.ev.buf = s.ev.buf ∧
    OnlyRegs [0x1400008] { s with ev := t.ev } t) ∧
  (∀ s : State, s.flag F.EVENT_STATUS_FLUSHING = true → s.ev.clear = none → s.ev.lost = 0 →
    ∃ t, exec (.eventFlushDone [] false) s = .next t ∧ t.ev.buf = s.ev.buf.drop s.ev.flushN ∧ t.ev.flushN = 0 ∧ t.rf F.EVENT_STATUS_FLUSHING = 0 ∧
      t.rf F.EVENT_STATUS_UNFLUSHED = (s.ev.buf.drop s.ev.flushN).length % 2 ^ 11 ∧ t.mem = s.mem ∧ OnlyRegs [0x1400008] { s with ev := t.ev, flash := t.flash } t) ∧
  (∀ (code : Nat) (s : State), ∃ t, exec (.tokenRefill code) s = .next t ∧
    SMap.get bucketCap t.ev.tokens code = min (SMap.get bucketCap s.ev.tokens code + 1) (bucketCap code) ∧
    (∀ k, k ≠ code → SMap.get bucketCap t.ev.tokens k = SMap.get bucketCap s.ev.tokens k) ∧
    { t with ev := { t.ev with tokens := s.ev.tokens } } = s) ∧
  (∀ s : State, ∃ t, exec .eventSuppressed s = .next t ∧ t.ev.suppressed = [] ∧ RegsAndRecords [] s t) ∧
  (∀ (s : State), s.power.failing = false → s.clearReason (s.bufferBytes 0x60000 576) = none →
    ∃ t, exec .clearSubmit s = .next t ∧ t.ev.clear = some (BitVec.ofNat 32 (leAt (s.bufferBytes 0x60000 576) 20 4),
      BitVec.ofNat 32 (leAt (s.bufferBytes 0x60000 576) 16 4), BitVec.ofNat 32 (leAt (s.bufferBytes 0x60000 576) 64 4)) ∧
      t.ev.flushN = s.ev.buf.length ∧ t.rf F.EVENT_STATUS_FLUSHING = 1 ∧ OnlyRegs [0x1400008] { s with ev := t.ev } t) ∧
  (∀ s : State, ∃ t, exec .rdGo s = .next t ∧
    t.rf F.EVENT_RD_COUNT_COUNT = min 128 (s.readArea.length - s.rf F.EVENT_RD_INDEX_INDEX) ∧
    (∀ i k, i < 128 → k < 8 → ∀ r, s.readArea[s.rf F.EVENT_RD_INDEX_INDEX + i]? = some r →
      t.rf (F.EVENT_WIN_WORD (i * 8 + k)) = leAt r.bytes (4 * k) 4) ∧
    OnlyRegs (0x1400030 :: (List.range 1024).map (fun i => 0x1401000 + 4 * i)) s t))

/-- The lifetime image (R448, R449): an operating second counts, and every 3,600th begins an hour; a snapshot is taken when fifteen minutes have passed and on WRITE_NOW;
its end leaves the slot, LSEQ and the image in flash. -/
def Obligations.LifetimeImageIsKept : Prop :=
  (∀ (v : List Nat) (s : State), s.ev.second < 3599 → ∃ t, exec (.lifeSecond v) s = .next t ∧ t.ev.second = s.ev.second + 1 ∧
    t.lifeX.sinceWrite = s.lifeX.sinceWrite + 1 ∧ t.rf F.LIFE_HOURS_HOURS = s.rf F.LIFE_HOURS_HOURS ∧ t.mem = s.mem ∧ t.flash = s.flash) ∧
  (∀ (v : List Nat) (s : State), 3599 ≤ s.ev.second → ∃ t, exec (.lifeSecond v) s = .next t ∧ t.ev.second = 0 ∧
    t.rf F.LIFE_HOURS_HOURS = (s.rf F.LIFE_HOURS_HOURS + 1) % 2 ^ 32) ∧
  (∀ s : State, s.lifeX.writing = none → ∃ t img, exec .lifeSnapshot s = .next t ∧ exec .writeNow s = .next t ∧ t.lifeX.writing = some img ∧
    t.lifeX.sinceWrite = 0 ∧ t.rf F.LIFE_STATUS_WRITING = 1 ∧ t.rf (lifeFld 8) = (s.rf F.LIFE_LSEQ_LSEQ + 1) % 2 ^ 32 ∧
    t.rf (lifeFld 0xC) = s.rf F.LIFE_HOURS_HOURS ∧ t.mem = s.mem ∧ t.flash = s.flash) ∧
  (∀ (img : List (Nat × Word)) (s : State), s.lifeX.writing = some img → s.lifeX.nextSlot < 240 →
    ∃ t, exec (.lifeSnapshotDone true) s = .next t ∧ t.lifeX.writing = none ∧ t.lifeX.nextSlot = (s.lifeX.nextSlot + 1) % 240 ∧
      t.rf F.LIFE_STATUS_WRITING = 0 ∧ t.rf F.LIFE_STATUS_SLOT = s.lifeX.nextSlot ∧ t.rf F.LIFE_LSEQ_LSEQ = (s.rf F.LIFE_LSEQ_LSEQ + 1) % 2 ^ 32 ∧
      (SMap.wf flashErased s.flash = true → t.rflash (0x0C900000 + s.lifeX.nextSlot * 65536) 65536 = snapshotBytes img)) ∧
  (∀ (img : List (Nat × Word)) (s : State), s.lifeX.writing = some img →
    ∃ t, exec (.lifeSnapshotDone false) s = .next t ∧ t.lifeX.writing = none ∧ t.lifeX.nextSlot = (s.lifeX.nextSlot + 1) % 240 ∧
      t.rf F.LIFE_ERR_WRITE = 1 ∧ t.rf F.LIFE_LSEQ_LSEQ = s.rf F.LIFE_LSEQ_LSEQ ∧ t.flash = s.flash)

/-- Pace and power (R337, R339, R340): a sample shows VIN and the mean of the last ten products; over the limit and above the floor a throttle action lowers the pace by
one level; the regulator moves a die's supply one step toward zero error. -/
def Obligations.PaceFollowsPower : Prop :=
  (∀ (volts amps : Nat) (s : State), ∃ t, exec (.powerSample volts amps) s = .next t ∧ t.power.samples = (volts * amps :: s.power.samples).take 10 ∧
    t.rf F.POWER_VIN_VOLTS = volts % 2 ^ 16 ∧ t.rf F.POWER_PIN_WATTS = (t.power.samples.sum / t.power.samples.length / 1000) % 2 ^ 16 ∧
    OnlyRegs [0xE00020, 0xE00024] { s with power := t.power } t) ∧
  (∀ s : State, s.flag F.POWER_STATUS_EMERGENCY = false → s.powerLimit < s.rf F.POWER_PIN_WATTS → s.rf F.POWER_CFG_FLOOR < s.rf F.POWER_PACE_NOW_P →
    ∃ t, exec .throttleTick s = .next t ∧ t.rf F.POWER_PACE_NOW_P = max (s.rf F.POWER_CFG_FLOOR) (s.rf F.POWER_PACE_NOW_P - 1024) ∧
      t.rf (F.POWER_CNT_COUNT 0) = satAdd 32 (s.rf (F.POWER_CNT_COUNT 0)) 1 ∧ t.power.quiet = 0 ∧ t.mem = s.mem) ∧
  (∀ (d n : Nat) (s : State), ∃ t e v, exec (.paceRegulate [(d, n)] none) s = .next t ∧
    e = SMap.get (fun _ => (0 : Int)) s.power.err d + 128 * (n : Int) - (s.rf F.POWER_PACE_NOW_P : Int) ∧ v = SMap.get supplyDflt s.power.supply d ∧
    SMap.get (fun _ => (0 : Int)) t.power.err d = e ∧
    SMap.get supplyDflt t.power.supply d = (if e < 0 then min (v + 1) 352 else if 0 < e then v - 1 else v) ∧
    { t with power := { t.power with err := s.power.err, supply := s.power.supply } } = s)

/-- Heat, coolant and input voltage (R345, R347): a reading shows in TEMP.NOW and, where it is the highest so far, in TEMP.MAX; with a die at or above WARN the warning
stands; coolant out of range is flagged, and back in range the warning goes; a droop takes the pace to the floor, and its end clears the flag. Retention, the board's
inputs (R344, R472, R477): an idle bank without writes in flight goes to retention, an idle rank to self-refresh; a lost rack clock and a low hold-up bank show in
BOARD.STATUS and BOARD.ERR. -/
def Obligations.HeatDroopAndBoardInputsTakeEffect : Prop :=
  ((∀ (d c : Nat) (s : State), d < 20 → c ≤ 255 → s.rf F.POWER_TLIM_WARN ≤ c →
    ∃ t, exec (.tempSample d c) s = .next t ∧ t.rf (F.POWER_TEMP_NOW d) = c ∧ t.rf (F.POWER_TEMP_MAX d) = max (s.rf (F.POWER_TEMP_MAX d)) c ∧
      t.rf F.POWER_STATUS_THERM_WARN = 1 ∧ (s.rf F.POWER_TLIM_LIMIT ≤ c → t.rf F.POWER_STATUS_THERM_LIMIT = 1 ∧ t.rf F.POWER_PACE_NOW_P = 0x6000) ∧ t.mem = s.mem) ∧
  (∀ (inlet flow : Nat) (s : State), coolOk inlet flow = false →
    ∃ t, exec (.coolant inlet flow) s = .next t ∧ t.rf F.POWER_COOL_INLET = min inlet 255 ∧ t.rf F.POWER_COOL_FLOW = min flow 255 ∧ t.rf F.POWER_COOL_WARN = 1 ∧
      t.rf F.POWER_ERR_COOLANT = 1 ∧ t.power.coolSeen = true) ∧
  (∀ (inlet flow : Nat) (s : State), coolOk inlet flow = true →
    ∃ t, exec (.coolantBackInRange inlet flow) s = .next t ∧ t.rf F.POWER_COOL_WARN = 0 ∧ t.rf F.POWER_COOL_INLET = inlet ∧ OnlyRegs [0xE00038] s t) ∧
  (∀ (v : Nat) (s : State), v < 3200 →
    ∃ t, exec (.droop v) s = .next t ∧ t.rf F.POWER_PACE_NOW_P = min (s.rf F.POWER_CFG_FLOOR) (s.rf F.POWER_PACE_NOW_P) ∧ t.rf F.POWER_STATUS_DROOP = 1 ∧
      t.rf F.POWER_ERR_DROOP = 1 ∧ t.rf (F.POWER_CNT_COUNT 5) = satAdd 32 (s.rf (F.POWER_CNT_COUNT 5)) 1) ∧
  (∀ (v : Nat) (s : State), 3250 ≤ v → ∃ t, exec (.droopClear v) s = .next t ∧ t.rf F.POWER_STATUS_DROOP = 0 ∧ OnlyRegs [0xE00014] s t)) ∧
  ((∀ (b : Nat) (s : State), b < 1024 → s.casket.retention.contains b = false →
    ∃ t, exec (.casketBankRetention b 0) s = .next t ∧ t.casket.retention = b :: s.casket.retention ∧
      { t with casket := { t.casket with retention := s.casket.retention } } = s) ∧
  (∀ (c k : Nat) (s : State), c < 128 → k < 2 → s.power.selfRefresh.contains (2 * c + k) = false →
    ∃ t, exec (.lpddrSelfRefresh c k 0) s = .next t ∧ t.power.selfRefresh = (2 * c + k) :: s.power.selfRefresh ∧ t.rf (F.MEMC_CHAN_SELF_REFRESH c) = 1 ∧
      OnlyRegs [(F.MEMC_CHAN_SELF_REFRESH c).off] { s with power := t.power } t) ∧
  (∀ s : State, ∃ t, exec .rackclkLost s = .next t ∧ t.rf F.BOARD_STATUS_REF_SRC = 1 ∧ t.rf F.BOARD_ERR_REF_LOST = 1 ∧ RegsAndRecords [0x80004, 0x80008] s t) ∧
  (∀ (v : Nat) (s : State), v < 460 → 3200 ≤ s.rf F.POWER_VIN_VOLTS →
    ∃ t, exec (.holdupLow v) s = .next t ∧ t.rf F.BOARD_STATUS_HOLDUP_V = v ∧ t.rf F.BOARD_STATUS_HOLDUP_OK = 0 ∧ t.rf F.BOARD_ERR_HOLDUP_LOW = 1 ∧
      RegsAndRecords [0x80004, 0x80008] s t))

/-- Loss of supply (R346, R348, R475): a thermal trip above TRIP, a power fail and a removed slot leave every die but the Locket, or every die, without supply, their
memory and engines empty; what the host has been handed stays. -/
def Obligations.SupplyLossEmptiesTheDies : Prop :=
  (∀ s : State, s.rf F.POWER_TLIM_TRIP ≤ s.hottest → s.rf F.SETUP_STATE_STATE ≠ 13 →
    ∃ t, exec .thermalTrip s = .next t ∧ t.rf F.SETUP_STATE_STATE = 13 ∧ t.rf F.POWER_ERR_THERM_TRIP = 1 ∧ t.rf F.HOSTIF_STATUS_MODULE_READY = 0 ∧
      (∀ d ∈ t.power.dies, d = 19) ∧ t.mem = [] ∧ t.cores = [] ∧ t.front.tasks = [] ∧ t.casket.grants = [] ∧ t.locket.key0 = none ∧ t.locket.key1 = none) ∧
  (∀ s : State, s.power.failing = false →
    ∃ t, exec .powerFail s = .next t ∧ t.power.failing = true ∧ t.power.dies = [] ∧ t.mem = [] ∧ t.cores = [] ∧ t.ev.buf = [] ∧ t.locket.key0 = none ∧
      s.hostOut <+: t.hostOut) ∧
  (∀ s : State, s.power.failing = false →
    ∃ t, exec .slotRemoved s = .next t ∧ t.rf F.BOARD_STATUS_PRESENT = 0 ∧ t.power.failing = true ∧ t.power.dies = [] ∧ t.mem = [] ∧ t.ev.buf = [])

/-- Installing an image or firmware (R403, R421): with no operation in progress each request begins its own on the slot that is not active or not running, which shows
BUSY; its end leaves the slot no longer BUSY, and a programmed piece in flash. -/
def Obligations.FlashOperationsBeginAndEnd : Prop :=
  (∀ s : State, s.setup.op = none → ∃ t, exec .erase s = .next t ∧ t.setup.op = some (.erase false s.idleSlot) ∧ t.rf (F.SETUP_SLOT_BUSY s.idleSlot) = 1 ∧
    t.rf (F.SETUP_SLOT_VALID s.idleSlot) = 0 ∧ t.rf (F.SETUP_SEQ_SEQ s.idleSlot) = 0 ∧ t.flash = (s.eraseFlash (setBase s.idleSlot) setBytes).flash ∧ t.mem = s.mem) ∧
  (∀ s : State, s.setup.op = none → ∃ t, exec .program s = .next t ∧
    t.setup.op = some (.program false s.idleSlot (s.rf F.SETUP_PROG_OFF_PIECE) (s.bufferBytes 0x50000 65536)) ∧ t.rf (F.SETUP_SLOT_BUSY s.idleSlot) = 1 ∧ t.flash = s.flash) ∧
  (∀ s : State, s.setup.op = none → ∃ t, exec .commit s = .next t ∧ t.setup.op = some (.commit false s.idleSlot) ∧ t.rf (F.SETUP_SLOT_BUSY s.idleSlot) = 1 ∧
    t.flash = s.flash) ∧
  (∀ s : State, s.setup.op = none → ∃ t, exec .fwErase s = .next t ∧ t.setup.op = some (.erase true s.otherFw) ∧ t.rf (F.LOCKET_FW_SLOT_BUSY s.otherFw) = 1 ∧
    t.rf (F.LOCKET_FW_SLOT_VALID s.otherFw) = 0 ∧ t.locket.fwPiece = none ∧ t.flash = (s.eraseFlash (fwBase s.otherFw) fwBytes).flash) ∧
  (∀ s : State, s.setup.op = none → s.pieceOk (s.rf F.SETUP_PROG_OFF_PIECE) (s.bufferBytes 0x50000 65536) = true → ∃ t, exec .fwProgram s = .next t ∧
    t.setup.op = some (.program true s.otherFw (s.rf F.SETUP_PROG_OFF_PIECE) (s.bufferBytes 0x50000 65536)) ∧
    t.locket.fwPiece = some (s.rf F.SETUP_PROG_OFF_PIECE + 1) ∧ t.rf (F.LOCKET_FW_SLOT_BUSY s.otherFw) = 1 ∧ t.flash = s.flash) ∧
  (∀ s : State, s.setup.op = none → ∃ t, exec .fwCommit s = .next t ∧ t.setup.op = some (.commit true s.otherFw) ∧ t.rf (F.LOCKET_FW_SLOT_BUSY s.otherFw) = 1) ∧
  (∀ (k i : Nat) (data : List Byte) (s : State), k < 2 → s.setup.op = some (.program false k i data) →
    ∃ t, exec (.flashOpDone true) s = .next t ∧ t.setup.op = none ∧ t.rf (F.SETUP_SLOT_BUSY k) = 0 ∧ t.rflash (setBase k + i * 65536) data.length = data) ∧
  (∀ (k : Nat) (s : State), k < 2 → s.setup.op = some (.erase true k) → ∃ t, exec (.flashOpDone true) s = .next t ∧ t.setup.op = none ∧ t.rf (F.LOCKET_FW_SLOT_BUSY k) = 0) ∧
  (∀ (k i : Nat) (data : List Byte) (s : State), k < 2 → s.setup.op = some (.program false k i data) →
    ∃ t, exec (.flashOpDone false) s = .next t ∧ t.setup.op = none ∧ t.rf (F.SETUP_SLOT_BUSY k) = 0 ∧ t.rf F.SETUP_ERR_PROG = 1 ∧ t.flash = s.flash)

/-- What the Locket keeps (R412, R422, R423, R425): an amendment in order is logged, and waits in a MEMBER for item 9; the security version rises to that of the running
image; a switch waits for item 11 while the step runs and a STEP_END is armed, and a wrong KEY changes nothing; an owner record in order and signed puts its slot and the
sequence number. Content keys (R429, R430, R431): a blob that unwraps to 32 bytes under the identity key, with a generation above both slots', puts its key into an empty
slot; a clear of a slot that neither encrypts nor is named by a stored Bead waits for item 11, or empties the slot at once in a halted step; a new encrypting slot waits
likewise. A command whose event cannot occur leaves the state as it is: the model's choice, log 6. -/
def Obligations.LocketRecordsAndKeysTakeEffect : Prop :=
  ((∀ s : State, s.amendReason (s.bufferBytes 0x60000 4096) = 0 → s.rf F.CHAIN_MEMBER_STATE = 2 →
    ∃ t, exec .amendSubmit s = .next t ∧ t.rf F.SETUP_ASEQ_ASEQ = amSeq (s.bufferBytes 0x60000 4096) ∧ t.rf F.SETUP_AMEND_STATUS = 1 ∧
      t.setup.amendments = s.setup.amendments ++ [(s.bufferBytes 0x60000 4096).take (amLen (s.bufferBytes 0x60000 4096))] ∧
      t.setup.logPages = s.setup.logPages + 1 ∧ t.flash = (s.wflash (logPage s.setup.logPages) ((s.bufferBytes 0x60000 4096).take (amLen (s.bufferBytes 0x60000 4096)))).flash) ∧
  (∀ s : State, s.rf F.LOCKET_SVN_COUNT < s.rf F.LOCKET_SVN_RUNNING →
    ∃ t, exec (.svnCommit 0x5356) s = .next t ∧ t.rf F.LOCKET_SVN_COUNT = s.rf F.LOCKET_SVN_RUNNING ∧ RegsAndRecords [8] s t) ∧
  (∀ (key : BitVec 16) (s : State), key ≠ 0x5356 → exec (.svnCommit key) s = .next s) ∧
  (∀ s : State, s.rf F.FRONT_STATUS_STEP ≠ 4 → s.front.armed.isSome = true →
    ∃ t, exec (.fwSwitch 0x5357) s = .next t ∧ t.locket.switchPending = true ∧ t.rf F.LOCKET_FW_STATUS_SWITCHING = 1 ∧ OnlyRegs [0] { s with locket := t.locket } t) ∧
  (∀ (key : BitVec 16) (s : State), key ≠ 0x5357 → exec (.fwSwitch key) s = .next s) ∧
  (∀ (s : State), s.ownerOk (s.bufferBytes 0x60000 ownerRecord) = true → s.ownerSigned (s.bufferBytes 0x60000 ownerRecord) = true → s.locket.owners.length = 8 →
    ∃ t, exec .ownerSubmit s = .next t ∧ t.locket.oseq = leAt (s.bufferBytes 0x60000 ownerRecord) 0x10 4 ∧
      t.rf (F.LOCKET_OWNER_VALID (leAt (s.bufferBytes 0x60000 ownerRecord) 5 1)) = (if leAt (s.bufferBytes 0x60000 ownerRecord) 4 1 = 1 then 1 else 0) ∧
      nth t.locket.owners (leAt (s.bufferBytes 0x60000 ownerRecord) 5 1) none =
        (if leAt (s.bufferBytes 0x60000 ownerRecord) 4 1 = 1 then
          some ⟨beNat (((s.bufferBytes 0x60000 ownerRecord).drop 0x20).take 384), leAt (s.bufferBytes 0x60000 ownerRecord) 0x10 4⟩ else none))) ∧
  ((∀ (slot : BitVec 1) (p : List Byte) (s : State), s.flag (keyValid slot.toNat) = false →
    s.rf (F.LOCKET_KEY_GEN_GEN 0) < leAt (s.bufferBytes 0x1000 400) 0 4 → s.rf (F.LOCKET_KEY_GEN_GEN 1) < leAt (s.bufferBytes 0x1000 400) 0 4 →
    oaepDecrypt s.locket.idModulus s.locket.idPrivate (s.keyLabel slot.toNat (leAt (s.bufferBytes 0x1000 400) 0 4)) (((s.bufferBytes 0x1000 400).drop 0x10).take 384) = some p →
    p.length = 32 →
    ∃ t, exec (.keyInstall slot) s = .next t ∧ (if slot.toNat = 0 then t.locket.key0 else t.locket.key1) = some p ∧ t.rf (keyValid slot.toNat) = 1 ∧
      t.rf (F.LOCKET_KEY_GEN_GEN slot.toNat) = leAt (s.bufferBytes 0x1000 400) 0 4 ∧ t.mem = s.mem) ∧
  (∀ (slot : BitVec 1) (s : State), s.rf F.FRONT_STATUS_STEP ≠ 4 → s.locket.encSlot ≠ slot.toNat → s.showKeyUse.rf (F.LOCKET_KEY_USE_COUNT slot.toNat) = 0 →
    ∃ t, exec (.keyClear slot) s = .next t ∧ slot.toNat ∈ t.locket.clearPending ∧ t.locket.key0 = s.locket.key0 ∧ t.locket.key1 = s.locket.key1) ∧
  (∀ (slot : BitVec 1) (s : State), s.rf F.FRONT_STATUS_STEP = 4 → s.locket.encSlot ≠ slot.toNat → s.showKeyUse.rf (F.LOCKET_KEY_USE_COUNT slot.toNat) = 0 →
    ∃ t, exec (.keyClear slot) s = .next t ∧ (if slot.toNat = 0 then t.locket.key0 else t.locket.key1) = none ∧ t.rf (keyValid slot.toNat) = 0) ∧
  (∀ (slot : BitVec 1) (s : State), s.rf F.FRONT_STATUS_STEP ≠ 4 →
    ∃ t, exec (.encSlotWrite slot) s = .next t ∧ t.locket.encPending = some slot.toNat ∧ t.locket.encSlot = s.locket.encSlot ∧
      t.rf F.LOCKET_KEY_CFG_ENC_SLOT = slot.toNat ∧ OnlyRegs [0x28] { s with locket := t.locket } t) ∧
  (∀ (slot : BitVec 1) (s : State), s.rf F.FRONT_STATUS_STEP = 4 → s.flag (keyValid slot.toNat) = true →
    ∃ t, exec (.encSlotWrite slot) s = .next t ∧ t.locket.encPending = none ∧ t.locket.encSlot = slot.toNat ∧ t.rf F.LOCKET_KEY_CFG_ENC_SLOT = slot.toNat))

/-- A start (R324, R404 to R407): enough voltage on an unpowered module releases the Locket, which keeps flash, fuses and what the host has been handed; a warm start with
its KEY goes to STRAPS with the other dies dark; equal straps name the module; straps that differ fail the start; powered dies, an aligned crossing and finished self-
tests let it go on. A command whose event cannot occur leaves the state as it is: the model's choice, log 6. -/
def Obligations.StartGoesThroughItsStates : Prop :=
  (∀ (v : Nat) (s : State), 3200 ≤ v → s.power.dies = [] →
    ∃ t, exec (.coldStart v) s = .next t ∧ t.rf F.SETUP_STATE_STATE = 1 ∧ t.rf F.BOARD_STATUS_PRESENT = 1 ∧ t.power.dies = [19] ∧ t.power.failing = false ∧ t.mem = [] ∧
      t.flash = s.flash ∧ t.locket.fused = s.locket.fused ∧ t.locket.owners = s.locket.owners ∧ t.hostOut = s.hostOut ∧ t.setup.elapsed = 100 ∧
      t.rf F.EVENT_SEQ_SEQ = s.rf F.EVENT_SEQ_SEQ ∧ t.rf F.LIFE_HOURS_HOURS = s.rf F.LIFE_HOURS_HOURS ∧ t.rf F.LOCKET_SVN_COUNT = s.rf F.LOCKET_SVN_COUNT) ∧
  (∀ s : State, s.power.failing = false → 19 ∈ s.power.dies → s.rf F.SETUP_STATE_STATE ≠ 1 → s.rf F.SETUP_STATE_STATE ≠ 13 → s.flag F.LOCKET_FW_STATUS_RECOVERY = false →
    ∃ t, exec (.warm 0x5752) s = .next t ∧ t.rf F.SETUP_STATE_STATE = 2 ∧ t.rf F.SETUP_STATE_WARM = 1 ∧ t.power.dies = [19] ∧ t.mem = [] ∧ t.cores = [] ∧
      t.rf F.HOSTIF_STATUS_MODULE_READY = 0 ∧ t.locket.key0 = none ∧ t.flash = s.flash) ∧
  (∀ (key : BitVec 16) (s : State), key ≠ 0x5752 → exec (.warm key) s = .next s) ∧
  (∀ (r : StartOut) (a : Nat × Nat) (s : State), s.power.failing = false → s.rf F.SETUP_STATE_STATE = 2 → r.straps = [a, a, a] → r.refclk = true →
    ∃ t, exec (.startupStateDone r) s = .next t ∧ t.rf F.SETUP_STATE_STATE = 3 ∧ t.rf F.SETUP_IDENT_POS = a.1 % 32 ∧ t.rf F.SETUP_IDENT_STAGE = a.2 % 64 ∧
      t.rf F.SETUP_IDENT_MODULE_ID = a.2 % 64 * 32 + a.1 % 32 ∧ t.setup.elapsed = s.setup.elapsed + r.ms) ∧
  (∀ (r : StartOut) (a b c : Nat × Nat) (s : State), s.power.failing = false → s.rf F.SETUP_STATE_STATE = 2 → r.straps = [a, b, c] → (a ≠ b ∨ b ≠ c) →
    ∃ t, exec (.startupStateDone r) s = .next t ∧ t.rf F.SETUP_STATE_STATE = 12 ∧ t.rf F.SETUP_STATE_CAUSE = 1 ∧ t.mem = [] ∧ (∀ d ∈ t.power.dies, d = 19)) ∧
  (∀ (r : StartOut) (s : State), s.power.failing = false → s.rf F.SETUP_STATE_STATE = 4 → 460 ≤ r.holdup → (∀ d < 19, d ∈ r.ready) →
    ∃ t, exec (.startupStateDone r) s = .next t ∧ t.rf F.SETUP_STATE_STATE = 5 ∧ t.power.dies = List.range 20 ∧ t.rf F.BOARD_STATUS_HOLDUP_OK = 1) ∧
  (∀ (r : StartOut) (s : State), s.power.failing = false → s.rf F.SETUP_STATE_STATE = 6 → s.tests = [] →
    ∃ t, exec (.startupStateDone r) s = .next t ∧ t.rf F.SETUP_STATE_STATE = 7 ∧ t.mem = s.mem) ∧
  (∀ s : State, s.rf F.SETUP_STATE_STATE = 5 → s.loupe.aligned = false →
    ∃ t, exec (.alignEdge []) s = .next t ∧ t.loupe.aligned = true ∧ (∀ q ∈ t.casket.queues, q.1 < 1792) ∧ t.regs = s.regs ∧ t.mem = s.mem)

/-- Self-test (R451, R453): in a halted step TEST_CMD starts a test of a die that has none, and shows it; a test's end shows the FAILMAP, and whether the die has passed.
Retiring and migrating a core (R459 to R461): a migration puts every handle of the old slot behind its stub and names the spare; at the pass boundary the spare presents
the logical core with every handle's words, the old slot presents nothing, the epoch rises. -/
def Obligations.SelfTestAndMigrationTakeEffect : Prop :=
  ((∀ (d kind : Nat) (s : State), d < 17 → 0 < kind → kind < 4 → s.rf F.FRONT_STATUS_STEP = 4 → (s.tests.any (fun t => t.die == d)) = false →
    ∃ t, exec (.testCmd d kind) s = .next t ∧ t.tests = s.tests ++ [⟨d, kind⟩] ∧ t.rf (F.TEST_RESULT_STATUS_STATE d) = 1 ∧ t.rf (F.TEST_RESULT_STATUS_KIND d) = kind ∧
      OnlyRegs [(F.TEST_RESULT_STATUS_STATE d).off] { s with tests := t.tests } t) ∧
  (∀ (d : Nat) (r : BistOut) (u : TestRun) (s : State), d < 20 → s.tests.find? (fun t => t.die == d) = some u →
    ∃ t failMap, exec (.bistDone d r) s = .next t ∧
      failMap = (if bit u.kind 0 then ((List.range (partitions d)).map (fun p => if nth r.lbist p 0 = goldenLbist d p then 0 else 2 ^ p)).sum else 0) ∧
      t.tests = s.tests.filter (fun x => x.die != d) ∧ t.rf (F.TEST_RESULT_FAILMAP_MAP d) = failMap ∧
      t.rf (F.TEST_RESULT_STATUS_STATE d) = (if failMap ≠ 0 ∨ (bit u.kind 1 = true ∧ (r.badBanks ≠ [] ∨ r.mbist ≠ goldenMbist d)) then 3 else 2))) ∧
  ((∀ (m o n : Nat) (s : State), s.physOf m = some o → s.migration = none → s.spareFor o = some n →
    ∃ t, exec (.migrate m false) s = .next t ∧ t.migration = some ⟨m, o, n, 0⟩ ∧ (∀ h < 64, t.rf (F.HANDLE_A_STUB o h) = 1) ∧ t.rf F.SPARE_STATUS_MIGRATING = 1 ∧
      t.rf F.SPARE_STATUS_LOGICAL = m ∧ (⟨o, none⟩ : BadUnit) ∈ t.locket.soft ∧ t.locket.fused = s.locket.fused ∧ t.mem = s.mem) ∧
  (∀ (n k : Nat) (s : State), n < 384 → s.rf F.SPARE_CFG_UE_LIMIT ≠ 0 → s.rf F.SPARE_CFG_UE_LIMIT ≤ (s.core n).ueStep → s.flag (F.CORE_ID_ENABLED n) = true →
    s.migration = none → s.spareFor n = some k →
    ∃ t, exec (.coreRetire n) s = .next t ∧ t.migration = some ⟨s.logicalOf n, n, k, 1⟩ ∧ (∀ h < 64, t.rf (F.HANDLE_A_STUB n h) = 1) ∧ t.mem = s.mem) ∧
  (∀ (g : Migration) (s : State), s.migration = some g → g.old < 384 → g.new < 384 → g.old ≠ g.new → g.logical < 320 → (s.core g.old).runs = [] →
    (s.core g.old).chain = none →
    ∃ t, exec .migrationPassBoundary s = .next t ∧ t.migration = none ∧ t.rf (F.CORE_ID_LOGICAL g.new) = g.logical ∧ t.rf (F.CORE_ID_ENABLED g.new) = 1 ∧
      t.rf (F.CORE_ID_ENABLED g.old) = 0 ∧ t.rf (F.CORE_ID_LOGICAL g.old) = 0x1FF ∧
      t.rf (F.SPARE_EPOCH_EPOCH g.logical) = (s.rf (F.SPARE_EPOCH_EPOCH g.logical) + 1) % 2 ^ 16 ∧
      t.rf (F.SPARE_CNT_COUNT 0) = satAdd 32 (s.rf (F.SPARE_CNT_COUNT 0)) 1 ∧
      (∀ h < 64, t.rf (F.HANDLE_A_VALID g.new h) = s.rf (F.HANDLE_A_VALID g.old h) ∧ t.rf (F.HANDLE_D_GEN g.new h) = s.rf (F.HANDLE_D_GEN g.old h) ∧
        t.rf (F.HANDLE_ARR_ARR g.new h) = s.rf (F.HANDLE_ARR_ARR g.old h)) ∧
      (t.core g.old).forwardTo = some g.new ∧ (t.core g.new).holds = (s.core g.old).holds))

/-- What going on to the next descriptor, and what a fault of a task, may touch (R151, R286, R287): the front end, the core's engines, grants of constant buffers, waiting
GCLOSE and CGACC, event records, and the registers of those; memory, poison tags, flash, links, handles, Clasp values, queues and every other register stay. A task that
aborts (R151, R153): CORE.ABORT names cause, descriptor and resume point (the first member of a chain in progress), CORE.STATE.TASK reads ABORTED, the launch that loses
its first task keeps cause and descriptor. -/
def Obligations.FaultsAndGoingOnKeepTheData : Prop :=
  ((∀ (m : Nat) (s : State), TaskFrame s (s.nextDesc m)) ∧ (∀ (m cause : Nat) (s : State), TaskFrame s (s.fault m cause))) ∧
  (∀ (m n cause : Nat) (s : State), s.physOf m = some n → cause < 256 →
    (s.fault m cause).rf (F.CORE_ABORT_CAUSE n) = cause ∧ (s.fault m cause).rf (F.CORE_ABORT_DESC n) = s.descOf m % 2 ^ 24 ∧
      (s.fault m cause).rf (F.CORE_ABORT_PASS_P n) = (match (s.core n).chain with | some c => c.at0 | none => 0) % 2 ^ 32 ∧ (s.fault m cause).rf (F.CORE_STATE_TASK n) = taskAborted ∧
      ((s.fault m cause).core n).runs = [] ∧ ((s.fault m cause).core n).transfers = [] ∧ (s.fault m cause).mem = s.mem)

/-- HSET, HCLOSE and WAIT_ARR (R161, R165, R168): a handle that passes the checks takes the fields of the descriptor, and one that was open is closed first, so that GEN
rises and ARR is 0; a close does the same and ends window and remote reads; a wait whose count has come ends at once, and another waits. A STREAM descriptor that may not
start yet (R138, R179) changes nothing. A command whose event cannot occur leaves the state as it is: the model's choice, log 6. -/
def Obligations.HandlesAreSetAndClosed : Prop :=
  (∀ (m n : Nat) (d : BitVec 256) (s : State), s.AtIssue m n d → hsetDecode d = true → s.hBusy n (descField d 2 1) = false →
    s.hsetBad n (descField d 2 1) (descField d 4 4) (descField d 8 4) (bits (descField d 3 1) 2 1) (descField d 0xC 3) (descField d 0xF 1) = false →
    let h := descField d 2 1
    ∃ u : State, exec (.hset m d 0) s = .next (u.nextDesc m) ∧ u.rf (F.HANDLE_A_VALID n h) = 1 ∧ u.rf (F.HANDLE_A_BASE n h) = descField d 4 4 ∧
      u.rf (F.HANDLE_B_LEN_M1 n h) = descField d 8 4 ∧ u.rf (F.HANDLE_A_WINDOW n h) = bits (descField d 3 1) 0 1 ∧
      u.rf (F.HANDLE_A_RREAD n h) = bits (descField d 3 1) 1 1 ∧ u.rf (F.HANDLE_A_LAYOUT n h) = bits (descField d 3 1) 2 1 ∧
      u.rf (F.HANDLE_C_ROWLEN n h) = descField d 0xC 3 ∧ u.rf (F.HANDLE_C_FMT n h) = descField d 0xF 1 ∧
      u.hCbase n h = descField d 0x10 5 ∧
      u.rf (F.HANDLE_D_GEN n h) = (if s.hOpen n h then (s.rf (F.HANDLE_D_GEN n h) + 1) % 2 ^ 16 else s.rf (F.HANDLE_D_GEN n h)) ∧
      u.rf (F.HANDLE_ARR_ARR n h) = (if s.hOpen n h then 0 else s.rf (F.HANDLE_ARR_ARR n h)) ∧ u.mem = s.mem ∧
      (∀ k j, k < 64 → k ≠ h → j < 8 → u.rd (slotBase n + 0x200 + 0x20 * k + 4 * j) = s.rd (slotBase n + 0x200 + 0x20 * k + 4 * j))) ∧
  (∀ (m n : Nat) (d : BitVec 256) (s : State), s.AtIssue m n d → descHeader d 2 = true → descField d 1 1 = 4 → descField d 2 1 < 64 → descField d 3 1 < 2 →
    descZero d 4 32 = true → s.hBusy n (descField d 2 1) = false → s.hValid n (descField d 2 1) = true →
    let h := descField d 2 1
    ∃ u : State, exec (.hclose m d 0) s = .next (u.nextDesc m) ∧ u.rf (F.HANDLE_A_WINDOW n h) = 0 ∧ u.rf (F.HANDLE_A_RREAD n h) = 0 ∧
      u.rf (F.HANDLE_A_VALID n h) = 1 - descField d 3 1 ∧ u.rf (F.HANDLE_A_BASE n h) = s.rf (F.HANDLE_A_BASE n h) ∧
      u.rf (F.HANDLE_B_LEN_M1 n h) = s.rf (F.HANDLE_B_LEN_M1 n h) ∧
      u.rf (F.HANDLE_D_GEN n h) = (if s.hOpen n h then (s.rf (F.HANDLE_D_GEN n h) + 1) % 2 ^ 16 else s.rf (F.HANDLE_D_GEN n h)) ∧
      u.rf (F.HANDLE_ARR_ARR n h) = (if s.hOpen n h then 0 else s.rf (F.HANDLE_ARR_ARR n h)) ∧ u.mem = s.mem ∧
      (∀ k j, k < 64 → k ≠ h → j < 8 → u.rd (slotBase n + 0x200 + 0x20 * k + 4 * j) = s.rd (slotBase n + 0x200 + 0x20 * k + 4 * j))) ∧
  (∀ (m n : Nat) (d : BitVec 256) (s : State), s.AtIssue m n d → descHeader d 2 = true → descField d 1 1 = 5 → descField d 2 1 < 64 → descField d 3 1 = 0 →
    descZero d 8 32 = true → s.hBusy n (descField d 2 1) = false → s.hValid n (descField d 2 1) = true →
    exec (.waitArr m d 0) s = .next (if descField d 4 4 ≤ s.rf (F.HANDLE_ARR_ARR n (descField d 2 1)) then s.nextDesc m
      else s.block m (.arrivals (descField d 2 1) (descField d 4 4)))) ∧
  (∀ (m n : Nat) (d : BitVec 256) (s : State), s.AtIssue m n d → descHeader d 2 = false →
    exec (.hset m d 0) s = .next (s.fault m 1) ∧ exec (.hclose m d 0) s = .next (s.fault m 1) ∧ exec (.waitArr m d 0) s = .next (s.fault m 1)) ∧
  (∀ c ∈ streamCommands, ∀ (m n k : Nat) (d : BitVec 256) (w : Upset) (s : State), s.physOf m = some n →
    (s.depPending n = true ∨ (k = 0 ∧ s.issues m d = false) ∨ (0 < k ∧ ∀ t, s.curTask m = some t → s.mayRunAhead n t k d = false)) →
    exec (c m d k w) s = .next s)

/-- FILL and COPY (R159, R158, R181): with their handles valid, long enough and free, and the banks awake, FILL writes its value to every word and COPY reads the whole
source before it writes; a poisoned source word faults the stream engine, and nothing is written. A FILL that the engine starts ahead of its task (R179) writes the same,
and the task stays where it stands. -/
def Obligations.FillAndCopyWriteTheirBuffers : Prop :=
  (∀ (m n : Nat) (d : BitVec 256) (s : State), s.AtIssue m n d → descHeader d 2 = true → descField d 1 1 = 1 → descField d 2 1 < 64 → descField d 3 1 = 0 →
    descField d 4 4 < 2 ^ 23 → 1 ≤ descField d 8 4 → descField d 8 4 ≤ 2097152 → descZero d 0x10 32 = true → s.hBusy n (descField d 2 1) = false →
    s.hValid n (descField d 2 1) = true → (descField d 4 4 + descField d 8 4) * 4 ≤ s.hBytes n (descField d 2 1) →
    (∀ b ∈ banksOf (s.hStart n (descField d 2 1) + descField d 4 4 * 4) (descField d 8 4 * 4), s.bank n b = .on ∨ s.bank n b = .gatePend) →
    let a := s.hAddr n (descField d 2 1) (descField d 4 4 * 4)
    ∃ u : State, exec (.fill m d 0) s = .next (u.nextDesc m) ∧
      (∀ i, i < descField d 8 4 * 4 → u.rb (a + i) = BitVec.ofNat 8 (descField d 0xC 4 / 2 ^ (8 * (i % 4)))) ∧
      (∀ x, x < a ∨ a + descField d 8 4 * 4 ≤ x → u.rb x = s.rb x) ∧ { u with mem := s.mem, poison := s.poison } = s) ∧
  (∀ (m n : Nat) (d : BitVec 256) (w : Upset) (s : State), s.AtIssue m n d → descHeader d 2 = true → descField d 1 1 = 2 → descField d 2 1 < 64 →
    descField d 3 1 < 64 → descField d 4 4 < 2 ^ 23 → descField d 8 4 < 2 ^ 23 → 1 ≤ descField d 0xC 4 → descField d 0xC 4 < 2 ^ 22 → descZero d 0x10 32 = true →
    s.hWritten n (descField d 2 1) = false → s.hBusy n (descField d 3 1) = false → s.hValid n (descField d 2 1) = true → s.hValid n (descField d 3 1) = true →
    (descField d 4 4 + descField d 0xC 4) * 4 ≤ s.hBytes n (descField d 2 1) → (descField d 8 4 + descField d 0xC 4) * 4 ≤ s.hBytes n (descField d 3 1) →
    let len := descField d 0xC 4 * 4
    let p := s.touch n (s.hStart n (descField d 2 1) + descField d 4 4 * 4) len true
    let q := p.1.touch n (s.hStart n (descField d 3 1) + descField d 8 4 * 4) len false
    let a := s.hAddr n (descField d 2 1) (descField d 4 4 * 4)
    let b := s.hAddr n (descField d 3 1) (descField d 8 4 * 4)
    p.2 = true → q.2 = true →
    ((q.1.meet w).poisonedAt a len = false → ∃ u : State, exec (.copy m d w 0) s = .next (u.nextDesc m) ∧ (∀ i, i < len → u.rb (b + i) = s.rb (a + i)) ∧
      (∀ x, x < b ∨ b + len ≤ x → u.rb x = s.rb x) ∧
      { u with mem := s.mem, poison := (q.1.meet w).poison, cores := (q.1.meet w).cores } = q.1.meet w ∧ (∀ k, k ≠ n → u.core k = (q.1.meet w).core k) ∧
      { u.core n with runs := [] } = { (q.1.meet w).core n with runs := [] }) ∧
    ((q.1.meet w).poisonedAt a len = true → exec (.copy m d w 0) s = .next ((q.1.meet w).streamFault m 6 0 a (s.descOf m)))) ∧
  (∀ (m n : Nat) (d : BitVec 256) (w : Upset) (s : State), s.AtIssue m n d → descHeader d 2 = false →
    exec (.fill m d 0) s = .next (s.fault m 1) ∧ exec (.copy m d w 0) s = .next (s.fault m 1)) ∧
  (∀ (m n k : Nat) (t : Task) (d : BitVec 256) (s : State), s.Ahead m n t k d → (∀ x ∈ s.front.tasks, x.id = t.id → x = t) → descHeader d 2 = true → descField d 1 1 = 1 → descField d 2 1 < 64 →
    descField d 3 1 = 0 → descField d 4 4 < 2 ^ 23 → 1 ≤ descField d 8 4 → descField d 8 4 ≤ 2097152 → descZero d 0x10 32 = true →
    s.hBusy n (descField d 2 1) = false → s.hValid n (descField d 2 1) = true → (descField d 4 4 + descField d 8 4) * 4 ≤ s.hBytes n (descField d 2 1) →
    (∀ b ∈ banksOf (s.hStart n (descField d 2 1) + descField d 4 4 * 4) (descField d 8 4 * 4), s.bank n b = .on ∨ s.bank n b = .gatePend) →
    let a := s.hAddr n (descField d 2 1) (descField d 4 4 * 4)
    ∃ v : State, exec (.fill m d k) s = .next v ∧
      (∀ i, i < descField d 8 4 * 4 → v.rb (a + i) = BitVec.ofNat 8 (descField d 0xC 4 / 2 ^ (8 * (i % 4)))) ∧
      (∀ x, x < a ∨ a + descField d 8 4 * 4 ≤ x → v.rb x = s.rb x) ∧ v.curTask m = some { t with started := (t.desc + k) :: t.started })

/-- Bank gating (R169, R170): an idle ungated bank that no valid handle covers pends; a pending bank with no write in flight and no access that waits loses power and its
words read 0; a wake ends with the bank ON and every word 0. A command whose event cannot occur leaves the state as it is: the model's choice, log 6. -/
def Obligations.BanksGateAndWake : Prop :=
  (∀ (n b : Nat) (s : State), b < 64 → s.flag (F.CSTORE_CTRL_GATE_EN n) = true → s.bank n b = .on →
    (∀ h < 64, s.hValid n h = true → b ∉ banksOf (s.hStart n h) (s.hBytes n h)) →
    ∃ t : State, exec (.bankGatePend n b) s = .next t ∧ t.bank n b = .gatePend ∧ (∀ k, k ≠ b → t.bank n k = s.bank n k) ∧ t.mem = s.mem ∧
      OnlyRegs [slotBase n + 0x120, slotBase n + 0x124] { s with cores := t.cores } t) ∧
  (∀ (n b : Nat) (s : State), s.bank n b = .gatePend → s.bankWrites n b = 0 → s.bankAwaited n b = false →
    ∃ t : State, exec (.bankPowerOff n b) s = .next t ∧ t.bank n b = .off ∧ (∀ k, k ≠ b → t.bank n k = s.bank n k) ∧
      (∀ o, o < storeBytes → bankOf o = b → t.rb (storeBase n + o) = 0) ∧
      (Memory.wf s.mem = true → ∀ a, (∀ o, o < storeBytes → bankOf o = b → a ≠ storeBase n + o) → t.rb a = s.rb a)) ∧
  (∀ (n b : Nat) (s : State), s.bankWrites n b ≠ 0 ∨ s.bankAwaited n b = true → exec (.bankPowerOff n b) s = .next s) ∧
  (∀ (n b : Nat) (s : State), s.bank n b = .waking → ∃ t : State, exec (.bankWakeDone n b) s = .next t ∧ t.bank n b = .on) ∧
  (∀ (n b : Nat) (s : State), s.bank n b = .waking → (∀ e ∈ (s.core n).heldAccess, e.1 = none) → s.pcie.held = [] →
    ∃ t : State, exec (.bankWakeDone n b) s = .next t ∧ t.bank n b = .on ∧ (∀ k, k ≠ b → t.bank n k = s.bank n k) ∧
      (∀ o, o < storeBytes → bankOf o = b → t.rb (storeBase n + o) = 0) ∧
      (Memory.wf s.mem = true → ∀ a, (∀ o, o < storeBytes → bankOf o = b → a ≠ storeBase n + o) → t.rb a = s.rb a))

/-- Remote accesses (R165 to R167, R461): a packet of the generation in force to an open window, within its range, is written and counted in ARR; one of another
generation is dropped, counted and named in LAST_STALE; one that no window takes is dropped and counted; a permitted read returns the bytes to the engine that asked; an
access held at a slot that forwards goes on to the spare that took its place. -/
def Obligations.RemoteAccessesAreChecked : Prop :=
  (∀ (a : Access) (n o h : Nat) (s : State), n < 384 → a.isRead = false → a.data ≠ [] → a.addr % 512 + a.data.length ≤ 512 → s.coreAt a.addr = some (n, o) →
    s.handleAt n o = some h → s.flag (F.HANDLE_A_STUB n h) = false → (s.touch n o a.data.length false).2 = true →
    s.heldMeets n o a.data.length = false →
    let v := (s.touch n o a.data.length false).1
    (a.gen = s.rf (F.HANDLE_D_GEN n h) → s.flag (F.HANDLE_A_WINDOW n h) = true → o + a.data.length ≤ s.hStart n h + s.hBytes n h →
      ∃ u : State, exec (.remoteWrite a) s = .next (u.countArrival n h) ∧ u.rbs (storeBase n + o) a.data.length = a.data ∧
        (∀ x, x < storeBase n + o ∨ storeBase n + o + a.data.length ≤ x → u.rb x = s.rb x) ∧ { u with mem := v.mem, poison := v.poison } = v) ∧
    (a.gen ≠ s.rf (F.HANDLE_D_GEN n h) → ∃ t : State, exec (.remoteWrite a) s = .next t ∧ t.mem = s.mem ∧
      t.rf (F.CSTORE_STALE_WR_COUNT n) = min (2 ^ 32 - 1) (s.rf (F.CSTORE_STALE_WR_COUNT n) + 1) ∧ t.rf (F.CSTORE_ERR_STALE_WR n) = 1 ∧
      t.rf (F.CSTORE_LAST_STALE_HANDLE n) = h ∧ t.rf (F.CSTORE_LAST_STALE_GEN n) = a.gen % 2 ^ 16 ∧ t.rf (F.CSTORE_LAST_STALE_SRC n) = a.source % 2 ^ 9 ∧
      (∀ k, t.rf (F.HANDLE_ARR_ARR n k) = s.rf (F.HANDLE_ARR_ARR n k) ∨ 64 ≤ k)) ∧
    (a.gen = s.rf (F.HANDLE_D_GEN n h) → s.flag (F.HANDLE_A_WINDOW n h) = false ∨ s.hStart n h + s.hBytes n h < o + a.data.length →
      ∃ t : State, exec (.remoteWrite a) s = .next t ∧ t.mem = s.mem ∧ t.rf (F.CSTORE_BAD_WR_COUNT n) = min (2 ^ 32 - 1) (s.rf (F.CSTORE_BAD_WR_COUNT n) + 1) ∧
        t.rf (F.CSTORE_ERR_BAD_WR n) = 1)) ∧
  (∀ (a : Access) (n o h r : Nat) (w : Upset) (s : State), a.isRead = true → s.coreAt a.addr = some (n, o) → s.handleAt n o = some h →
    s.flag (F.HANDLE_A_STUB n h) = false → ((s.meet w).touch n o a.len true).2 = true → s.heldMeets n o a.len = false → s.readOk n h o a = true →
    (s.meet w).poisonedAt (storeBase n + o) a.len = false → s.physOf a.source = some r →
    ∃ t : State, exec (.remoteRead a w) s = .next t ∧ (t.core r).remoteData = some (s.rbs (storeBase n + o) a.len) ∧ t.mem = s.mem) ∧
  (∀ (o n h : Nat) (e : Option Nat × Access) (s : State), (s.core o).forwardTo = some n → (s.core o).heldAccess.find? (fun e => e.1.isNone) = some e →
    (s.touch n (e.2.addr % 0x01000000) (if e.2.isRead then e.2.len else e.2.data.length) e.2.isRead).2 = true →
    e.2.epoch + 1 = s.rf (F.SPARE_EPOCH_EPOCH (s.logicalOf n)) → s.handleAt n (e.2.addr % 0x01000000) = some h →
    ∃ u : State, exec (.forwardedAccess o) s = .next (if e.2.isRead then u.serveAccess n h (e.2.addr % 0x01000000) e.2
        else (u.serveAccess n h (e.2.addr % 0x01000000) e.2).packetDone e.2) ∧
      (u.core o).heldAccess = (s.core o).heldAccess.erase e ∧ u.mem = s.mem) ∧
  (∀ (o n : Nat) (e : Option Nat × Access) (s : State), (s.core o).forwardTo = some n → (s.core o).heldAccess.find? (fun e => e.1.isNone) = some e →
    (s.touch n (e.2.addr % 0x01000000) (if e.2.isRead then e.2.len else e.2.data.length) e.2.isRead).2 = true →
    e.2.epoch + 1 ≠ s.rf (F.SPARE_EPOCH_EPOCH (s.logicalOf n)) →
    ∃ t : State, exec (.forwardedAccess o) s = .next (if e.2.isRead then t else t.packetDone e.2) ∧ t.mem = s.mem ∧ (t.core o).heldAccess = (s.core o).heldAccess.erase e ∧ t.rf F.SPARE_ERR_FWD_DROP = 1)

/-- RUN and its transfers (R172, R175, R177): a program that passes its check is copied and joins the engine's RUNs, and its transfers begin; a program that breaks a rule
aborts the task with DECODE, one that names an invalid handle with HANDLE; a transfer that may land puts its bytes at its destination and gives its place to the next; one
that a refused read or a poisoned word ends faults the engine. Arrivals at a module address of LPDDR5X or the Casket, and at an array port: the destination takes the
bytes in order (R163, R177). -/
def Obligations.RunsMoveTheirElements : Prop :=
  ((∀ (m n : Nat) (d : BitVec 256) (w : Upset) (s : State), s.AtIssue m n d → runDecode d = true → (s.core n).runs.length < 8 → s.hWritten n (descField d 3 1) = false →
    s.hValid n (descField d 3 1) = true → descField d 4 4 + (descField d 2 1 + 1) * 16 ≤ s.hBytes n (descField d 3 1) →
    (s.touch n (s.hStart n (descField d 3 1) + descField d 4 4) ((descField d 2 1 + 1) * 16) true).2 = true →
    let v := (s.touch n (s.hStart n (descField d 3 1) + descField d 4 4) ((descField d 2 1 + 1) * 16) true).1.meet w
    v.poisonedAt (v.hAddr n (descField d 3 1) (descField d 4 4)) ((descField d 2 1 + 1) * 16) = false →
    let prog := takeProgram ((List.range (descField d 2 1 + 1)).map (fun i =>
      BitVec.ofNat 128 (s.rle (s.hAddr n (descField d 3 1) (descField d 4 4 + 16 * i)) 16)))
    let out := v.progCheck n (v.streamBehind m n (s.descOf m)) prog
    (out = .decode → exec (.run m d 0 w) s = .next (v.fault m 1)) ∧
    (out = .handle → exec (.run m d 0 w) s = .next (v.fault m 4)) ∧
    (∀ p dst, out = .ok p → p.dst = some dst → (dst.space = 1 → v.hBusy n (bits dst.value 0 6) = false) →
      (∀ h ∈ p.handles, v.hWritten n h = false) → (dst.space < 2 → v.hValid n (descField d 0xA 1) = true ∧ v.hWritten n (descField d 0xA 1) = false) →
      let idx := v.touchHandles n (((match p.gather with | some g => [g.hi] | none => []) ++ (match p.scatter with | some g => [g.hi] | none => [])).map (fun h => (h, true)))
      idx.2 = true →
      let x := idx.1.setCore n { idx.1.core n with runs := insertRun ⟨s.descOf m, d, prog, p.total, 0, none, [], 0, 0⟩ (idx.1.core n).runs }
      (x.issueAll n m 9).flag (F.STREAM_STATUS_FAULTED n) = false →
      exec (.run m d 0 w) s = .next ((x.issueAll n m 9).nextDesc m) ∧
        (∃ r ∈ ((x.issueAll n m 9).core n).runs, r.desc = s.descOf m ∧ r.program = prog ∧ r.total = p.total ∧ r.attached = none) ∧
        (x.issueAll n m 9).mem = s.mem)) ∧
  (∀ (m n i : Nat) (t : Transfer) (w : Upset) (data : List Byte) (s : State), s.physOf m = some n → (s.core n).transfers[i]? = some t → t.held = 0 →
    let run := (s.core n).runs.find? (fun r => r.desc == t.desc)
    let vary := match run with | some r => r.mayVary | none => false
    (vary = true ∨ ∀ x ∈ (s.core n).transfers.take i, x.desc = t.desc → x.overlaps t = false) → (s.touchEnds n t).2 = true →
    let v := (s.touchEnds n t).1.meet w
    let v := match t.src with | .module a _ => v.wake a t.len | _ => v
    let v := match t.dst with | .module a _ => v.wake a t.len | _ => v
    let addr := match t.src with | .module a _ => a | .store o => storeBase n + o | .port _ => 0
    let instr := match run.bind RunX.prog with | some (_, a, _, _) => a.at0 | none => 0
    (exec (.streamTransferDone m i .poisoned w) s = .next ((v.freeOwner (stageOwner n t)).streamFault m 6 instr addr t.desc)) ∧
    (exec (.streamTransferDone m i .refused w) s = .next (((v.refusedAt t.src).freeOwner (stageOwner n t)).streamFault m 5 instr addr t.desc)) ∧
    (v.fetch n m t = .ok data →
      let z := v.freeOwner (stageOwner n t)
      let z := if vary then z.taskVarianceN 0x02 m t.desc (dupCount t (((s.core n).transfers.eraseIdx i).filter (fun x => x.desc == t.desc))) else z
      let l := z.land n m t data
      l.2 = 0 →
      let x := (l.1.countMoved n t).countStash addr
      exec (.streamTransferDone m i .done w) s =
        .next ((x.setCore n { x.core n with transfers := (x.core n).transfers.eraseIdx i }).transferGone n m t) ∧
      (∀ o, t.dst = .store o → (∀ j, j < data.length → x.rb (storeBase n + o + j) = data.getD j 0) ∧
        ∀ a, a < storeBase n + o ∨ storeBase n + o + data.length ≤ a → x.rb a = z.rb a)))) ∧
  ((∀ (n m : Nat) (t : Transfer) (a g : Nat) (data : List Byte) (s : State), t.dst = .module a g → s.coreAt a = none →
    (s.land n m t data).1.rbs a data.length = data ∧ (s.land n m t data).2 = 0 ∧
      ∀ x, x < a ∨ a + data.length ≤ x → (s.land n m t data).1.rb x = s.rb x) ∧
  (∀ (n m : Nat) (t : Transfer) (b : Bool) (data : List Byte) (s : State), t.dst = .port b →
    ((s.land n m t data).1.core n).portBytes b = (s.core n).portBytes b ++ data ∧
      ((s.land n m t data).1.core n).portBytes (!b) = (s.core n).portBytes (!b) ∧ (s.land n m t data).1.mem = s.mem ∧ (s.land n m t data).2 = 0))

/-- The allocator (R190): a request of a stream with none waiting takes the lowest free slot of its arena while its LIMIT allows, else the lowest run of the shared part;
one above SLOT, or for no stripe, is refused and recorded; one that does not fit waits, behind the earlier ones of its stream. What waits (R190, R193): the retry grants
the oldest waiting request when it fits, and leaves it waiting when it does not, where nothing else waits that the retry sends on; a request that has waited past
NOPROG_LIMIT shows in STAT and LAST_NOPROG, sets the error bit and aborts the step. A command whose event cannot occur leaves the state as it is: the model's choice, log
6. -/
def Obligations.RequestsAreGrantedRefusedOrWait : Prop :=
  (∀ (i n : Nat) (o : Owner) (s : State), i < 32 → s.casket.grants.find? (fun g => g.owner == o && g.stream == i) = none →
    (1 ≤ n → n ≤ s.rf (F.CASKET_SLOT_STRIPES i) → (∀ r ∈ s.casket.waiting, r.stream ≠ i) →
      (s.rf (F.CASKET_LIMIT_STRIPES i) = 0 ∨ s.rf (F.CASKET_USE_STRIPES i) + n ≤ s.rf (F.CASKET_LIMIT_STRIPES i)) →
      (∀ k, s.freeArenaSlot i = some k → ∃ t : State, exec (.allocRequest i n o) s = .next t ∧
        t.casket.grants = ⟨i, s.arenaBase i + k * s.rf (F.CASKET_SLOT_STRIPES i), n, some k, o⟩ :: s.casket.grants ∧
        t.rf (F.CASKET_USE_STRIPES i) = (s.rf (F.CASKET_USE_STRIPES i) + n) % 2 ^ 24 ∧ t.rf (F.CASKET_STAT_NOPROG i) = 0 ∧
        t.casket.waiting = s.casket.waiting ∧ t.mem = s.mem) ∧
      (∀ r, s.freeArenaSlot i = none → s.lowestRun n = some r → ∃ t : State, exec (.allocRequest i n o) s = .next t ∧
        t.casket.grants = ⟨i, r, n, none, o⟩ :: s.casket.grants ∧ t.rf (F.CASKET_USE_STRIPES i) = (s.rf (F.CASKET_USE_STRIPES i) + n) % 2 ^ 24 ∧
        t.casket.waiting = s.casket.waiting ∧ t.mem = s.mem) ∧
      (s.freeArenaSlot i = none → s.lowestRun n = none → ∃ t : State, exec (.allocRequest i n o) s = .next t ∧ t.casket.grants = s.casket.grants ∧
        t.casket.waiting = s.casket.waiting ++ [⟨i, n, o⟩] ∧ t.rf (F.CASKET_STAT_WAITING i) = 1 ∧
        OnlyRegs [(F.CASKET_STAT_WAITING i).off] { s with casket := t.casket } t)) ∧
    (n = 0 ∨ s.rf (F.CASKET_SLOT_STRIPES i) < n → ∃ t : State, exec (.allocRequest i n o) s = .next t ∧ t.casket = s.casket ∧
      t.rf F.CASKET_ERR_ALLOC_REFUSED = 1 ∧ RegsAndRecords [0x400008] s t) ∧
    (1 ≤ n → n ≤ s.rf (F.CASKET_SLOT_STRIPES i) → (∃ r ∈ s.casket.waiting, r.stream = i) → (∀ r ∈ s.casket.waiting, r.stream = i → r.owner ≠ o) →
      ∃ t : State, exec (.allocRequest i n o) s = .next t ∧ t.casket.waiting = s.casket.waiting ++ [⟨i, n, o⟩] ∧ t.casket.grants = s.casket.grants)) ∧
  ((∀ (r : AllocReq) (a : Nat) (u s : State), r.stream < 32 → s.casket.waiting = [r] → s.chain.deferred = [] → s.pcie.held = [] → s.pcie.waiting = [] →
    s.tryGrant r.stream r.count r.owner = some (a, u) →
    ∃ t : State, exec .allocWaitGrant s = .next t ∧ t.casket.waiting = [] ∧ t.casket.grants = u.casket.grants ∧
      (∃ g ∈ t.casket.grants, g.stream = r.stream ∧ g.start = a ∧ g.count = r.count ∧ g.owner = r.owner) ∧ t.rf (F.CASKET_STAT_WAITING r.stream) = 0) ∧
  (∀ s : State, (∀ r ∈ s.casket.waiting, s.tryGrant r.stream r.count r.owner = none) → s.chain.deferred = [] → s.pcie.held = [] → s.pcie.waiting = [] →
    s.rf F.GRAD_STATUS_PHASE ≠ 3 → exec .allocWaitGrant s = .next s) ∧
  (∀ (i : Nat) (r : AllocReq) (s : State), i < 32 → s.casket.waiting.find? (fun r => r.stream == i) = some r → s.rf F.CASKET_NOPROG_LIMIT_TICKS ≠ 0 →
    s.rf F.FRONT_STATUS_STEP = stepRun →
    ∃ t : State, exec (.casketNoprog i) s = .next t ∧ t.rf F.CASKET_ERR_NOPROG = 1 ∧ t.rf F.CASKET_LAST_NOPROG_STREAM = i ∧
      t.rf F.CASKET_LAST_NOPROG_N = r.count % 2 ^ 24 ∧ t.rf F.FRONT_STATUS_STEP = stepAborted ∧ t.front.tasks = [] ∧ t.chain.noticeSent = true ∧ t.mem = s.mem))

/-- A word queue is first in, first out, its middle in the stripes of the spill region (R198, R200 to R202): a write to an open queue that is neither full nor being
flushed appends its word with END, POISON and an even-parity tag; a write to a full one changes no word and sets OVR; a read of an unharmed word takes the oldest; one
whose stored bits have flipped an odd number of times is poisoned and flagged; a read of an empty head answers NV and changes nothing. No other queue and no byte outside
the queue's stripes changes. Opening, closing, flushing and pushing word queues (R202, R203, R291): QOPEN opens an empty queue, QCLOSE discards what is held, a flush
discards every word and is complete at once exactly where the newest word carried END, a write that meets a flush survives it or is discarded; QPUSH pushes its words in
order and waits where the queue is full. -/
def Obligations.WordQueuesKeepTheirOrder : Prop :=
  ((∀ (q : Nat) (w : BitVec 64) (last poison : Bool) (s : State), s.qValid q = true → (s.queue q).full = false → (s.queue q).flushing = false →
    ∃ t : State, exec (.qWrite q w last poison) s = .next t ∧ t.queueWords q = s.queueWords q ++ [⟨w, qTag w last poison⟩] ∧
      t.rf (F.CASKET_QSTAT_AT_END q) = b2n last ∧ t.rf (F.CASKET_QSTAT_COUNT q) = ((s.queueWords q).length + 1) % 2 ^ 22 ∧
      t.rf (F.CASKET_QSTAT_EMPTY q) = 0 ∧ (∀ k, k ≠ q → t.queue k = s.queue k) ∧ (∀ a, s.outsideQueue q a → t.rb a = s.rb a)) ∧
  (∀ (q : Nat) (w : BitVec 64) (poison : Bool) (s : State), s.qValid q = true → (s.queue q).full = false → (s.queue q).flushing = true →
    ∃ t u : State, exec (.qWrite q w false poison) s = .next t ∧ exec (.qWrite q w true poison) s = .next u ∧ t.casket = s.casket ∧ (u.queue q).flushing = false ∧
      u.queueWords q = s.queueWords q ∧ u.rf (F.CASKET_QSTAT_FLUSHING q) = 0) ∧
  (∀ (q : Nat) (w : BitVec 64) (last poison : Bool) (s : State), s.qValid q = true → (s.queue q).full = true →
    ∃ t : State, exec (.qWrite q w last poison) s = .next t ∧ t.casket = s.casket ∧ t.rf (F.CASKET_QSTAT_OVR q) = 1 ∧ t.rf F.CASKET_ERR_Q_OVERRUN = 1 ∧ t.mem = s.mem) ∧
  (∀ (q : Nat) (w : QWord) (r : List QWord) (u : Upset) (s : State), s.qValid q = true → (s.queue q).flushing = false → (s.queue q).head = w :: r →
    w.tag = qTag w.data (bit w.tag.toNat 0) (bit w.tag.toNat 1) →
    ∃ t : State, exec (.qRead q 0 u) s = .next t ∧ t.casket.lastRead = some ⟨w.data, bit w.tag.toNat 0, bit w.tag.toNat 1, false⟩ ∧
      t.queueWords q = ((s.meet u).queueWords q).drop 1 ∧ (∀ k, k ≠ q → t.queue k = s.queue k) ∧ (∀ a, s.outsideQueue q a → t.rb a = s.rb a)) ∧
  (∀ (q : Nat) (w : QWord) (r : List QWord) (flips : BitVec 66) (u : Upset) (s : State), s.qValid q = true → (s.queue q).flushing = false → (s.queue q).head = w :: r →
    w.tag = qTag w.data (bit w.tag.toNat 0) (bit w.tag.toNat 1) → parityOf flips.toNat 66 = true →
    ∃ t x : _, exec (.qRead q flips u) s = .next t ∧ t.casket.lastRead = some x ∧ x.poison = true ∧ x.nv = false ∧ t.rf (F.CASKET_QSTAT_PAR q) = 1 ∧
      t.rf F.CASKET_ERR_Q_PARITY = 1 ∧ t.queueWords q = ((s.meet u).queueWords q).drop 1) ∧
  (∀ (q : Nat) (flips : BitVec 66) (u : Upset) (s : State), s.qValid q = true → (s.queue q).head = [] ∨ (s.queue q).flushing = true →
    exec (.qRead q flips u) s = .next { s with casket := { s.casket with lastRead := some ⟨0, false, false, true⟩ } })) ∧
  ((∀ (q : Nat) (s : State), s.qValid q = true → ∃ t : State, exec (.qFlushReq q none) s = .next t ∧ t.queueWords q = [] ∧
    t.rf (F.CASKET_QSTAT_COUNT q) = 0 ∧ t.rf (F.CASKET_QSTAT_EMPTY q) = 1 ∧ t.rf (F.CASKET_QSTAT_FLUSHING q) = 1 - s.rf (F.CASKET_QSTAT_AT_END q) ∧
    OnlyRegs [(F.CASKET_QSTAT_COUNT q).off] { s with casket := t.casket } t) ∧
  (∀ (q : Nat) (w : BitVec 64) (last : Bool) (s : State), s.qValid q = true → ∃ t : State, exec (.qFlushReq q (some (w, last))) s = .next t ∧
    (t.queueWords q = [] ∨ t.queueWords q = [⟨w, qTag w last false⟩])) ∧
  (∀ (m : Nat) (d : BitVec 256) (tied : Option (BitVec 64 × Bool)) (s : State), s.issues m d = true → queueDecode d 5 = true → s.qValid (descField d 4 2) = true →
    ∃ u : State, exec (.qflush m d tied) s = .next (u.nextDesc m) ∧ exec (.qFlushReq (descField d 4 2) tied) s = .next u) ∧
  (∀ (m : Nat) (d : BitVec 256) (s : State), s.issues m d = true → controlHeader d 3 = true → descField d 2 2 = 0 → descField d 6 2 = 0 → descField d 0xA 2 = 0 →
    descField d 0xC 4 < 2 ^ 24 → descZero d 0x10 32 = true → s.qopenBad (descField d 4 2) (descField d 8 2) (descField d 0xC 4) = false →
    let q := descField d 4 2
    ∃ u : State, exec (.qopen m d) s = .next (u.nextDesc m) ∧ u.rf (F.CASKET_QCFG_VALID q) = 1 ∧ u.rf (F.CASKET_QCFG_MID q) = descField d 8 2 ∧
      u.rf (F.CASKET_QBASE_STRIPE q) = descField d 0xC 4 ∧ u.rf (F.CASKET_QSTAT_AT_END q) = 1 ∧ u.rf (F.CASKET_QSTAT_FLUSHING q) = 0 ∧
      u.rf (F.CASKET_QSTAT_EMPTY q) = 1 ∧ u.queueWords q = [] ∧ (∀ k, k ≠ q → u.queue k = s.queue k) ∧ u.mem = s.mem) ∧
  (∀ (m : Nat) (d : BitVec 256) (s : State), s.issues m d = true → controlHeader d 3 = true → descField d 2 2 = 0 → descField d 6 2 = 0 → descField d 0xA 2 = 0 →
    descField d 0xC 4 < 2 ^ 24 → descZero d 0x10 32 = true → s.qopenBad (descField d 4 2) (descField d 8 2) (descField d 0xC 4) = true →
    exec (.qopen m d) s = .next ((s.event 0x0607 srcHub 0 0 0 0).fault m 4)) ∧
  (∀ (m : Nat) (d : BitVec 256) (s : State), s.issues m d = true → queueDecode d 4 = true → s.programQueue (descField d 4 2) = true →
    let q := descField d 4 2
    ∃ u : State, exec (.qclose m d) s = .next (u.nextDesc m) ∧ u.rf (F.CASKET_QCFG_VALID q) = 0 ∧ u.rf (F.CASKET_QSTAT_FLUSHING q) = 0 ∧
      u.queueWords q = [] ∧ (∀ k, k ≠ q → u.queue k = s.queue k) ∧ u.mem = s.mem) ∧
  (∀ (m n : Nat) (d : BitVec 256) (s : State), s.physOf m = some n → s.issues m d = true → controlHeader d 2 = true → descField d 2 2 = 0 → descField d 6 1 < 64 →
    descField d 7 1 < 2 → descZero d 0x10 32 = true → s.programQueue (descField d 4 2) = true → s.hWritten n (descField d 6 1) = false →
    s.hValid n (descField d 6 1) = true → descField d 8 4 * 4 + descField d 0xC 4 * 8 ≤ s.hBytes n (descField d 6 1) →
    let q := descField d 4 2
    let total := descField d 0xC 4
    let a := s.hAddr n (descField d 6 1) (descField d 8 4 * 4)
    let k0 := s.pushedOf m
    let v := s.touch n (s.hStart n (descField d 6 1) + descField d 8 4 * 4 + 8 * k0) ((total - k0) * 8) true
    v.2 = true → s.poisonedAt (a + 8 * k0) ((total - k0) * 8) = false →
    (k0 = 0 → (s.queue q).flushing = false → s.queueWords q = [] → total ≤ 64 →
      ∃ u : State, exec (.qpush m d) s = .next (u.nextDesc m) ∧ u.mem = s.mem ∧ u.queueWords q = (List.range total).map (fun k =>
        let w := BitVec.ofNat 64 (s.rle (a + 8 * k) 8)
        ⟨w, qTag w (descField d 7 1 == 1 && decide (k + 1 = total)) false⟩) ∧ (∀ k, k ≠ q → u.queue k = s.queue k)) ∧
    (k0 < total → (s.queue q).full = true → exec (.qpush m d) s = .next ((v.1.setPushed m k0).block m (.retry d)))))

/-- The rings (R277, R278, R299): a doorbell inside the ring moves TAIL, one outside it is ignored and recorded; RESTART and CSTALL_CLEAR clear their bit. -/
def Obligations.RingControlsTakeEffect : Prop :=
  (∀ (q : Nat) (v : Word) (s : State), q < 8 → bits v.toNat 0 16 < s.ringSize q → ∃ t : State, exec (.doorbell q v) s = .next t ∧
    t.rf (F.FRONT_Q_TAIL_INDEX q) = bits v.toNat 0 16 ∧ OnlyRegs [(F.FRONT_Q_TAIL_INDEX q).off] s t) ∧
  (∀ (q : Nat) (v : Word) (s : State), q < 8 → s.ringSize q ≤ bits v.toNat 0 16 → ∃ t : State, exec (.doorbell q v) s = .next t ∧
    t.rf F.FRONT_ERR_DOORBELL = 1 ∧ t.rf (F.FRONT_Q_TAIL_INDEX q) = s.rf (F.FRONT_Q_TAIL_INDEX q) ∧ RegsAndRecords [0x200008] s t) ∧
  (∀ (q : Nat) (s : State), q < 8 → ∃ t : State, exec (.qRestart q) s = .next t ∧ t.rf (F.FRONT_Q_STATUS_FETCH_ERR q) = 0 ∧
    t.rf (F.FRONT_Q_STATUS_CSTALL q) = s.rf (F.FRONT_Q_STATUS_CSTALL q) ∧ OnlyRegs [(F.FRONT_Q_STATUS_FETCH_ERR q).off] s t) ∧
  (∀ (q : Nat) (s : State), q < 8 → ∃ t : State, exec (.cstallClear q) s = .next t ∧ t.rf (F.FRONT_Q_STATUS_CSTALL q) = 0 ∧
    t.rf (F.FRONT_Q_STATUS_FETCH_ERR q) = s.rf (F.FRONT_Q_STATUS_FETCH_ERR q) ∧ OnlyRegs [(F.FRONT_Q_STATUS_CSTALL q).off] s t)

/-- Commands of a ring (R278 to R281): one that may be accepted and spells its command advances HEAD and counts; NOP completes OK; SIGNAL adds its amount to its Clasp, or
is misuse where there is none, and completes OK; STEP_END arms the boundary and is not completed; one that spells none completes BAD_CMD. A command whose event cannot
occur leaves the state as it is: the model's choice, log 6. -/
def Obligations.RingCommandsRun : Prop :=
  (∀ (q : Nat) (e : BitVec 512) (s : State), s.mayAccept q e = true → entOpcode e = 0 → s.entryOk e = true → ∃ t : State, exec (.cmdNop q e) s = .next t ∧
    t.rf (F.FRONT_Q_HEAD_INDEX q) = (s.rf (F.FRONT_Q_HEAD_INDEX q) + 1) % s.ringSize q % 2 ^ 16 ∧
    t.front.done = s.front.done ++ [⟨q, e, 0, 0, s.rf F.CHAIN_STEP_STEP, 0, 0, 0, 0⟩] ∧ t.mem = (s.accept q e).mem) ∧
  (∀ (q : Nat) (e : BitVec 512) (s : State), s.mayAccept q e = true → s.entryOk e = false → ∃ t : State, exec (.cmdReserved q e) s = .next t ∧
    t.rf (F.FRONT_Q_HEAD_INDEX q) = (s.rf (F.FRONT_Q_HEAD_INDEX q) + 1) % s.ringSize q % 2 ^ 16 ∧ t.rf F.FRONT_ERR_BAD_CMD = 1 ∧
    t.front.done = s.front.done ++ [⟨q, e, 3, 0, s.rf F.CHAIN_STEP_STEP, 0, 0, 0, 0⟩] ∧ t.mem = (s.accept q e).mem) ∧
  (∀ (q : Nat) (e : BitVec 512) (s : State), s.mayAccept q e = true → entOpcode e = 6 → s.entryOk e = true →
    let v := (s.accept q e).trace 0x06 (0x10 + q) 0 (entryField e 0x10 4 + 2 ^ 32 * entryField e 0x14 4) 0 0
    exec (.cmdSignal q e) s = .next ((if entryField e 0x10 4 < 65536 then v.applySignal (entryField e 0x10 4) (entryField e 0x14 4) false 0x1FF
      else v.chainMisuse (entryField e 0x10 4) 0x1FF).completeNow q e 0 0 0 0)) ∧
  (∀ (q : Nat) (e : BitVec 512) (s : State), s.front.armed = none → s.mayAccept q e = true → entOpcode e = 5 → s.entryOk e = true →
    ∃ t : State, exec (.stepEnd q e) s = .next t.beginBoundary ∧ t.front.armed = some (q, e) ∧ t.rf F.FRONT_STATUS_ARMED = 1 ∧
      t.rf F.FRONT_BOUNDARY_CLASP = entryField e 0x10 2 ∧ t.rf F.FRONT_BOUNDARY_TARGET_TARGET = entryField e 0x14 4 ∧
      t.rf (F.FRONT_Q_HEAD_INDEX q) = (s.rf (F.FRONT_Q_HEAD_INDEX q) + 1) % s.ringSize q % 2 ^ 16 ∧ t.front.done = s.front.done ∧ t.mem = (s.accept q e).mem) ∧
  (∀ (q : Nat) (e : BitVec 512) (s : State), s.mayAccept q e = false → exec (.cmdNop q e) s = .next s ∧ exec (.cmdReserved q e) s = .next s ∧
    exec (.cmdSignal q e) s = .next s)

/-- Stored graphs (R283 to R285): an image that passes every check is stored as a version one above the highest, current, with the host's reference, and completes OK with
that version; the first check that fails gives the status and the offset, and nothing is stored; a patch gives the next version; a transfer whose HOST stripes are not
granted waits and is outside this statement; GRAPH_FREE ends VALID and drops the host's reference. -/
def Obligations.GraphsAreStoredAndFreed : Prop :=
  (∀ (q : Nat) (e : BitVec 512) (image : List Byte) (s : State), s.mayAccept q e = true → entOpcode e = 2 → s.entryOk e = true → entGraph e ≤ 4095 →
    firstBad (s.imageChecks image (entryField e 0x20 4) true) = none → s.storeUsed + entryField e 0x20 4 ≤ s.front.graphStore →
    s.flag (F.FRONT_GRAPH_STATE_VALID (entGraph e)) = false → s.StagesNow 11 ⟨.host, 64 + q⟩ image.length →
    let g := entGraph e
    let v := (s.graph g).highest + 1
    ∃ t : State, exec (.graphLoad q e image) s = .next t ∧ (t.graph g).versions = (s.graph g).versions ++ [⟨v, 1, image⟩] ∧ (t.graph g).highest = v ∧
      t.rf (F.FRONT_GRAPH_STATE_VALID g) = 1 ∧ t.rf (F.FRONT_GRAPH_STATE_CURRENT g) = v % 2 ^ 16 ∧
      t.front.done = s.front.done ++ [⟨q, e, 0, 0, s.rf F.CHAIN_STEP_STEP, g, v, 0, 0⟩] ∧ 
      (∀ a, inStripes a = false → t.rb a = ((s.accept q e).traceData 3 (0x10 + q) (entryField e 0x18 8) image).rb a)) ∧
  (∀ (q : Nat) (e : BitVec 512) (image : List Byte) (st o : Nat) (s : State), s.mayAccept q e = true → entOpcode e = 2 → s.entryOk e = true → entGraph e ≤ 4095 →
    firstBad (s.imageChecks image (entryField e 0x20 4) true) = some (st, o) → s.StagesNow 11 ⟨.host, 64 + q⟩ image.length →
    ∃ t : State, exec (.graphLoad q e image) s = .next t ∧ t.front.graphs = s.front.graphs ∧ t.rf F.FRONT_ERR_GRAPH_REFUSED = 1 ∧
      t.front.done = s.front.done ++ [⟨q, e, st, 0, s.rf F.CHAIN_STEP_STEP, entGraph e, 0, o, 0⟩]) ∧
  (∀ (q : Nat) (e : BitVec 512) (patch img : List Byte) (cur : Version) (s : State), s.mayAccept q e = true → entOpcode e = 3 → s.entryOk e = true →
    entGraph e ≤ 4095 → s.flag (F.FRONT_GRAPH_STATE_VALID (entGraph e)) = true →
    (s.graph (entGraph e)).versions.find? (fun v => v.num == s.rf (F.FRONT_GRAPH_STATE_CURRENT (entGraph e))) = some cur →
    firstBad (patchChecks patch cur.image (entryField e 0x20 4)) = none → applyPatch patch.length patch 0x40 cur.image = .ok img →
    firstBad (s.imageChecks img img.length false) = none → s.storeUsed + img.length ≤ s.front.graphStore → (s.graph (entGraph e)).versions.length < 8 →
    s.StagesNow 11 ⟨.host, 64 + q⟩ patch.length →
    let g := entGraph e
    let v := (s.graph g).highest + 1
    ∃ t : State, exec (.graphPatch q e patch) s = .next t ∧ (t.graph g).highest = v ∧
      (t.graph g).versions = (s.graph g).versions.map (fun w => if w.num = cur.num then { w with refs := w.refs - 1 } else w) ++ [⟨v, 1, img⟩] ∧
      t.rf (F.FRONT_GRAPH_STATE_CURRENT g) = v % 2 ^ 16 ∧ t.front.done = s.front.done ++ [⟨q, e, 0, 0, s.rf F.CHAIN_STEP_STEP, g, v, 0, 0⟩] ∧ 
      (∀ a, inStripes a = false → t.rb a = ((s.accept q e).traceData 3 (0x10 + q) (entryField e 0x18 8) patch).rb a)) ∧
  (∀ (q : Nat) (e : BitVec 512) (s : State), s.mayAccept q e = true → entOpcode e = 4 → s.entryOk e = true → entGraph e ≤ 4095 →
    s.flag (F.FRONT_GRAPH_STATE_VALID (entGraph e)) = true →
    let g := entGraph e
    ∃ t : State, exec (.graphFree q e) s = .next t ∧ t.rf (F.FRONT_GRAPH_STATE_VALID g) = 0 ∧ (t.graph g).highest = (s.graph g).highest ∧
      (t.graph g).versions = (s.graph g).versions.map (fun w => if w.num = s.rf (F.FRONT_GRAPH_STATE_CURRENT g) then { w with refs := w.refs - 1 } else w) ∧
      t.front.done = s.front.done ++ [⟨q, e, 0, 0, s.rf F.CHAIN_STEP_STEP, g, 0, 0, 0⟩] ∧ t.mem = (s.accept q e).mem)

/-- LAUNCH (R280, R285, R286): of a graph that is stored, with its constant buffer's stripe granted where it has one, while no other launch has given the step its round
list, the launch joins those that run, its version gains a reference, its round list is the step's, and a task of each entry index goes to the ready list of its core,
which has room for it. A second round list completes with status 1; a graph that is not stored completes NO_GRAPH. -/
def Obligations.LaunchesDispatchTheirEntryTasks : Prop :=
  (∀ (q : Nat) (e : BitVec 512) (c : List Byte) (k : Option Nat) (v : Version) (s : State), s.mayAccept q e = true → entOpcode e = 1 → s.entryOk e = true → entGraph e ≤ 4095 →
    s.flag (F.FRONT_GRAPH_STATE_VALID (entGraph e)) = true → s.versionOf (entGraph e) (s.rf (F.FRONT_GRAPH_STATE_CURRENT (entGraph e))) = some v →
    (imgRounds v.image = 0 ∨ s.front.rounds = none ∨ s.rf F.FRONT_STATUS_STEP = stepHalted) →
    ((entryField e 0x18 8 = 0 ∧ k = none) ∨
      (entryField e 0x18 8 ≠ 0 ∧ c.length = 256 ∧ ∃ a, (s.request 12 1 ⟨.constant, s.front.nextId⟩).1 = .granted a ∧ k = some (stripeAddr a))) →
    let entries := (List.range (imgTasks v.image)).filter (fun i => bit (leAt (imgTask v.image i) 0 1) 0)
    entries ≠ [] → s.front.undispatched = [] → s.front.enqueued = [] → (∀ l ∈ s.front.launches, l.id ≠ s.front.nextId) →
    (∀ m, s.readyCount m + (entries.filter (fun i => leAt (imgTask v.image i) 2 2 == m)).length ≤ 16) →
    ∃ t : State, exec (.launch q e c) s = .next t ∧
      t.front.launches = s.front.launches ++ [⟨s.front.nextId, q, e, entGraph e, v.num, k, entries.length, none, false, false, 0, false⟩] ∧
      t.front.tasks.map (fun x => (x.launch, x.index, x.core)) = s.front.tasks.map (fun x => (x.launch, x.index, x.core)) ++
        entries.map (fun i => (s.front.nextId, i, leAt (imgTask v.image i) 2 2)) ∧
      (∀ x ∈ t.front.tasks.drop s.front.tasks.length, x.phase = .ready ∧ x.desc = 0 ∧ x.queue = q) ∧
      t.front.nextId = s.front.nextId + 1 + entries.length ∧ t.front.done = s.front.done ∧
      (0 < imgRounds v.image → t.front.rounds = some (entGraph e, v.num)) ∧ t.rf F.FRONT_STATUS_STEP = stepRun ∧
      (k = none → t.mem = (s.accept q e).mem) ∧ (s.traces 3 = false → ∀ b, k = some b → ∀ i < 256, t.rb (b + i) = nth c i 0)) ∧
  (∀ (q : Nat) (e : BitVec 512) (c : List Byte) (v : Version) (s : State), s.mayAccept q e = true → entOpcode e = 1 → s.entryOk e = true → entGraph e ≤ 4095 →
    s.flag (F.FRONT_GRAPH_STATE_VALID (entGraph e)) = true → s.versionOf (entGraph e) (s.rf (F.FRONT_GRAPH_STATE_CURRENT (entGraph e))) = some v →
    0 < imgRounds v.image → s.front.rounds ≠ none → s.rf F.FRONT_STATUS_STEP ≠ stepHalted →
    ∃ t : State, exec (.launch q e c) s = .next t ∧ t.front.done = s.front.done ++ [⟨q, e, 1, 0, s.rf F.CHAIN_STEP_STEP, entGraph e, v.num, 0, 0⟩] ∧
      t.front.tasks = s.front.tasks ∧ t.front.launches = s.front.launches ∧ t.front.rounds = s.front.rounds) ∧
  (∀ (q : Nat) (e : BitVec 512) (c : List Byte) (s : State), s.mayAccept q e = true → entOpcode e = 1 → s.entryOk e = true →
    4095 < entGraph e ∨ s.flag (F.FRONT_GRAPH_STATE_VALID (entGraph e)) = false →
    ∃ t : State, exec (.launch q e c) s = .next t ∧ t.front.done = s.front.done ++ [⟨q, e, 9, 0, s.rf F.CHAIN_STEP_STEP, entGraph e, 0, 0, 0⟩] ∧
      t.front.tasks = s.front.tasks ∧ t.front.launches = s.front.launches)

/-- Tasks on their cores (R286, R288, R289, R294): the head of an idle core's ready list starts, its descriptors fetched through stripes, or goes on where it was saved; a
persistent one that waits takes a word of its queue into its argument handle and runs; one of a preempting queue whose core's list is full stands first in it, the running
task saved behind it, once that has no RUN and no held tile; a stalled task drains, and past its limit is killed. -/
def Obligations.TasksStartStopAndStall : Prop :=
  (∀ (m n : Nat) (x : Task) (s : State), s.physOf m = some n → s.curTask m = none → s.front.undispatched = [] → s.front.enqueued = [] →
    s.front.tasks.find? (fun t => t.core == m && (t.phase == .ready || t.phase == .saved)) = some x → x.phase = .ready → x.persistent = false →
    s.StagesNow 12 ⟨.message, 2 ^ 32 + m⟩ (s.taskFetch x).length →
    ∃ t : State, exec (.taskStart m) s = .next t ∧ t.front.tasks = s.front.tasks.map (fun y => if y.id = x.id then { y with phase := .run } else y) ∧
      t.rf (F.CORE_STATE_TASK n) = taskRun ∧ t.rf (F.CORE_ABORT_CAUSE n) = 0 ∧ t.rf (F.STREAM_STATUS_FAULTED n) = 0 ∧
      (∀ a, inStripes a = false → t.rb a = s.rb a)) ∧
  (∀ (m n : Nat) (x : Task) (s : State), s.physOf m = some n → s.curTask m = none → s.front.undispatched = [] → s.front.enqueued = [] →
    s.front.tasks.find? (fun t => t.core == m && (t.phase == .ready || t.phase == .saved)) = some x → x.phase = .saved → x.wait = .none →
    (∀ y ∈ s.front.tasks, y.id = x.id → y = x) → x.desc < x.count →
    ∃ t : State, exec (.taskStart m) s = .next t ∧ t.front.tasks = s.front.tasks.map (fun y => if y.id = x.id then { y with phase := .run } else y) ∧
      t.rf (F.CORE_STATE_TASK n) = taskRun ∧ t.mem = s.mem) ∧
  (∀ (m n : Nat) (x : Task) (w : QWord) (r : List QWord) (u : Upset) (s : State), s.physOf m = some n → s.curTask m = some x → x.persistent = true →
    x.phase = .waiting → x.wait = .queue x.popQueue → s.programQueue x.popQueue = true → (s.queue x.popQueue).flushing = false →
    (s.queue x.popQueue).head = w :: r → w.tag = qTag w.data false false → s.hValid n x.argHandle = true → 8 ≤ s.hBytes n x.argHandle →
    (s.touchHandles n [(x.argHandle, false)]).2 = true →
    ∃ t : State, exec (.persistentPop m 0 u) s = .next t ∧ t.rle (s.hAddr n x.argHandle 0) 8 = w.data.toNat ∧
      t.front.tasks = s.front.tasks.map (fun y => if y.id = x.id then { y with phase := .run, wait := .none, desc := 0 } else y) ∧
      ((∀ k, s.spillAt x.popQueue k + 512 ≤ 0x021000000000) → t.queueWords x.popQueue = ((s.meet u).queueWords x.popQueue).drop 1) ∧
      t.rf (F.CORE_STATE_TASK n) = taskRun) ∧
  (∀ (m n q : Nat) (x u : Task) (v s : State), s.physOf m = some n → s.curTask m = some x → x.phase ≠ .draining → 16 ≤ s.readyCount m → q < x.queue →
    s.flag (F.FRONT_Q_CFG_PREEMPT q) = true → s.rivalOf m q = some (v, u) →
    (∀ p < q, s.flag (F.FRONT_Q_CFG_PREEMPT p) = true → (s.rivalOf m p).isNone = true) →
    ((s.core n).runs = [] → (s.core n).chain = none →
      ∃ t : State, exec (.taskPreempt m) s = .next t ∧
        t.front.tasks = u :: { x with phase := .saved } :: v.front.tasks.filter (fun y => y.id != u.id && y.id != x.id) ∧
        t.rf (F.CORE_STATE_TASK n) = taskSaved ∧ t.rf (F.FRONT_CNT_COUNT 4) = satAdd 32 (s.rf (F.FRONT_CNT_COUNT 4)) 1 ∧ t.mem = s.mem) ∧
    ((s.core n).runs ≠ [] ∨ (s.core n).chain ≠ none →
      ∃ t : State, exec (.taskPreempt m) s = .next t ∧ t.rf (F.CORE_STATE_TASK n) = taskPreempting ∧ OnlyRegs [(F.CORE_STATE_TASK n).off] s t)) ∧
  (∀ (m : Nat) (x : Task) (s : State), s.curTask m = some x → x.phase ≠ .draining →
    exec (.taskStall m) s = .next ((s.updTask x.id (fun t => { t with phase := .draining })).settleTask m)) ∧
  (∀ (m n : Nat) (x : Task) (s : State), s.physOf m = some n → s.curTask m = some x → x.phase = .draining →
    ∃ t : State, exec (.taskKill m) s = .next t ∧ t.rf (F.CORE_ABORT_CAUSE n) = 0x0B ∧ t.rf (F.CORE_STATE_TASK n) = taskAborted ∧ t.rf F.FRONT_ERR_STALL = 1 ∧
      ((s.core n).runs ≠ [] → t.rf (F.STREAM_FAULT_CAUSE n) = 8) ∧ (t.core n).runs = [] ∧ (t.core n).transfers = [] ∧ ((s.core n).runs = [] → t.mem = s.mem))

/-- CONTROL operations of the front end (R290, R291): NOP goes on; ENQUEUE of an index the image has adds the task to the list, of one it has not aborts with DECODE;
CONST_ADDR puts the launch's constant buffer into the SRC or DST instruction of a handle's program. -/
def Obligations.ControlOperationsOfTasks : Prop :=
  (∀ (m : Nat) (d : BitVec 256) (s : State), s.issues m d = true → controlHeader d 0 = true → descZero d 2 32 = true → exec (.ctrlNop m d) s = .next (s.nextDesc m)) ∧
  (∀ (m : Nat) (d : BitVec 256) (s : State), s.issues m d = true → controlHeader d 0 = false ∨ descZero d 2 32 = false → exec (.ctrlNop m d) s = .next (s.fault m 1)) ∧
  (∀ (m : Nat) (d : BitVec 256) (x : Task) (l : Launch) (v : Version) (s : State), s.issues m d = true → controlHeader d 1 = true → descField d 2 2 = 0 → descZero d 6 32 = true →
    s.curTask m = some x → s.front.launches.find? (fun l => l.id == x.launch) = some l → s.versionOf l.graph l.version = some v →
    (imgTasks v.image ≤ descField d 4 2 → exec (.enqueue m d) s = .next (s.fault m 1)) ∧
    (descField d 4 2 < imgTasks v.image → s.front.enqueued.length < 4096 → s.rf F.FRONT_STATUS_STEP ≠ stepRun →
      s.front.undispatched = [] → (∀ e ∈ s.front.enqueued, e.2.2 = true) →
      ∃ u : State, exec (.enqueue m d) s = .next (u.nextDesc m) ∧ u.front.enqueued = s.front.enqueued ++ [(l.id, descField d 4 2, true)] ∧
        u.front.launches = s.front.launches.map (fun k => if k.id = l.id then { k with live := k.live + 1 } else k) ∧ u.front.tasks = s.front.tasks ∧
        { u with front := s.front } = s) ∧
    (descField d 4 2 < imgTasks v.image → 4096 ≤ s.front.enqueued.length → exec (.enqueue m d) s = .next (s.block m (.retry d))) ∧
    (descField d 4 2 < imgTasks v.image → s.front.undispatched = [] → s.front.enqueued = [] → s.rf F.FRONT_STATUS_STEP = stepRun → s.readyCount (leAt (imgTask v.image (descField d 4 2)) 2 2) < 16 →
      ∃ u : State, exec (.enqueue m d) s = .next (u.nextDesc m) ∧ u.front.enqueued = [] ∧
        u.front.tasks.map (fun y => (y.launch, y.index, y.core)) = s.front.tasks.map (fun y => (y.launch, y.index, y.core)) ++
          [(l.id, descField d 4 2, leAt (imgTask v.image (descField d 4 2)) 2 2)] ∧ u.mem = s.mem)) ∧
  (∀ (m n a : Nat) (d : BitVec 256) (x : Task) (l : Launch) (s : State), s.issues m d = true → controlHeader d 0xD = true → descField d 2 2 = 0 → descField d 4 1 < 64 → descField d 5 3 = 0 →
    descZero d 0xC 32 = true → s.physOf m = some n → s.curTask m = some x → s.front.launches.find? (fun l => l.id == x.launch) = some l → l.constAt = some a →
    a < 2 ^ 48 → s.hBusy n (descField d 4 1) = false → s.hValid n (descField d 4 1) = true → descField d 8 4 + 16 ≤ s.hBytes n (descField d 4 1) →
    descField d 8 4 % 16 = 0 → (s.touch n (s.hStart n (descField d 4 1) + descField d 8 4) 16 true).2 = true →
    let b := s.hAddr n (descField d 4 1) (descField d 8 4)
    s.poisonedAt b 16 = false → (s.rle b 1 = 1 ∨ s.rle b 1 = 2) →
    ∃ u : State, exec (.constAddr m d) s = .next (u.nextDesc m) ∧ u.rle (b + 2) 6 = a ∧ u.rb (b + 1) = 0 ∧ (∀ y, y ≤ b ∨ b + 8 ≤ y → u.rb y = s.rb y) ∧
      { u with mem := s.mem, poison := s.poison } = (s.touch n (s.hStart n (descField d 4 1) + descField d 8 4) 16 true).1)

/-- Completion records (R296 to R299): with the gate open the oldest completed command's 32-byte record is written at CTAIL of its ring, CTAIL moves on and PHASE inverts
at the wrap; with VERIFY it waits for its read-back; while CSTALL stands or the gate is closed, which sets CSTALL, it goes to the overflow log, which loses it where it is
full. -/
def Obligations.CompletionsAreRecorded : Prop :=
  (∀ (c : Completion) (rest : List Completion) (s : State), s.front.done = c :: rest → (∀ v ∈ s.front.verifying, v.1.queue ≠ c.queue) → c.queue < 8 →
    s.flag (F.FRONT_Q_STATUS_CSTALL c.queue) = false → s.gated = false → s.StagesNow 12 ⟨.message, c.queue⟩ 32 →
    let a := s.pairNow (F.FRONT_Q_CBASE_LO_ADDR c.queue).off / 4096 * 4096 + 32 * s.rf (F.FRONT_Q_CTAIL_INDEX c.queue)
    let l := s.record c (Config.freeBits 64 s.free)
    (s.flag (F.FRONT_Q_CFG_VERIFY c.queue) = false → ∃ t : State, exec .completionWrite s = .next t ∧ t.front.done = rest ∧
      (∃ post, t.hostOut = s.hostOut ++ [.dmaWrite a l] ++ post ∧ (entFlags c.entry = 0 → post = [])) ∧
      (s.rf (F.FRONT_Q_CTAIL_INDEX c.queue) + 1 < s.ringSize c.queue → t.rf (F.FRONT_Q_CTAIL_INDEX c.queue) = (s.rf (F.FRONT_Q_CTAIL_INDEX c.queue) + 1) % 2 ^ 16 ∧
        t.front.wrapped = s.front.wrapped) ∧
      (s.ringSize c.queue ≤ s.rf (F.FRONT_Q_CTAIL_INDEX c.queue) + 1 → t.rf (F.FRONT_Q_CTAIL_INDEX c.queue) = 0 ∧
        t.front.wrapped.contains c.queue = !s.front.wrapped.contains c.queue)) ∧
    (s.flag (F.FRONT_Q_CFG_VERIFY c.queue) = true → ∃ t : State, exec .completionWrite s = .next t ∧ t.front.done = rest ∧
      t.hostOut = s.hostOut ++ [.dmaWrite a l] ∧ t.front.verifying = s.front.verifying ++ [(c, Config.freeBits 64 s.free)] ∧
      t.rf (F.FRONT_Q_CTAIL_INDEX c.queue) = s.rf (F.FRONT_Q_CTAIL_INDEX c.queue))) ∧
  (∀ (c : Completion) (rest : List Completion) (s : State), s.front.done = c :: rest → (∀ v ∈ s.front.verifying, v.1.queue ≠ c.queue) →
    s.flag (F.FRONT_Q_STATUS_CSTALL c.queue) = true → (s.rf F.FRONT_OVF_WR_PTR + 8192 - s.rf F.FRONT_OVF_RD_PTR) % 8192 ≠ 4096 →
    ∃ t : State, exec .completionWrite s = .next t ∧ t.front.done = rest ∧ (entFlags c.entry = 0 → t.hostOut = s.hostOut) ∧ t.rf F.FRONT_OVF_WR_PTR = (s.rf F.FRONT_OVF_WR_PTR + 1) % 8192 ∧
      ∀ i < 8, t.rf (F.FRONT_OVF_WORD (s.rf F.FRONT_OVF_WR_PTR % 4096 * 8 + i)) = leAt (s.record c (Config.freeBits 64 s.free)) (4 * i) 4) ∧
  (∀ (c : Completion) (rest : List Completion) (s : State), s.front.done = c :: rest → (∀ v ∈ s.front.verifying, v.1.queue ≠ c.queue) → c.queue < 8 →
    s.flag (F.FRONT_Q_STATUS_CSTALL c.queue) = false → s.gated = true →
    ∃ t : State, exec .completionWrite s = .next t ∧ t.front.done = rest ∧ t.rf (F.FRONT_Q_STATUS_CSTALL c.queue) = 1 ∧ t.rf F.FRONT_ERR_CSTALL = 1 ∧
      (∀ o ∈ t.hostOut.drop s.hostOut.length, ∀ a l, o ≠ .dmaWrite a l)) ∧
  (∀ (c : Completion) (k : BitVec 64) (s : State), c.queue < 8 → s.front.verifying = [(c, k)] →
    (∃ t : State, exec (.recordVerifyDone c.queue .ok) s = .next t ∧ t.front.verifying = [] ∧ (entFlags c.entry = 0 → t.hostOut = s.hostOut) ∧
      t.rf (F.FRONT_Q_STATUS_CSTALL c.queue) = s.rf (F.FRONT_Q_STATUS_CSTALL c.queue) ∧
      (s.rf (F.FRONT_Q_CTAIL_INDEX c.queue) + 1 < s.ringSize c.queue → t.rf (F.FRONT_Q_CTAIL_INDEX c.queue) = (s.rf (F.FRONT_Q_CTAIL_INDEX c.queue) + 1) % 2 ^ 16)) ∧
    (∀ r, r ≠ .ok → ∃ t : State, exec (.recordVerifyDone c.queue r) s = .next t ∧ t.front.verifying = [] ∧ t.rf (F.FRONT_Q_STATUS_CSTALL c.queue) = 1 ∧
      t.rf F.FRONT_ERR_CSTALL = 1 ∧ t.rf (F.FRONT_Q_CTAIL_INDEX c.queue) = s.rf (F.FRONT_Q_CTAIL_INDEX c.queue)))

/-- Signals (R302, R305, R306, R309, R310, R312): a plain SIGNAL and an ARRIVE send their amount, and the task goes on; a HELD one waits in the hold list of its target
until the arrivals have come; an attached one rides its RUN, and leaves at once where that RUN has completed. -/
def Obligations.SignalsLeaveForTheirClasp : Prop :=
  (∀ (m : Nat) (d : BitVec 256) (s : State), s.issues m d = true → signalDecode d = true → bits (descField d 2 1) 0 3 = 0 → ∃ u : State, exec (.claspSignal m d) s = .next (u.nextDesc m) ∧
    u.clasp.flying = s.clasp.flying ++ [⟨descField d 4 4, descField d 8 4, bit (descField d 2 1) 3, m⟩] ∧ { u with clasp := s.clasp } = s) ∧
  (∀ (m : Nat) (d : BitVec 256) (s : State), s.issues m d = true → waitDecode d 3 = true → descField d 8 4 = 0 → ∃ u : State, exec (.claspArrive m d) s = .next (u.nextDesc m) ∧
    u.clasp.flying = s.clasp.flying ++ [⟨descField d 4 4, 1, false, m⟩] ∧ u.rf (F.CLASP_CNT_COUNT 3) = satAdd 32 (s.rf (F.CLASP_CNT_COUNT 3)) 1 ∧
    OnlyRegs [(F.CLASP_CNT_COUNT 3).off] { s with clasp := u.clasp } u) ∧
  (∀ (m n : Nat) (d : BitVec 256) (s : State), s.issues m d = true → signalDecode d = true → bit (descField d 2 1) 1 = true → s.physOf (descField d 0xC 2) = some n →
    s.rf (F.HANDLE_D_GEN n (descField d 0xE 1)) = descField d 0x14 2 →
    let sig : Signal := ⟨descField d 4 4, descField d 8 4, false, m⟩
    (descField d 0x10 4 ≤ s.rf (F.HANDLE_ARR_ARR n (descField d 0xE 1)) → ∃ u : State, exec (.claspSignal m d) s = .next (u.nextDesc m) ∧
      u.clasp.flying = s.clasp.flying ++ [sig] ∧ { u with clasp := s.clasp } = s) ∧
    (s.rf (F.HANDLE_ARR_ARR n (descField d 0xE 1)) < descField d 0x10 4 → (s.core n).holds.length < 16 → ∃ u : State, exec (.claspSignal m d) s = .next (u.nextDesc m) ∧
      (u.core n).holds = (s.core n).holds ++ [⟨descField d 0xE 1, descField d 0x10 4, descField d 0x14 2, sig⟩] ∧
      u.rf (F.CLASP_CORE_HOLDS_COUNT n) = (s.core n).holds.length + 1 ∧ u.clasp = s.clasp ∧ OnlyRegs [(F.CLASP_CORE_HOLDS_COUNT n).off] { s with cores := u.cores } u) ∧
    (s.rf (F.HANDLE_ARR_ARR n (descField d 0xE 1)) < descField d 0x10 4 → 16 ≤ (s.core n).holds.length → exec (.claspSignal m d) s = .next (s.block m (.retry d)))) ∧
  (∀ (m n : Nat) (d : BitVec 256) (s : State), s.issues m d = true → signalDecode d = true → bit (descField d 2 1) 0 = true → s.physOf m = some n →
    let sig : Signal := ⟨descField d 4 4, descField d 8 4, false, m⟩
    ((s.core n).runs.find? (fun r => r.desc == s.descOf m - descField d 0xC 2) = none → ∃ u : State, exec (.claspSignal m d) s = .next (u.nextDesc m) ∧
      u.clasp.flying = s.clasp.flying ++ [sig] ∧ { u with clasp := s.clasp } = s) ∧
    (∀ r, (s.core n).runs.find? (fun r => r.desc == s.descOf m - descField d 0xC 2) = some r → bits (descField r.descriptor 1 1) 0 4 = 0 →
      ∃ u : State, exec (.claspSignal m d) s = .next (u.nextDesc m) ∧ u.clasp = s.clasp ∧ { u with cores := s.cores } = s ∧
        (u.core n).runs = (s.core n).runs.map (fun x => if x.desc = r.desc then { x with attached := some sig } else x))) ∧
  (∀ (m : Nat) (d : BitVec 256) (s : State), s.issues m d = true → signalDecode d = true → bit (descField d 2 1) 2 = true →
    (s.isMember (descField d 0x18 2) = true → ∃ u : State, exec (.claspSignal m d) s = .next (u.nextDesc m) ∧ u.mem = s.mem ∧
      (descField d 0x18 2 = s.rf F.SETUP_IDENT_MODULE_ID → u.clasp.flying = s.clasp.flying ++ [⟨descField d 4 4, descField d 8 4, false, descField d 0x18 2⟩]) ∧
      (descField d 0x18 2 ≠ s.rf F.SETUP_IDENT_MODULE_ID → u = s.sendCtrl (s.chainPort (descField d 0x18 2 % 32)) 0x09 (descField d 0x18 2)
        (natLe (descField d 4 4) 4 ++ natLe (descField d 8 4) 4))) ∧
    (s.isMember (descField d 0x18 2) = false → exec (.claspSignal m d) s = .next ((s.event 0x0C01 srcHub (descField d 4 4) m 0 0).fault m 1)))

/-- Signals at home (R304, R307, R314): an amount is added or subtracted with saturation, an overflow and an underflow set their flag, and then whoever waits is served;
so for a signal on its way and for the host's HOST_ADD. While a flag is set nothing is released. -/
def Obligations.ClaspsAddAndSaturate : Prop :=
  (∀ (i : Nat) (g : Signal) (s : State), s.clasp.flying[i]? = some g → ∃ u : State, exec (.claspApply i) s = .next (u.applySignal g.clasp g.amount g.neg g.source) ∧
    u.clasp.flying = s.clasp.flying.eraseIdx i ∧ { u with clasp := s.clasp } = s) ∧
  (∀ (v : Word) (s : State), exec (.hostAdd v) s =
    .next ((s.trace 0x06 0xFE 0 (s.rf F.CLASP_HOST_NUM_NUM + 2 ^ 32 * v.toNat) 0 0).applySignal (s.rf F.CLASP_HOST_NUM_NUM) v.toNat false 0x1FF)) ∧
  (∀ (n a source : Nat) (neg : Bool) (s : State), n < 65536 → ∃ u : State, s.applySignal n a neg source = u.claspSettle n ∧
    u.claspValue n = (if neg then s.claspValue n - a else min 0xFFFFFFFF (s.claspValue n + a)) ∧
    u.rf (F.CLASP_FLAG_OVF n) = (if !neg && decide (0xFFFFFFFF < s.claspValue n + a) then 1 else s.rf (F.CLASP_FLAG_OVF n)) ∧
    u.rf (F.CLASP_FLAG_UNF n) = (if neg && decide (s.claspValue n < a) then 1 else s.rf (F.CLASP_FLAG_UNF n)) ∧
    u.rf (F.CLASP_CNT_COUNT 0) = satAdd 32 (s.rf (F.CLASP_CNT_COUNT 0)) 1 ∧
    RegsAndRecords [(F.CLASP_CNT_COUNT 0).off, (F.CLASP_VALUE_VALUE n).off, (F.CLASP_FLAG_OVF n).off, 0x1000008] s u) ∧
  (∀ (n : Nat) (s : State), s.claspFlagged n = true → s.claspSettle n = s) ∧
  (∀ (n : Nat) (b : BitVec 3) (s : State), n < 65536 → ∃ u : State, exec (.claspFlagClear n b) s = .next (u.claspSettle n) ∧
    u.rf (F.CLASP_FLAG_OVF n) = (if b.getLsbD 0 then 0 else s.rf (F.CLASP_FLAG_OVF n)) ∧
    u.rf (F.CLASP_FLAG_UNF n) = (if b.getLsbD 1 then 0 else s.rf (F.CLASP_FLAG_UNF n)) ∧
    u.rf (F.CLASP_FLAG_MIS n) = (if b.getLsbD 2 then 0 else s.rf (F.CLASP_FLAG_MIS n)) ∧ u.claspValue n = s.claspValue n ∧ OnlyRegs [(F.CLASP_FLAG_OVF n).off] s u)

/-- WAIT and ACQUIRE (R306 to R308), watches and lending (R314, R317): a target that is met, with no flag set, is done at once, and an ACQUIRE takes it off the value;
else the task waits and CORE_WAIT names Clasp and target; a wait on another core's local Clasp is misuse, and so is a second ACQUIRE without MAY_VARY on both; an armed
watch whose target is met fires and is disarmed; a core that waits on a Clasp lends. -/
def Obligations.WaitsEndWhenTheirTargetIsMet : Prop :=
  (∀ (m : Nat) (d : BitVec 256) (s : State), s.issues m d = true → waitDecode d 1 = true → (∀ h, s.claspHost (descField d 4 4) = some h → h = m) →
    let n := descField d 4 4
    (descField d 8 4 ≤ s.claspValue n → s.claspFlagged n = false → ∃ u : State, exec (.claspWait m d) s = .next (u.nextDesc m) ∧ u.claspValue n = s.claspValue n ∧
      u.rf (F.CLASP_CNT_COUNT 1) = satAdd 32 (s.rf (F.CLASP_CNT_COUNT 1)) 1 ∧ OnlyRegs [(F.CLASP_CNT_COUNT 1).off] s u) ∧
    (s.claspValue n < descField d 8 4 ∨ s.claspFlagged n = true → ∀ (p : Nat) (x : Task), s.physOf m = some p → s.curTask m = some x →
      ∃ t : State, exec (.claspWait m d) s = .next t ∧ t.rf (F.CLASP_CORE_WAIT_VALID p) = 1 ∧ t.rf (F.CLASP_CORE_WAIT_NUM p) = n ∧
        t.rf (F.CLASP_CORE_TARGET_TARGET p) = descField d 8 4 ∧ t.rf (F.CORE_STATE_TASK p) = taskWaiting ∧ t.claspValue n = s.claspValue n ∧
        t.front.tasks = s.front.tasks.map (fun y => if y.id = x.id then { y with phase := .waiting, wait := .clasp n (descField d 8 4) false false } else y) ∧ t.mem = s.mem)) ∧
  (∀ (m : Nat) (d : BitVec 256) (s : State), s.issues m d = true → waitDecode d 2 = true → (∀ h, s.claspHost (descField d 4 4) = some h → h = m) →
    (∀ t ∈ s.front.tasks, t.phase = .waiting → ∀ a v, t.wait = .clasp (descField d 4 4) a true v → v = true ∧ descMayVary d = true) →
    let n := descField d 4 4
    (descField d 8 4 ≤ s.claspValue n → s.claspFlagged n = false → ∃ u : State, exec (.claspAcquire m d) s = .next (u.nextDesc m) ∧
      u.claspValue n = s.claspValue n - descField d 8 4 ∧ u.rf (F.CLASP_CNT_COUNT 2) = satAdd 32 (s.rf (F.CLASP_CNT_COUNT 2)) 1 ∧
      OnlyRegs [(F.CLASP_CNT_COUNT 2).off, (F.CLASP_VALUE_VALUE n).off] s u) ∧
    (s.claspValue n < descField d 8 4 ∨ s.claspFlagged n = true → ∀ (p : Nat) (x : Task), s.physOf m = some p → s.curTask m = some x →
      ∃ t : State, exec (.claspAcquire m d) s = .next t ∧ t.rf (F.CLASP_CORE_WAIT_VALID p) = 1 ∧ t.claspValue n = s.claspValue n ∧
        t.front.tasks = s.front.tasks.map (fun y => if y.id = x.id then { y with phase := .waiting, wait := .clasp n (descField d 8 4) true (descMayVary d) } else y))) ∧
  (∀ (m h : Nat) (d : BitVec 256) (s : State), s.issues m d = true → waitDecode d 1 = true → s.claspHost (descField d 4 4) = some h → h ≠ m →
    exec (.claspWait m d) s = .next ((s.claspMisuse (descField d 4 4) m).fault m 1)) ∧
  (∀ (w : Nat) (s : State), w < 32 → s.rf (F.CLASP_WATCH_TARGET_TARGET w) ≤ s.claspValue (s.rf (F.CLASP_WATCH_NUM_NUM w)) →
    s.claspFlagged (s.rf (F.CLASP_WATCH_NUM_NUM w)) = false → ∃ t : State, exec (.watchArm w) s = .next t ∧ t.rf (F.CLASP_WATCH_CFG_FIRED w) = 1 ∧
      t.rf (F.CLASP_WATCH_CFG_EN w) = 0 ∧ RegsAndRecords [(F.CLASP_WATCH_CFG_EN w).off] s t) ∧
  (∀ (m : Nat) (d : BitVec 256) (s : State), s.issues m d = true → waitDecode d 2 = true →
    ((∃ h, s.claspHost (descField d 4 4) = some h ∧ h ≠ m) ∨
      ∃ t ∈ s.front.tasks, t.phase = .waiting ∧ ∃ a v, t.wait = .clasp (descField d 4 4) a true v ∧ (v = false ∨ descMayVary d = false)) →
    exec (.claspAcquire m d) s = .next ((s.claspMisuse (descField d 4 4) m).fault m 1)) ∧
  (∀ (w : Nat) (s : State), w < 32 → s.claspValue (s.rf (F.CLASP_WATCH_NUM_NUM w)) < s.rf (F.CLASP_WATCH_TARGET_TARGET w) ∨
      s.claspFlagged (s.rf (F.CLASP_WATCH_NUM_NUM w)) = true →
    ∃ t : State, exec (.watchArm w) s = .next t ∧ t.rf (F.CLASP_WATCH_CFG_EN w) = 1 ∧ t.rf (F.CLASP_WATCH_CFG_FIRED w) = s.rf (F.CLASP_WATCH_CFG_FIRED w) ∧
      OnlyRegs [(F.CLASP_WATCH_CFG_EN w).off] s t) ∧
  (∀ (m n k a : Nat) (q v : Bool) (x : Task) (s : State), s.physOf m = some n → s.curTask m = some x → x.phase = .waiting → x.wait = .clasp k a q v →
    s.rf F.CLASP_LEND_TICKS_TICKS ≠ 0 → (s.core n).lending = false → ∃ t : State, exec (.coreLend m) s = .next t ∧ (t.core n).lending = true ∧
      t.rf F.POWER_LEND_CORES = (s.rf F.POWER_LEND_CORES + 1) % 2 ^ 9 ∧ OnlyRegs [F.POWER_LEND_CORES.off, (F.POWER_CNT_COUNT 6).off] { s with cores := t.cores } t)

/-- Span barriers and Chain signals (R311, R313): an arrival is recorded once and goes out on every port of its span; a neighbour's is recorded and goes on; the last
arrival signals the Clasp; a Chain signal for this step is applied, one for a later step is kept, one for an earlier step is dropped, one that may not be applied is
misuse, one for another module goes on. -/
def Obligations.SpanArrivalsAndChainSignals : Prop :=
  (∀ (m : Nat) (d : BitVec 256) (s : State), s.issues m d = true → claspDecode d 4 = true → (descField d 2 1 = 0 ∨ descField d 2 1 = 16) → descZero d 0xC 32 = true → 1 ≤ descField d 8 4 →
    descField d 8 4 < 16 → (s.span (descField d 8 4) (bit (descField d 2 1) 4)).arrived.contains (s.rf F.SETUP_IDENT_MODULE_ID) = false →
    let id := descField d 8 4
    let job := bit (descField d 2 1) 4
    let x := s.span id job
    let v := s.setSpan { x with job := job, arrived := s.rf F.SETUP_IDENT_MODULE_ID :: x.arrived, clasp := some (descField d 4 4) }
    exec (.claspSpanArrive m d) s = .next (((v.spanFlood job (natLe id 1 ++ natLe (b2n job) 1) none).spanCheck id job).nextDesc m)) ∧
  (∀ (id : Nat) (job : Bool) (n : Nat) (s : State), 0 < id → (s.span id job).clasp = some n → s.spanSize (s.span id job).job ≤ (s.span id job).arrived.length →
    (s.spanCheck id job).clasp.flying = s.clasp.flying ++ [⟨n, 1, false, s.rf F.SETUP_IDENT_MODULE_ID⟩] ∧ ((s.spanCheck id job).span id job).clasp = none) ∧
  (∀ (p : Nat) (m : List Byte) (s : State), p < 4 → s.msgRefused p m = false → msgStep m = s.rf F.CHAIN_STEP_STEP → 1 ≤ leAt m 0x10 1 → leAt m 0x10 1 ≤ 15 →
    s.inSpan (msgSrc m) (bit (leAt m 0x11 1) 0) = true → (s.span (leAt m 0x10 1) (bit (leAt m 0x11 1) 0)).arrived.contains (msgSrc m) = false →
    let id := leAt m 0x10 1
    let job := bit (leAt m 0x11 1) 0
    let x := s.span id job
    ∃ u : State, exec (.spanArriveMsg p m) s = .next (u.spanCheck id job) ∧ (u.span id job).arrived = msgSrc m :: x.arrived ∧ (u.span id job).job = job ∧
      (u.span id job).clasp = x.clasp ∧ u.mem = s.mem) ∧
  (∀ (p : Nat) (m : List Byte) (s : State), p < 4 → s.msgRefused p m = false → msgDst m ≠ s.rf F.SETUP_IDENT_MODULE_ID →
    exec (.chainSignal p m) s = .next ((s.received p m).forwardDst p m)) ∧
  (∀ (p : Nat) (m : List Byte) (s : State), p < 4 → s.msgRefused p m = false → msgDst m = s.rf F.SETUP_IDENT_MODULE_ID →
    (65536 ≤ leAt m 0x10 4 ∨ s.flag (F.CLASP_FLAG_CHAIN_OK (leAt m 0x10 4)) = false ∨ s.isMember (msgSrc m) = false) →
    exec (.chainSignal p m) s = .next (((s.received p m).bump (F.CLASP_CNT_COUNT 5) 1).chainMisuse (leAt m 0x10 4) (msgSrc m))) ∧
  (∀ (p : Nat) (m : List Byte) (s : State), p < 4 → s.msgRefused p m = false → msgDst m = s.rf F.SETUP_IDENT_MODULE_ID → leAt m 0x10 4 < 65536 →
    s.flag (F.CLASP_FLAG_CHAIN_OK (leAt m 0x10 4)) = true → s.isMember (msgSrc m) = true →
    let n := leAt m 0x10 4
    let v := (s.received p m).bump (F.CLASP_CNT_COUNT 5) 1
    (msgStep m = s.rf F.CHAIN_STEP_STEP → exec (.chainSignal p m) s =
      .next ((v.trace 0x06 p (1 * 256) (n + 2 ^ 32 * leAt m 0x14 4) 0 0).applySignal n (leAt m 0x14 4) false (msgSrc m))) ∧
    (s.rf F.CHAIN_STEP_STEP < msgStep m → s.clasp.future.length < 256 → ∃ t : State, exec (.chainSignal p m) s = .next t ∧
      t.clasp.future = s.clasp.future ++ [(msgStep m, n, leAt m 0x14 4, msgSrc m)] ∧ t.claspValue n = s.claspValue n ∧ t.mem = s.mem) ∧
    (msgStep m < s.rf F.CHAIN_STEP_STEP → ∃ t : State, exec (.chainSignal p m) s = .next t ∧ t.clasp = s.clasp ∧ t.rf F.CLASP_ERR_CHAIN_STALE = 1 ∧
      t.claspValue n = s.claspValue n))

/-- VECTOR (R93, R94, R124, R143 to R148, R150): at its issue point, with operands and destination in place, none of them written or used by an earlier RUN, every row of
every OP from the one the task stands at is converted and stored as the row's results, computed from the operands as they stood; nothing outside the destination's buffer
changes, nor any other element in it. A descriptor that breaks a decode rule aborts its task with DECODE, an entry that is not valid with its own cause, an operand or
destination out of its buffer with HANDLE. A command whose event cannot occur leaves the state as it is: the model's choice, log 6. -/
def Obligations.VectorsWriteTheirRows : Prop :=
  (∀ e ∈ vecCommands, ∀ (m n : Nat) (d : BitVec 256) (s v : State), s.physOf m = some n → s.issues m d = true → vecZero d = true →
    let x := vecDesc d
    let dst := s.vecDest n x
    let rl := s.rf (F.HANDLE_C_ROWLEN n x.hd)
    x.op = e.1 → x.ok = true → (x.man = true → s.fmtEntryOk x.ent = true) → fmtOk dst.f = true → (blockLen dst.f = 0 ∨ x.outLen % blockLen dst.f = 0) →
    s.hCbase n x.hd + (x.rows - 1) * rl + x.outLen - 1 ≤ indexMax → (∀ h ∈ x.sources, s.hWritten n h.1 = false) → s.hBusy n x.hd = false →
    (∀ h ∈ x.sources, s.vecFits n h.1 h.2.1 h.2.2 x.rows x.len = true ∧
      (s.apart n h.1 x.hd ∨ (h.1 = x.hd ∧ h.2.2 = 0 ∧ h.2.1 = dst.f ∧ blockLen dst.f = 0 ∧ 8 ≤ elemBits dst.f))) → s.vecDestFits n x dst = true →
    s.touchHandles n (x.sources.map (fun h => (h.1, true)) ++ [(x.hd, false)]) = (v, true) → (∀ i, i < x.rows → v.vecPoison n x i = false) →
    ∃ u : State, exec (e.2 m d .none) s = .next (u.nextDesc m) ∧
      (∀ i, s.passOf m ≤ i → i < x.rows → u.holdsRun n dst (i * rl) (s.runCodes n dst (i * rl) (s.vecRow n x i))) ∧
      (∀ q, q < x.rows * rl → x.outLen ≤ q % rl → codeAt (u.hGet n x.hd) dst.f q = codeAt (s.hGet n x.hd) dst.f q) ∧
      (∀ a, a < s.hAddr n x.hd 0 ∨ s.hAddr n x.hd (s.hBytes n x.hd) ≤ a → u.rb a = s.rb a) ∧ (∀ k, k ≠ n → u.core k = s.core k) ∧ MathFrame n s u) ∧
  (∀ e ∈ vecCommands, ∀ (m n : Nat) (d : BitVec 256) (w : Upset) (s : State), s.physOf m = some n → s.issues m d = true →
    vecZero d = false ∨ (vecDesc d).op ≠ e.1 ∨ (vecDesc d).ok = false → exec (e.2 m d w) s = .next (s.fault m 1)) ∧
  (∀ e ∈ vecCommands, ∀ (m n : Nat) (d : BitVec 256) (w : Upset) (s : State), s.physOf m = some n → s.issues m d = true → vecZero d = true → (vecDesc d).op = e.1 →
    (vecDesc d).ok = true → (vecDesc d).man = true → s.fmtEntryOk (vecDesc d).ent = false →
    exec (e.2 m d w) s = .next (((s.raise F.FMT_ERR_BAD_ENTRY).event 0x0306 srcHub m (vecDesc d).ent 0 0).fault m 2)) ∧
  (∀ e ∈ vecCommands, ∀ (m n : Nat) (d : BitVec 256) (w : Upset) (s : State), s.physOf m = some n → s.issues m d = true → vecZero d = true → (vecDesc d).op = e.1 →
    (vecDesc d).ok = true → (vecDesc d).man = false → (blockLen (vecDesc d).fd = 0 ∨ (vecDesc d).outLen % blockLen (vecDesc d).fd = 0) →
    (∀ h ∈ (vecDesc d).sources, s.hWritten n h.1 = false) → s.hBusy n (vecDesc d).hd = false →
    s.hValid n (vecDesc d).hd = false → exec (e.2 m d w) s = .next (s.fault m 4)) ∧
  (∀ e ∈ vecCommands, ∀ (m : Nat) (d : BitVec 256) (w : Upset) (s : State), s.issues m d = false → exec (e.2 m d w) s = .next s)

/-- ARRAY (R106, R107, R124 to R142, R163): at its issue point, with its operands in place or come whole through their ports, every tile of every pass from the one the
task stands at leaves its results in C, as FP32 words under WIDE, converted under NARROW, or in the core's chain under KEEP, which a later member goes on with; all
computed from operands and accumulators as they stood; nothing outside C's buffer changes. A reserved field aborts the task with DECODE, CONTINUE without a chain with
CHAIN, a wide mode on a narrow core with WIDTH. A command whose event cannot occur leaves the state as it is: the model's choice, log 6. -/
def Obligations.ArraysWriteTheirTiles : Prop :=
  (∀ e ∈ [(false, Instr.array), (true, Instr.arrayElement)], ∀ (m n : Nat) (d : BitVec 256) (da db : List Byte) (s v v1 v2 : State), s.physOf m = some n →
    s.issues m d = true → arrayZero d = true →
    let x := arrayDesc d
    let g := geoOf x.mode (s.rf (F.CORE_COLMAP_WIDTH n))
    let dst := s.arrayDest n x
    let pa := s.operandA n x (if x.dirA then some [] else none)
    let pb := s.operandB n x (if x.dirB then some [] else none)
    let oa := { pa with direct := if x.dirA then some da else none }
    let ob := { pb with direct := if x.dirB then some db else none }
    let rl := s.rf (F.HANDLE_C_ROWLEN n x.hc)
    let ps := x.passes g
    x.ok = true → (x.stat == 3) = e.1 → (x.manA = true → s.fmtEntryOk x.ea = true) → (x.manB = true → s.fmtEntryOk x.eb = true) → (x.manC = true → s.fmtEntryOk x.ec = true) →
    (x.accOut = 0 → narrowOk (s.fmtC x) x.n (x.tn g) = true) → s.chainOk n d x ps.length = true → tooWide x ps (s.rf (F.CORE_COLMAP_WIDTH n)) = false →
    s.hCbase n x.hc + (x.m - 1) * rl + x.n - 1 ≤ indexMax → (x.dirA = false → s.hWritten n x.ha = false) → s.hBusy n x.hc = false → s.operandReady n m x = true →
    (x.dirA = false → s.hValid n x.ha = true ∧ s.apart n x.ha x.hc ∧ s.operandFits n x g (s.operandA n x none) true ps.length = true) →
    (x.dirB = false → s.hValid n x.hb = true ∧ s.apart n x.hb x.hc ∧ s.operandFits n x g (s.operandB n x none) false ps.length = true) → s.destFits n x dst = true →
    (s.firstSlice m n x).isNone = true →
    s.touchHandles n ((if x.dirA then [] else [(x.ha, true)]) ++ (if x.dirB then [] else [(x.hb, true)]) ++ [(x.hc, false)]) = (v, true) →
    v.takeDirect n m x.dirA false (directBytes x g pa.raw pa.moving ps.length) = (.got da none, v1) →
    v1.takeDirect n m x.dirB true (directBytes x g pb.raw pb.moving ps.length) = (.got db none, v2) →
    ((s.core n).chain = none → x.accOut ≠ 2 → x.accOut = 1 ∨ x.accIn = 0 → (∀ p ts, ps[p]? = some ts → v2.passPoison n x g oa ob p ts = false) →
      ∃ u : State, exec (e.2 m d .none) s = .next (u.nextDesc m) ∧
        (∀ p ts, s.passOf m ≤ p → ps[p]? = some ts → ∀ o ∈ v2.passTiles n x g oa ob [] p 0 0 ts, ∀ i row, o.out[i]? = some row →
          (x.accOut = 1 → ∀ j w, row[j]? = some w → u.rle (s.hAddr n x.hc (4 * ((o.tile.m0 + i) * rl + o.tile.n0 + j))) 4 = w.toNat) ∧
          (x.accOut = 0 → u.holdsRun n dst ((o.tile.m0 + i) * rl + o.tile.n0) (s.runCodes n dst ((o.tile.m0 + i) * rl + o.tile.n0) row))) ∧
        (∀ a, a < s.hAddr n x.hc 0 ∨ s.hAddr n x.hc (s.hBytes n x.hc) ≤ a → u.rb a = s.rb a) ∧ (u.core n).chain = none ∧
        (x.norm = false → u.health = v2.health) ∧ MathFrame n v2 { u with health := v2.health }) ∧
    (∀ ts, (s.core n).chain = none → x.accOut = 2 → ps = [ts] → v2.passPoison n x g oa ob 0 ts = false → ∃ u : State, exec (e.2 m d .none) s = .next (u.nextDesc m) ∧
      (u.core n).chain = some ⟨d, s.descOf m, 1, some ((v2.passTiles n x g oa ob [] 0 0 0 ts).flatMap (·.out)).flatten, [], none⟩ ∧
      u.rf (F.CORE_STATE_CHAIN_HELD n) = 1 ∧ u.mem = s.mem ∧ MathFrame n v2 u) ∧
    (∀ c acc ts, (s.core n).chain = some c → c.acc = some acc → c.passed = [] → c.last = none → x.accIn = 2 → ps = [ts] → v2.passPoison n x g oa ob 0 ts = false →
      ∃ u : State, exec (e.2 m d .none) s = .next (u.nextDesc m) ∧
        (x.accOut = 2 → (u.core n).chain = some { c with members := c.members + 1, acc := some ((v2.passTiles n x g oa ob acc 0 0 0 ts).flatMap (·.out)).flatten } ∧ u.mem = s.mem) ∧
        (x.accOut ≠ 2 → (u.core n).chain = none ∧ u.rf (F.CORE_STATE_CHAIN_HELD n) = 0 ∧
          ∀ o ∈ v2.passTiles n x g oa ob acc 0 0 0 ts, ∀ i row, o.out[i]? = some row →
            (x.accOut = 1 → ∀ j w, row[j]? = some w → u.rle (s.hAddr n x.hc (4 * ((o.tile.m0 + i) * rl + o.tile.n0 + j))) 4 = w.toNat) ∧
            (x.accOut = 0 → u.holdsRun n dst ((o.tile.m0 + i) * rl + o.tile.n0) (s.runCodes n dst ((o.tile.m0 + i) * rl + o.tile.n0) row))) ∧
        (∀ a, a < s.hAddr n x.hc 0 ∨ s.hAddr n x.hc (s.hBytes n x.hc) ≤ a → u.rb a = s.rb a))) ∧
  (∀ e ∈ [(false, Instr.array), (true, Instr.arrayElement)], ∀ (m n : Nat) (d : BitVec 256) (w : Upset) (s : State), s.physOf m = some n → s.issues m d = true →
    arrayZero d = false ∨ (arrayDesc d).ok = false ∨ ((arrayDesc d).stat == 3) ≠ e.1 → exec (e.2 m d w) s = .next (s.fault m 1)) ∧
  (∀ (m n : Nat) (d : BitVec 256) (w : Upset) (s : State), s.physOf m = some n → s.issues m d = true → arrayZero d = true → (arrayDesc d).ok = true → (arrayDesc d).stat ≠ 3 →
    (arrayDesc d).manA = false → (arrayDesc d).manB = false → (arrayDesc d).manC = false →
    (arrayDesc d).accOut ≠ 0 → (arrayDesc d).accIn = 2 → (s.core n).chain = none → exec (.array m d w) s = .next (s.fault m 8)) ∧
  (∀ (m n : Nat) (d : BitVec 256) (w : Upset) (s : State), s.physOf m = some n → s.issues m d = true → arrayZero d = true → (arrayDesc d).ok = true → (arrayDesc d).stat ≠ 3 →
    (arrayDesc d).manA = false → (arrayDesc d).manB = false → (arrayDesc d).manC = false →
    (arrayDesc d).accOut = 1 → (arrayDesc d).accIn ≠ 2 → (s.core n).chain = none → s.rf (F.CORE_COLMAP_WIDTH n) < 64 → (arrayDesc d).mode ≠ 0 →
    exec (.array m d w) s = .next (s.fault m 9)) ∧
  (∀ e ∈ [(false, Instr.array), (true, Instr.arrayElement)], ∀ (m : Nat) (d : BitVec 256) (w : Upset) (s : State), s.issues m d = false → exec (e.2 m d w) s = .next s)

/-- CONVERT and TRANSPOSE (R93, R196, R197, R226): at their issue point, with source and destination in reach, whole and staged, the destination holds the converted
numbers, drawn ones where the descriptor says so, or the transposed rows, and no other byte changes; a poisoned source aborts the task with POISON, an address out of
reach with HANDLE, a reserved field with DECODE, and so does TRANSPOSE of an address in LPDDR5X, which is the model's reading (log 48). A command whose event cannot occur
leaves the state as it is: the model's choice, log 6. -/
def Obligations.ConvertAndTransposeWrite : Prop :=
  (∀ (m : Nat) (d : BitVec 256) (s v w : State), s.issues m d = true → convertDecode d = true → (bit (descField d 6 1) 0 = true → s.fmtEntryOk (descField d 0xA 2) = true) →
    let rand := bit (descField d 6 1) 1
    let len := tensorBytes (s.convertDst d).1 (descField d 0x18 4)
    let src := descField d 0xC 6
    let dst := descField d 0x12 6
    let sLen := tensorBytes (descField d 2 1) (descField d 0x18 4)
    s.castReach dst len = true → (rand = false → s.castReach src sLen = true) →
    ((rand = false → s.poisonedAt src sLen = false) → s.castStage m len = (some v, w) → ∃ u : State, exec (.convert m d .none) s = .next (u.nextDesc m) ∧
      u.rbs dst (s.convertData d).1.length = (s.convertData d).1 ∧ (∀ a, a < dst ∨ dst + (s.convertData d).1.length ≤ a → u.rb a = s.rb a) ∧ u.cores = s.cores ∧
      { u with mem := v.mem, poison := v.poison, fmt := v.fmt, regs := v.regs, ev := v.ev, free := v.free, hostOut := v.hostOut } = v) ∧
    (∀ w, (rand = false → s.poisonedAt src sLen = false) → s.castStage m len = (none, w) → exec (.convert m d .none) s = .next w) ∧
    (rand = false → s.poisonedAt src sLen = true → exec (.convert m d .none) s = .next (s.fault m 5))) ∧
  (∀ (m : Nat) (d : BitVec 256) (u : Upset) (s : State), s.issues m d = true → convertDecode d = false → exec (.convert m d u) s = .next (s.fault m 1)) ∧
  (∀ (m : Nat) (d : BitVec 256) (u : Upset) (s : State), s.issues m d = true → convertDecode d = true → bit (descField d 6 1) 0 = false →
    s.castReach (descField d 0x12 6) (tensorBytes (descField d 3 1) (descField d 0x18 4)) = false → exec (.convert m d u) s = .next (s.fault m 4)) ∧
  (∀ (m : Nat) (d : BitVec 256) (u : Upset) (s : State), s.issues m d = true → convertDecode d = true → bit (descField d 6 1) 0 = true → s.fmtEntryOk (descField d 0xA 2) = false →
    exec (.convert m d u) s = .next (((s.raise F.FMT_ERR_BAD_ENTRY).event 0x0306 srcHub m (descField d 0xA 2) 0 0).fault m 2)) ∧
  (∀ (m : Nat) (d : BitVec 256) (s v w : State), s.issues m d = true → descHeader d 4 = true → descField d 1 1 = 1 → descField d 2 1 < 4 → descField d 3 1 = 0 → descField d 0xB 1 = 0 →
    descZero d 0x1B 32 = true →
    let es := descField d 2 1
    let rows := descField d 4 2 + 1
    let cols := descField d 6 2 + 1
    let src := descField d 0xC 6
    let dst := descField d 0x12 6
    let sLen := rowsExtent rows (descField d 8 3) (rowBytes es cols)
    let dLen := rowsExtent cols (descField d 0x18 3) (rowBytes es rows)
    rangesMeet src sLen dst dLen = false → s.inDynamic src sLen = true → s.inDynamic dst dLen = true → (es = 0 → rows % 2 = 0 ∧ cols % 2 = 0) →
    rowBytes es rows ≤ descField d 0x18 3 → (∀ r, r < rows → s.poisonedAt (src + r * descField d 8 3) (rowBytes es cols) = false) → s.castStage m (64 * 64 * 4) = (some v, w) →
    ∃ u : State, exec (.transpose m d .none) s = .next (u.nextDesc m) ∧
      (∀ c, c < cols → u.rbs (dst + c * descField d 0x18 3) (rowBytes es rows) =
        packRow es ((List.range rows).map (fun r => s.transElem es (src + r * descField d 8 3) c))) ∧
      (∀ a, (∀ c, c < cols → a < dst + c * descField d 0x18 3 ∨ dst + c * descField d 0x18 3 + rowBytes es rows ≤ a) → u.rb a = s.rb a) ∧
      { u with mem := v.mem, poison := v.poison } = v) ∧
  (∀ (m : Nat) (d : BitVec 256) (u : Upset) (s : State), s.issues m d = true → descHeader d 4 = true → descField d 1 1 = 1 → descField d 2 1 < 4 → descField d 3 1 = 0 →
    descField d 0xB 1 = 0 → descZero d 0x1B 32 = true →
    let es := descField d 2 1
    let rows := descField d 4 2 + 1
    let cols := descField d 6 2 + 1
    let src := descField d 0xC 6
    let dst := descField d 0x12 6
    let sLen := rowsExtent rows (descField d 8 3) (rowBytes es cols)
    let dLen := rowsExtent cols (descField d 0x18 3) (rowBytes es rows)
    (s.castReach src sLen = false ∨ s.castReach dst dLen = false → exec (.transpose m d u) s = .next (s.fault m 4)) ∧
    (s.castReach src sLen = true → s.castReach dst dLen = true → rangesMeet src sLen dst dLen = true ∨ s.inDynamic src sLen = false ∨ s.inDynamic dst dLen = false →
      exec (.transpose m d u) s = .next (s.fault m 1))) ∧
  (∀ (m : Nat) (d : BitVec 256) (u : Upset) (s : State), s.issues m d = false → exec (.convert m d u) s = .next s ∧ exec (.transpose m d u) s = .next s)

/-- Contributions and pieces (R211 to R216): a part that passes its checks is taken into the member's contribution, element by element, and one that breaks the cover rule
aborts its task with the event GRAD_COVER; at the home a result is set by the first backward round and added by later ones; a piece that has waited its window goes on and
is noted as late. A command whose event cannot occur leaves the state as it is: the model's choice, log 6. -/
def Obligations.GradientPartsAreTakenAndAdded : Prop :=
  (∀ (m n home k : Nat) (e : BeadEntry) (d : BitVec 256) (w : Upset) (s : State) (a : Nat), s.physOf m = some n → s.issues m d = true → gcontribDecode d = true →
    let h := descField d 2 1
    let bead := descField d 4 4
    let round := descField d 0x1C 2
    let at0 := s.hAddr n h (descField d 0x18 3 * 4)
    let len := descField d 0xC 3 * descField d 0x10 3 * 4
    let c := (s.contrib bead round).getD ⟨bead, round, descField d 3 1 + 1, 0, [], [], m, []⟩
    let ks := (partRuns d).flatMap (fun r => (List.range r.2).map (fun i => r.1 + i))
    let v := s.touch n (s.hStart n h + descField d 0x18 3 * 4) len true
    s.hWritten n h = false → s.hValid n h = true → descField d 0x18 3 * 4 + len ≤ s.hBytes n h → s.findBead bead = some (home, k, e) → c.whole = false →
    (∀ r ∈ partRuns d, r.1 + r.2 ≤ e.elems) → runsMeet (partRuns d) c.cover = false → runsSelf (partRuns d) = false → v.2 = true →
    (v.1.meet w).poisonedAt at0 len = false → ((v.1.meet w).request 8 8 (gradOwner m)).1 = .granted a →
    ∃ u : State, exec (.gcontrib m d w) s = .next (u.nextDesc m) ∧ (∀ b r, (b, r) ≠ (bead, round) → u.contrib b r = s.contrib b r) ∧
      ∃ c' : Contrib, u.contrib bead round = some c' ∧ c'.got = c.got + 1 ∧ c'.parts = c.parts ∧ c'.cover = c.cover ++ partRuns d ∧ c'.core = m ∧ c'.late = c.late ∧
        ((c.got + 1 = c.parts → c.late = [] ∧ (s.evaluates = true ∨ s.firstBackward e.layer ≠ some c.round ∨ s.carryFor bead false = none)) →
          u.mem = s.mem ∧ (∀ i x, ks[i]? = some x → (c'.word x).toNat = s.rle (at0 + 4 * i) 4) ∧ ∀ x, x ∉ ks → c'.word x = c.word x)) ∧
  (∀ (m n : Nat) (d : BitVec 256) (w : Upset) (s : State), s.physOf m = some n → s.issues m d = true → gcontribDecode d = true → s.hWritten n (descField d 2 1) = false →
    s.hValid n (descField d 2 1) = true → descField d 0x18 3 * 4 + descField d 0xC 3 * descField d 0x10 3 * 4 ≤ s.hBytes n (descField d 2 1) →
    let c := (s.contrib (descField d 4 4) (descField d 0x1C 2)).getD ⟨descField d 4 4, descField d 0x1C 2, descField d 3 1 + 1, 0, [], [], m, []⟩
    (c.whole = true ∨ runsMeet (partRuns d) c.cover = true ∨ runsSelf (partRuns d) = true ∨ s.findBead (descField d 4 4) = none ∨
      ∃ home k e, s.findBead (descField d 4 4) = some (home, k, e) ∧ ∃ r ∈ partRuns d, e.elems < r.1 + r.2) →
    exec (.gcontrib m d w) s = .next (((s.raise F.GRAD_ERR_COVER).event 0x0706 srcHub (descField d 4 4) (descField d 0x1C 2) m 0).fault m 4)) ∧
  (∀ (bead round piece home k : Nat) (e : BeadEntry) (c : Contrib) (s : State), s.contrib bead round = some c → s.findBead bead = some (home, k, e) →
    s.evaluates = false → c.whole = true → piece < piecesOf e.elems (s.useLen e) → c.late.contains piece = false → s.arcLen ≤ 1 → s.grad.started.contains (bead, round, piece) = false →
    s.accReady e.layer bead piece round = true →
    let r := pieceRange e.elems (s.useLen e) piece
    let fresh := !s.grad.acc.any (fun x => x.1 == bead && x.2.1 == piece)
    ∃ t : State, exec (.gradAdd bead round piece) s = .next t ∧
      (∀ i, i < r.2 → t.accWord home k (r.1 + i) = (if fresh then c.word (r.1 + i) else fAdd (s.accWord home k (r.1 + i)) (c.word (r.1 + i)))) ∧
      (∀ x, x < s.accAt home k + 4 * r.1 ∨ s.accAt home k + 4 * (r.1 + r.2) ≤ x → t.rb x = s.rb x) ∧ t.grad.started = (bead, round, piece) :: s.grad.started ∧
      t.rf F.GRAD_PENDING_PIECES = s.rf F.GRAD_PENDING_PIECES - 1 ∧ t.rf (F.GRAD_CNT_COUNT 2) = satAdd 32 (s.rf (F.GRAD_CNT_COUNT 2)) 1 ∧
      OnlyRegs [F.GRAD_PENDING_PIECES.off, (F.GRAD_CNT_COUNT 2).off] { s with mem := t.mem, poison := t.poison, grad := t.grad } t) ∧
  (∀ (bead round piece home k : Nat) (e : BeadEntry) (c : Contrib) (l : Landing) (s : State), s.contrib bead round = some c → s.findBead bead = some (home, k, e) →
    s.evaluates = false → c.whole = true → piece < piecesOf e.elems (s.useLen e) → c.late.contains piece = false → 1 < s.arcLen →
    let path := s.beadPath (s.servedBy home) (b2n e.west)
    landsAt path (s.rank s.pos) = 0 → lastLanding path s.arcLen ≠ 0 → s.pieceHere bead round piece = some l → l.port < 4 → s.accReady e.layer bead piece round = true →
    let r := pieceRange e.elems (s.useLen e) piece
    let xs := pieceWords (bdFormat l.head) (bdGscale l.head) (s.rbs (stripeAddr l.stripe) (2 * r.2)) r.2
    let fresh := !s.grad.acc.any (fun x => x.1 == bead && x.2.1 == piece)
    ∃ t : State, exec (.gradAdd bead round piece) s = .next t ∧ (∀ i x, i < r.2 → xs[i]? = some x →
        t.accWord home k (r.1 + i) = (if fresh then fAdd x (c.word (r.1 + i)) else fAdd (s.accWord home k (r.1 + i)) (fAdd x (c.word (r.1 + i))))) ∧
      (∀ x, x < s.accAt home k + 4 * r.1 ∨ s.accAt home k + 4 * (r.1 + r.2) ≤ x → t.rb x = s.rb x) ∧ t.chain.landings = s.chain.landings.erase l ∧
      t.rf F.GRAD_PENDING_PIECES = s.rf F.GRAD_PENDING_PIECES - 1) ∧
  (∀ (bead round piece home k a b : Nat) (e : BeadEntry) (c : Contrib) (s : State), s.contrib bead round = some c → s.findBead bead = some (home, k, e) →
    s.evaluates = false → c.whole = true → piece < piecesOf e.elems (s.useLen e) → c.late.contains piece = false → 1 < s.arcLen →
    let path := s.beadPath (s.servedBy home) (b2n e.west)
    let p := (nth path (landsAt path (s.rank s.pos)) (0, 0)).2
    let bytes := roundUp (2 * (pieceRange e.elems (s.useLen e) piece).2) 512
    landsAt path (s.rank s.pos) = lastLanding path s.arcLen → s.grad.started.contains (bead, round, piece) = false → s.codesPieces = false →
    (s.request p (beadStripes bytes) (pieceOwner bead round piece false)).1 = .granted a →
    ((s.request p (beadStripes bytes) (pieceOwner bead round piece false)).2.request (2 + p) (ceilDiv bytes 512) (pieceOwner bead round piece true)).1 = .granted b →
    ∃ t : State, exec (.gradAdd bead round piece) s = .next t ∧ t.grad = { s.grad with started := (bead, round, piece) :: s.grad.started } ∧
      t.rf (F.GRAD_CNT_COUNT 2) = satAdd 32 (s.rf (F.GRAD_CNT_COUNT 2)) 1 ∧ (∀ x, inStripes x = false → stripeAddr (a + beadStripes bytes) ≤ 0x020100000000 →
        stripeAddr (b + ceilDiv bytes 512) ≤ 0x020100000000 → t.rb x = s.rb x)) ∧
  (∀ (bead round piece : Nat) (s : State), s.evaluates = true → exec (.gradAdd bead round piece) s = .next s) ∧
  (∀ (i home k : Nat) (e : BeadEntry) (l : Landing) (a : Nat) (s : State), s.chain.landings[i]? = some l → s.findBead (bdWeight l.head) = some (home, k, e) →
    bdKind l.head = 1 → s.rf F.GRAD_LATE_WINDOW_TICKS ≠ 0 → l.cipher = some a →
    let c := (s.contrib (bdWeight l.head) (bdRound l.head)).getD ⟨bdWeight l.head, bdRound l.head, 65, 0, [], [], 0x1FF, []⟩
    c.whole = false → landsAt (s.beadPath (s.servedBy home) (b2n e.west)) (s.rank s.pos) ≠ 0 →
    ∃ t : State, exec (.gradLate i) s = .next t ∧ t.contrib (bdWeight l.head) (bdRound l.head) = some { c with late := bdPiece l.head :: c.late } ∧
      t.rf F.GRAD_ERR_LATE = 1 ∧ t.rf (F.GRAD_CNT_COUNT 3) = satAdd 32 (s.rf (F.GRAD_CNT_COUNT 3)) 1 ∧ t.chain.landings = s.chain.landings.erase l) ∧
  (∀ (i home k : Nat) (e : BeadEntry) (l : Landing) (s : State), s.chain.landings[i]? = some l → s.findBead (bdWeight l.head) = some (home, k, e) →
    bdKind l.head = 1 → s.rf F.GRAD_LATE_WINDOW_TICKS ≠ 0 → l.checked = true → s.accReady e.layer (bdWeight l.head) (bdPiece l.head) (bdRound l.head) = true → l.port < 4 →
    let c := (s.contrib (bdWeight l.head) (bdRound l.head)).getD ⟨bdWeight l.head, bdRound l.head, 65, 0, [], [], 0x1FF, []⟩
    c.whole = false → landsAt (s.beadPath (s.servedBy home) (b2n e.west)) (s.rank s.pos) = 0 →
    ∃ t : State, exec (.gradLate i) s = .next t ∧ t.contrib (bdWeight l.head) (bdRound l.head) = some { c with late := bdPiece l.head :: c.late } ∧
      t.rf F.GRAD_ERR_LATE = 1 ∧ t.rf F.GRAD_PENDING_PIECES = s.rf F.GRAD_PENDING_PIECES - 1 ∧ t.chain.landings = s.chain.landings.erase l) ∧
  (∀ (i : Nat) (s : State), s.rf F.GRAD_LATE_WINDOW_TICKS = 0 → exec (.gradLate i) s = .next s)

/-- The statistics close (R114, R218 to R220): GCLOSE waits, and one out of order aborts its task; with no piece pending the local sums and the norm record are made and
the windows close; once every record of the span has come, norm, clip factor and verdicts are set. LOSS adds its pair (R233), and the host's verdict bits take effect
(R118, R242, R245). A command whose event cannot occur leaves the state as it is: the model's choice, log 6. -/
def Obligations.StatisticsCloseOverTheSpan : Prop :=
  (∀ (m : Nat) (d : BitVec 256) (s : State), s.issues m d = true → descHeader d 4 = true → descField d 1 1 = 3 → descZero d 2 32 = true →
    (s.evaluates = false → s.grad.closed = false → s.roundCount ≤ s.chain.round → ∃ u : State, exec (.gclose m d) s = .next (u.block m .close) ∧
      u.grad = { s.grad with closing := some m, closed := true } ∧ u.rf F.GRAD_STATUS_PHASE = 2 ∧ OnlyRegs [F.GRAD_STATUS_PHASE.off] { s with grad := u.grad } u) ∧
    (s.evaluates = true ∨ s.grad.closed = true ∨ s.chain.round < s.roundCount → exec (.gclose m d) s = .next ((s.raise F.GRAD_ERR_CLOSE_ORDER).fault m 1))) ∧
  (∀ s : State, s.grad.closing.isSome = true → s.grad.sent = false → s.rf F.GRAD_PENDING_PIECES = 0 →
    let q := s.closeBeads.map s.beadSquares
    let all : SqAcc := ⟨(q.map (·.sum)).sum, (q.map (·.nf)).sum⟩
    ∃ t : State, exec .statisticsClose s = .next t ∧ t.grad.sent = true ∧ t.rpair F.GRAD_LOCAL_LO_SUMSQ F.GRAD_LOCAL_HI_SUMSQ = all.f64 ∧ t.fmt.wins = [] ∧
      t.fmt.sums = s.fmtValid.map (fun e => (e, s.summarise e)) ∧
      ∃ r, t.grad.records = (s.rf F.SETUP_IDENT_MODULE_ID, r) :: s.grad.records ∧ leAt r 0 2 = 0x0100 ∧ leAt r 2 2 = s.rf F.SETUP_IDENT_MODULE_ID ∧
        leAt r 4 4 = s.rf F.CHAIN_STEP_STEP ∧ leAt r 8 8 = all.f64 ∧ leAt r 0x10 8 = all.nf % 2 ^ 64) ∧
  (∀ s : State, s.rf F.GRAD_PENDING_PIECES ≠ 0 → exec .statisticsClose s = .next s) ∧
  (∀ s : State, s.grad.sent = true → s.flag F.FMT_VERDICT_CLOSED = false → s.spanSize (s.flag F.GRAD_CFG_SPAN) ≤ s.grad.records.length →
    let rs := byModule s.grad.records
    let g := sum64 (rs.map (fun r => leAt r 8 8))
    let nf := (rs.map (fun r => leAt r 0x10 8)).sum
    ∃ t : State, exec .spanCloseComplete s = .next t ∧ t.rf F.FMT_VERDICT_CLOSED = 1 ∧ t.rpair F.GRAD_NORM_LO_G F.GRAD_NORM_HI_G = g ∧
      t.rf F.GRAD_CLIP_CLIP = (clipFactor (BitVec.ofNat 32 (s.rf F.GRAD_CLIP_MAX_MAXNORM)) (fpF64.decode g) (fpF64.decode (toF64 (fpF64.decode g).sqrt))).toNat ∧
      t.rf F.GRAD_NF_COUNT = min nf (2 ^ 32 - 1) ∧
      t.rf F.FMT_VERDICT_NF_SPAN = (if nf ≠ 0 ∧ s.flag F.FMT_POLICY_HIST = false then 1 else s.rf F.FMT_VERDICT_NF_SPAN)) ∧
  (∀ s : State, s.grad.records.length < s.spanSize (s.flag F.GRAD_CFG_SPAN) → exec .spanCloseComplete s = .next s) ∧
  (∀ (m n : Nat) (d : BitVec 256) (s : State), s.physOf m = some n → s.issues m d = true → controlHeader d 0xA = true → descField d 2 2 = 0 → descField d 4 1 < 64 → descField d 5 3 = 0 →
    descZero d 0xC 32 = true → s.grad.closed = false → s.hWritten n (descField d 4 1) = false → s.hValid n (descField d 4 1) = true →
    let at0 := s.hAddr n (descField d 4 1) (descField d 8 4 * 4)
    let x := f32 (BitVec.ofNat 32 (s.rle at0 4))
    let y := f32 (BitVec.ofNat 32 (s.rle (s.hAddr n (descField d 4 1) (descField d 8 4 * 4 + 4)) 4))
    let v := s.touch n (s.hStart n (descField d 4 1) + descField d 8 4 * 4) 8 true
    descField d 8 4 * 4 + 8 ≤ s.hBytes n (descField d 4 1) → v.2 = true → s.poisonedAt at0 8 = false →
    (x.finite = true → y.finite = true → ∃ u : State, exec (.loss m d) s = .next (u.nextDesc m) ∧ { u with health := s.health } = v.1 ∧
      u.health.train = (if s.evaluates then s.health.train else s.health.train.add x y) ∧ u.health.eval = (if s.evaluates then s.health.eval.add x y else s.health.eval)) ∧
    (x.finite = false ∨ y.finite = false → exec (.loss m d) s = .next ((v.1.countClass 4 1).nextDesc m))) ∧
  (∀ (m n : Nat) (d : BitVec 256) (s : State), s.physOf m = some n → s.issues m d = true → s.grad.closed = true → exec (.loss m d) s = .next (s.fault m 1)) ∧
  (∀ (v : Word) (s : State), (∃ t : State, exec (.verdictHoldSet v) s = .next t ∧ t.rf F.HEALTH_VERDICT_HOLD = (if v.getLsbD 2 then 1 else s.rf F.HEALTH_VERDICT_HOLD) ∧
      OnlyRegs [F.HEALTH_VERDICT_HOLD.off] s t) ∧
    (∃ t : State, exec (.rollbackSet v) s = .next t ∧ t.rf F.HEALTH_CTRL_ROLLBACK = (if v.getLsbD 0 then 1 else s.rf F.HEALTH_CTRL_ROLLBACK) ∧
      OnlyRegs [F.HEALTH_CTRL_ROLLBACK.off] s t) ∧
    (∃ t : State, exec (.skipSet v) s = .next t ∧ t.rf F.FMT_VERDICT_SKIP = (if v.getLsbD 1 then 1 else s.rf F.FMT_VERDICT_SKIP) ∧
      OnlyRegs [F.FMT_VERDICT_SKIP.off] s t))

/-- UPDATE_RECORD_CAST (R118, R224): before the host has signalled, nothing; in a skipped step casting is over at once; a record that fails a check is counted and leaves
the weights; a good one leaves the Bead, cast in its format and sealed, in the home shard. Either way UPD_DONE rises by 1. A command whose event cannot occur leaves the
state as it is: the model's choice, log 6. -/
def Obligations.UpdateRecordsAreCast : Prop :=
  (∀ s : State, s.claspValue (s.rf F.GRAD_CLASP_A_UPD) < s.rf F.GRAD_UPD_DONE_COUNT + 1 → exec .updateRecordCast s = .next s) ∧
  (∀ s : State, s.flag F.FMT_VERDICT_CLOSED = true → s.rf F.GRAD_STATUS_PHASE ≠ 5 → 0 < s.claspValue (s.rf F.GRAD_CLASP_A_UPD) → s.rf F.GRAD_UPD_DONE_COUNT = 0 →
    s.skipped = true → s.imageStep = false → ∃ t : State, exec .updateRecordCast s = .next t ∧ t.rf F.GRAD_STATUS_PHASE = 5 ∧
      t.clasp.flying = s.clasp.flying ++ [⟨s.rf F.GRAD_CLASP_B_DONE, 1, false, 0x1FF⟩] ∧ t.mem = s.mem) ∧
  (∀ (s v : State) (a i x : Nat) (h : Shard) (e : BeadEntry), s.flag F.FMT_VERDICT_CLOSED = true → s.rf F.GRAD_STATUS_PHASE ≠ 5 → s.skipped = false →
    let k := s.rf F.GRAD_UPD_DONE_COUNT
    k + 1 ≤ s.claspValue (s.rf F.GRAD_CLASP_A_UPD) → k + 1 < 2 ^ 32 → s.updTarget k = some (a, h, i, e) → (s.updTarget (k + 1)).isSome = true →
    s.request 13 (min (beadStripes e.source) (s.rf (F.CASKET_SLOT_STRIPES 13))) ⟨.cast, 0⟩ = (.granted x, v) →
    let r := s.rbs a (updSize e)
    (s.updGood e r = false → ∃ t : State, exec .updateRecordCast s = .next t ∧ t.rf F.GRAD_UPD_DONE_COUNT = k + 1 ∧ t.rf F.GRAD_ERR_UPD_BAD = 1 ∧
      t.rf (F.GRAD_CNT_COUNT 7) = satAdd 32 (s.rf (F.GRAD_CNT_COUNT 7)) 1 ∧ (s.imageStep = false → t.mem = s.mem)) ∧
    (s.updGood e r = true → bit (leAt r 3 1) 0 = true → ∃ t : State, exec .updateRecordCast s = .next t ∧ t.rf F.GRAD_UPD_DONE_COUNT = k + 1 ∧ (s.imageStep = false → t.mem = s.mem)) ∧
    (s.updGood e r = true → bit (leAt r 3 1) 0 = false → ∀ src work, s.sealAtRest h e 1 0xFFFF ((r.drop 64).take (2 * e.elems)) = some src →
      s.sealAtRest h e (s.castFmt e) 0 (s.castBead e (tensorNums 1 e.elems 0 (r.drop 64))).1 = some work →
      ∃ t : State, exec .updateRecordCast s = .next t ∧ t.rf F.GRAD_UPD_DONE_COUNT = k + 1 ∧ (s.imageStep = false → t.rbs (s.workAt h i) work.length = work ∧
        (s.srcAt h i + src.length ≤ s.workAt h i ∨ s.workAt h i + work.length ≤ s.srcAt h i → t.rbs (s.srcAt h i) src.length = src) ∧
        (∀ y, y < s.srcAt h i ∨ s.srcAt h i + src.length ≤ y → y < s.workAt h i ∨ s.workAt h i + work.length ≤ y → t.rb y = s.rb y))))

/-- Charms (R255 to R257): CHARM_ADDR writes the address of a part into a stream instruction; a CGACC in order and in turn writes or adds its words into the context's
accumulators and stamps the context with step and attempt; one before its turn is held until its turn comes; one out of order is flagged and aborts its task. A command
whose event cannot occur leaves the state as it is: the model's choice, log 6. -/
def Obligations.CharmAddressesAndContributions : Prop :=
  (∀ (m n off x : Nat) (d : BitVec 256) (s : State), s.physOf m = some n → s.issues m d = true → controlHeader d 0xB = true → descField d 2 2 < 1024 → descField d 5 1 < 4 → descField d 6 1 < 64 →
    descField d 7 1 = 0 → descZero d 0xC 32 = true →
    let k := descField d 2 2
    let v := s.slotVariant k
    let a := s.hAddr n (descField d 6 1) (descField d 8 4)
    descField d 8 4 % 16 = 0 → s.slotState k ≠ slFree → descField d 4 1 < s.ctxTensors v → s.ctxPart v (descField d 4 1) (descField d 5 1) (s.ctxElem v) = some (off, x) →
    s.hBusy n (descField d 6 1) = false → s.hValid n (descField d 6 1) = true → descField d 8 4 + 16 ≤ s.hBytes n (descField d 6 1) → s.poisonedAt a 16 = false →
    (s.touch n (s.hStart n (descField d 6 1) + descField d 8 4) 16 true).2 = true →
    (s.rle a 1 = 1 ∨ s.rle a 1 = 2) →
    ∃ u : State, exec (.charmAddr m d) s = .next (u.nextDesc m) ∧ u.rb (a + 1) = 0 ∧
      u.rle (a + 2) 6 = (s.rf F.CHARM_REGION_BASE_GIB * 2 ^ 30 + s.ctx v 0xC 4 * 4096 + off) % 2 ^ 48 ∧
      (∀ y, y ≤ a ∨ a + 8 ≤ y → u.rb y = s.rb y) ∧
      { u with mem := s.mem, poison := s.poison } = (s.touch n (s.hStart n (descField d 6 1) + descField d 8 4) 16 true).1) ∧
  (∀ (m n : Nat) (d : BitVec 256) (s : State), s.physOf m = some n → s.issues m d = true → controlHeader d 0xB = true → descField d 2 2 < 1024 → descField d 5 1 < 4 → descField d 6 1 < 64 →
    descField d 7 1 = 0 → descZero d 0xC 32 = true → s.slotState (descField d 2 2) = slFree → exec (.charmAddr m d) s = .next (s.fault m 4)) ∧
  (∀ (m n off : Nat) (d : BitVec 256) (w : Upset) (s : State), s.physOf m = some n → s.issues m d = true → cgaccDecode d = true → s.hWritten n (descField d 6 1) = false →
    s.cgaccPart d = some off → s.hValid n (descField d 6 1) = true → 4 * (descField d 8 4 + descField d 0x10 4) ≤ s.hBytes n (descField d 6 1) →
    (s.touchHandles n [(descField d 6 1, true)]).2 = true →
    let v := (s.touchHandles n [(descField d 6 1, true)]).1.meet w
    let turn := v.charmTurn (v.slotVariant (descField d 2 2)) (descField d 4 1) (bits (descField d 5 1) 0 2) (v.charmSlot (descField d 2 2))
    v.poisonedAt (v.cgaccSrc n d) (4 * descField d 0x10 4) = false →
    (turn = true → exec (.cgacc m d w) s = .next ((v.cgaccAdd n d off).nextDesc m)) ∧
    (turn = false → ∃ u : State, exec (.cgacc m d w) s = .next (u.nextDesc m) ∧
      u.charm = { v.charm with held := v.charm.held ++ [(m, (match v.curTask m with | some t => t.id | none => 0), d)] } ∧
      u.rf (F.CHARM_CNT_COUNT 2) = satAdd 32 (v.rf (F.CHARM_CNT_COUNT 2)) 1 ∧ OnlyRegs [(F.CHARM_CNT_COUNT 2).off] { v with charm := u.charm } u)) ∧
  (∀ (m n : Nat) (d : BitVec 256) (w : Upset) (s : State), s.physOf m = some n → s.issues m d = true → cgaccDecode d = true → s.hWritten n (descField d 6 1) = false →
    s.cgaccPart d = none →
    exec (.cgacc m d w) s = .next (((s.raise F.CHARM_ERR_COVER).event 0x0901 srcHub m (s.slotVariant (descField d 2 2)) (descField d 4 1)
      (bits (descField d 5 1) 0 2)).fault m 4)) ∧
  (∀ (n off : Nat) (d : BitVec 256) (s : State),
    let v := s.slotVariant (descField d 2 2)
    let part := bits (descField d 5 1) 0 2
    let k := s.charmSlot (descField d 2 2)
    let count := descField d 0x10 4
    let src := s.cgaccSrc n d
    let dst := s.rf F.CHARM_ACC_REGION_BASE_GIB * 2 ^ 30 + s.ctx v 0x14 4 * 4096 + off + 4 * descField d 0xC 4
    let fresh := s.charmFresh v (descField d 4 1) part k
    dst + 4 * count ≤ 0x020000000000 →
    let u := s.cgaccAdd n d off
    (∀ i, i < count → u.rle (dst + 4 * i) 4 = (fAdd (if fresh then f32Zero else BitVec.ofNat 32 (s.rle (dst + 4 * i) 4)) (BitVec.ofNat 32 (s.rle (src + 4 * i) 4))).toNat) ∧
      u.ctx v 0x20 4 = s.rf F.CHAIN_STEP_STEP ∧ u.ctx v 0x24 2 = s.rf F.CHARM_ATTEMPT_COUNT % 65536 ∧
      (∀ y, y < dst ∨ dst + 4 * count ≤ y → y < ctxAddr v + 0x20 ∨ ctxAddr v + 0x26 ≤ y → u.rb y = s.rb y) ∧
      u.charmAdd v (descField d 4 1) part k = ⟨v, descField d 4 1, part, k, descField d 0xC 4 + count, bit (descField d 5 1) 7⟩ ∧
      u.rf (F.CHARM_CNT_COUNT 0) = satAdd 32 (s.rf (F.CHARM_CNT_COUNT 0)) 1 ∧
      OnlyRegs [(F.CHARM_CNT_COUNT 0).off, (F.CHARM_CNT_COUNT 1).off] { s.wake dst (4 * count) with mem := u.mem, poison := u.poison, charm := u.charm } u) ∧
  (∀ (m n id off x : Nat) (d : BitVec 256) (s : State), s.physOf m = some n →
    let turn := fun (d : BitVec 256) => s.charmTurn (s.slotVariant (descField d 2 2)) (descField d 4 1) (bits (descField d 5 1) 0 2) (s.charmSlot (descField d 2 2))
    (s.charm.held.find? (fun e => e.1 == m && turn e.2.2) = some (m, id, d) →
      s.ctxPart (s.slotVariant (descField d 2 2)) (descField d 4 1) (bits (descField d 5 1) 0 2) 4 = some (off, x) → (s.touchHandles n [(descField d 6 1, true)]).2 = true →
      exec (.cgaccRelease m) s = .next ((State.cgaccAdd { (s.touchHandles n [(descField d 6 1, true)]).1 with
        charm := { s.charm with held := s.charm.held.erase (m, id, d) } } n d off).settleTask m)) ∧
    (s.charm.held.find? (fun e => e.1 == m && turn e.2.2) = none → exec (.cgaccRelease m) s = .next s))

/-- Cameos and code tables (R241, R242, R272, R273): a commit record that passes its checks makes the named image slot and the new state record the ones held, another
leaves what is held; a table that passes its checks is LOADED, another is flagged; a table in use refuses writes; SWITCH needs a table that is LOADED. A command whose
event cannot occur leaves the state as it is: the model's choice, log 6. -/
def Obligations.CommitsAndTablesAreChecked : Prop :=
  (∀ (s : State) (rec0 : List Byte), s.health.cameo.commit = some rec0 →
    (s.commitReason rec0 (s.rbs (s.cameoRecords + s.freeState * 1048576) 1048576) true = none → ∃ t : State, exec .cameoCommit s = .next t ∧
      t.rf F.HEALTH_CAMEO_STATUS_HELD_VALID = 1 ∧ t.rf F.HEALTH_CAMEO_STATUS_IMAGE_SLOT = leAt rec0 2 1 % 2 ∧ t.rf F.HEALTH_CAMEO_STATUS_STATE_SLOT = s.freeState ∧
      t.rf F.HEALTH_HELD_STEP_STEP = leAt rec0 4 4 ∧ t.rf F.HEALTH_CAMEO_STATUS_RECEIVING = 0 ∧ 
      t.health.cameo = { s.health.cameo with commit := none, got := [], counts := if bit (leAt rec0 2 1) 1 then s.health.cameo.counts else (List.range 4).map (fun p => leAt rec0 (8 + 4 * p) 4) } ∧
      t.rbs (s.cameoRecords + 2 * 1048576) rec0.length = rec0 ∧
      (∀ y, y < s.cameoRecords + 2 * 1048576 ∨ s.cameoRecords + 2 * 1048576 + rec0.length ≤ y → t.rb y = s.rb y)) ∧
    (∀ c, s.commitReason rec0 (s.rbs (s.cameoRecords + s.freeState * 1048576) 1048576) true = some c → ∃ t : State, exec .cameoCommit s = .next t ∧
      t.rf F.HEALTH_ERR_CAMEO_INCOMPLETE = 1 ∧ t.rf F.HEALTH_CAMEO_STATUS_HELD_VALID = s.rf F.HEALTH_CAMEO_STATUS_HELD_VALID ∧
      t.rf F.HEALTH_CAMEO_STATUS_IMAGE_SLOT = s.rf F.HEALTH_CAMEO_STATUS_IMAGE_SLOT ∧ t.rf F.HEALTH_HELD_STEP_STEP = s.rf F.HEALTH_HELD_STEP_STEP ∧ t.mem = s.mem)) ∧
  (∀ s : State, s.claspValue (s.rf F.HEALTH_CAMEO_CFG_RESTORE_CLASP) = 0 → exec .cameoRewriteCheck s = .next s) ∧
  (∀ s : State, 0 < s.claspValue (s.rf F.HEALTH_CAMEO_CFG_RESTORE_CLASP) →
    let rec0 := s.rbs (s.cameoRecords + 2 * 1048576) 512
    (s.commitReason rec0 (s.rbs (s.cameoRecords + s.freeState * 1048576) 1048576) false = none → ∃ t : State, exec .cameoRewriteCheck s = .next t ∧
      t.rf F.HEALTH_CAMEO_STATUS_HELD_VALID = 1 ∧ t.rf F.HEALTH_CAMEO_STATUS_IMAGE_SLOT = leAt rec0 2 1 % 2 ∧ t.rf F.HEALTH_HELD_STEP_STEP = leAt rec0 4 4 ∧
      ∀ y, t.rb y = s.rb y) ∧
    (∀ c, s.commitReason rec0 (s.rbs (s.cameoRecords + s.freeState * 1048576) 1048576) false = some c → ∃ t : State, exec .cameoRewriteCheck s = .next t ∧
      t.rf F.HEALTH_ERR_CAMEO_INCOMPLETE = 1 ∧ t.rf F.HEALTH_HELD_STEP_STEP = s.rf F.HEALTH_HELD_STEP_STEP ∧ t.mem = s.mem)) ∧
  (∀ (k : Nat) (s : State), k < 2 → s.cdState k = cdEmpty →
    (s.tableGood k = true → ∃ t : State, exec (.codecCommit k) s = .next t ∧ t.cdState k = cdLoaded ∧ t.cdState (1 - k) = s.cdState (1 - k) ∧
      OnlyRegs [(F.CODEC_SLOT_STATE k).off] s t) ∧
    (s.tableGood k = false → ∃ t : State, exec (.codecCommit k) s = .next t ∧ t.cdState k = cdEmpty ∧ t.rf F.CODEC_ERR_TABLE_BAD = 1 ∧
      RegsAndRecords [F.CODEC_ERR_TABLE_BAD.off] s t) ∧
    (∀ (w : Nat) (v : Word), w < 34 → ∃ t : State, exec (.codecTableWrite k w v) s = .next t ∧ t.rf (F.CODEC_TABLE_LEN w k) = v.toNat ∧ OnlyRegs [(F.CODEC_TABLE_LEN w k).off] s t) ∧
    (∀ v : Word, ∃ t : State, exec (.codecTableWrite k 34 v) s = .next t ∧ t.rf (F.CODEC_SLOT_GEN k) = v.toNat % 65536 ∧ t.cdState k = cdEmpty ∧
      OnlyRegs [(F.CODEC_SLOT_GEN k).off] s t)) ∧
  (∀ (k w : Nat) (v : Word) (s : State), k < 2 → w ≤ 34 → s.cdState k ≠ cdEmpty → exec (.codecCommit k) s = .next s ∧
    ∃ t : State, exec (.codecTableWrite k w v) s = .next t ∧ t.rf F.CODEC_ERR_LOAD_REFUSED = 1 ∧ RegsAndRecords [F.CODEC_ERR_LOAD_REFUSED.off] s t) ∧
  (∀ s : State, (s.cdState 0 = cdLoaded ∨ s.cdState 1 = cdLoaded → ∃ t : State, exec .codecSwitchSet s = .next t ∧ t.rf F.CODEC_CTRL_SWITCH = 1 ∧
      OnlyRegs [F.CODEC_CTRL_SWITCH.off] s t) ∧
    (s.cdState 0 ≠ cdLoaded → s.cdState 1 ≠ cdLoaded → ∃ t : State, exec .codecSwitchSet s = .next t ∧ t.rf F.CODEC_ERR_SWITCH_NONE = 1 ∧
      RegsAndRecords [F.CODEC_ERR_SWITCH_NONE.off] s t))

/-- Link states (R366 to R369): an enabled port leaves DOWN, trains, aligns with masks, widths and credits anew, and sends EXCHANGE; a neighbour that fits brings the link
UP at the common version, one without a common version is REFUSED; a training that takes too long and a down condition go back to HOLDOFF with nothing kept. A command
whose event cannot occur leaves the state as it is: the model's choice, log 6. -/
def Obligations.LinksTrainAndComeUp : Prop :=
  (∀ (p : Nat) (s : State), p < 2 →
    (∃ t : State, exec (.linkEnWrite p true) s = .next t ∧ t.flag (F.CHAIN_CTRL_EN p) = true ∧ t.lk p = (if s.lk p = lkDown then lkHoldoff else s.lk p) ∧
      OnlyRegs [(F.CHAIN_CTRL_EN p).off, (F.LINK_STATUS_STATE p).off, (F.CHAIN_STATUS_LINK p).off] s t) ∧
    (∃ t : State, exec (.linkEnWrite p false) s = .next t ∧ t.flag (F.CHAIN_CTRL_EN p) = false ∧ t.lk p = lkDown ∧ t.link p = LinkX.reset ∧ t.mem = s.mem)) ∧
  (∀ (up down : Bool) (s : State), ∃ t : State, exec (.pipeEnWrite up down) s = .next t ∧ t.flag F.PIPE_CTRL_EN_UP = up ∧ t.flag F.PIPE_CTRL_EN_DN = down ∧
    t.lk 2 = (if up = true ∧ s.lk 2 = lkDown then lkHoldoff else s.lk 2) ∧ t.lk 3 = (if down = true ∧ s.lk 3 = lkDown then lkHoldoff else s.lk 3) ∧
    (t.pipe.planned.contains 2 = (!up && (s.pipe.planned.contains 2 && !s.flag F.PIPE_CTRL_EN_UP || s.flag F.PIPE_CTRL_EN_UP))) ∧ t.mem = s.mem ∧ t.links = s.links) ∧
  (∀ (p : Nat) (s : State), p < 4 → ∃ t : State, exec (.holdoffDone p) s = .next t ∧ t.lk p = (if s.lk p = lkHoldoff then lkTrain else s.lk p) ∧
    OnlyRegs [(F.LINK_STATUS_STATE p).off, (layerLink p).off] s t) ∧
  (∀ (p : Nat) (lanes : BitVec 32) (s : State), p < 4 →
    (s.lk p = lkTrain → s.rf (F.LINK_CFG_MIN_LANES p) ≤ popCount lanes.toNat 32 → ∃ t : State, exec (.lanesTrained p lanes) s = .next t ∧ t.lk p = lkAlign ∧
      t.rf (F.LINK_CNT_COUNT p 10) = satAdd 32 (s.rf (F.LINK_CNT_COUNT p 10)) 1 ∧
      OnlyRegs [(F.LINK_STATUS_STATE p).off, (layerLink p).off, (F.LINK_CNT_COUNT p 10).off] s t) ∧
    (s.lk p ≠ lkTrain ∨ popCount lanes.toNat 32 < s.rf (F.LINK_CFG_MIN_LANES p) → exec (.lanesTrained p lanes) s = .next s)) ∧
  (∀ (p : Nat) (s : State), p < 4 →
    (s.lk p = lkTrain ∨ s.lk p = lkAlign ∨ s.lk p = lkExchange → ∃ t : State, exec (.trainTimeout p) s = .next t ∧ t.lk p = lkHoldoff ∧
      t.rf (F.LINK_ERR_TRAIN_FAIL p) = 1 ∧ t.link p = LinkX.reset) ∧
    (s.lk p ≠ lkTrain → s.lk p ≠ lkAlign → s.lk p ≠ lkExchange → exec (.trainTimeout p) s = .next s)) ∧
  (∀ (p : Nat) (rx tx inv : BitVec 32) (s : State), p < 4 → s.lk p = lkAlign → s.rf (F.LINK_CFG_MIN_LANES p) ≤ popCount rx.toNat 32 →
    s.rf (F.LINK_CFG_MIN_LANES p) ≤ popCount tx.toNat 32 → ∃ (t : State) (u : TxUnit), exec (.linkAligned p rx tx inv) s = .next t ∧ t.lk p = lkExchange ∧
      t.rf (F.LINK_LANES_RX_MASK p) = rx.toNat ∧ t.rf (F.LINK_LANES_TX_MASK p) = tx.toNat ∧ t.rf (F.LINK_POLARITY_INV p) = inv.toNat ∧
      t.rf (F.LINK_STATUS_RX_WIDTH p) = popCount rx.toNat 32 ∧ t.rf (F.LINK_STATUS_TX_WIDTH p) = popCount tx.toNat 32 ∧
      (∀ c, c < 8 → t.rf (F.LINK_CRED_CREDITS p c) = 0) ∧ t.link p = { LinkX.reset with ready := [(0, u)] } ∧ msgType u.data = 1 ∧ leAt u.data 0x14 1 = p) ∧
  (∀ (p : Nat) (s : State), p < 4 → s.lk p = lkExchange ∨ s.lk p = lkRefused → ∃ (t : State) (u : TxUnit), exec (.exchangeResend p) s = .next t ∧
    t.link p = { s.link p with ready := (s.link p).ready ++ [(0, u)] } ∧ msgType u.data = 1 ∧ leAt u.data 0x14 1 = p ∧
    OnlyRegs [(F.LINK_CNT_COUNT p 11).off] { s with links := t.links } t) ∧
  (∀ (p : Nat) (m : List Byte) (s : State), p < 4 → s.msgRefused p m = false →
    let v := commonVersion (s.swiecLow p) (s.swiecHigh p) (leAt m 0x10 2) (leAt m 0x12 2)
    let pair := if p % 2 = 0 then p + 1 else p - 1
    (s.lk p = lkUp → ∃ t : State, exec (.exchange p m) s = .next t ∧ t.rf (F.LINK_NBR_STATE p) = leAt m 0x17 1 % 8 ∧
      OnlyRegs [(F.LINK_NBR_STATE p).off] (s.received p m) t) ∧
    (s.lk p = lkExchange ∨ s.lk p = lkRefused → leAt m 0x14 1 = pair → v = 0 → ∃ t : State, exec (.exchange p m) s = .next t ∧ t.lk p = lkRefused ∧
      t.rf (F.LINK_ERR_VER_MISMATCH p) = 1 ∧ t.rf (F.LINK_NBR_VALID p) = 1) ∧
    (s.lk p = lkExchange ∨ s.lk p = lkRefused → leAt m 0x14 1 = pair → v ≠ 0 → p < 2 → leAt m 0x15 1 % 32 = s.faces p → ∃ t : State, exec (.exchange p m) s = .next t ∧
      t.lk p = lkUp ∧ t.rf (F.LINK_STATUS_VERSION p) = v ∧ t.rf (F.LINK_NBR_VALID p) = 1 ∧
      t.rf (F.LINK_NBR_MODULE_ID p) = leAt m 0x16 1 % 64 * 32 + leAt m 0x15 1 % 32)) ∧
  (∀ (p : Nat) (s : State), p < 4 → s.lk p ≠ lkDown → ∃ t : State, exec (.linkDown p) s = .next t ∧ exec (.retrain p) s = .next t ∧ t.lk p = lkHoldoff ∧
    t.link p = LinkX.reset ∧ t.rf (F.LINK_ERR_LINK_DOWN p) = 1 ∧ t.rf (F.LINK_CNT_COUNT p 9) = satAdd 32 (s.rf (F.LINK_CNT_COUNT p 9)) 1 ∧
    (s.lk p = lkUp → exec (.linkSilent p) s = .next t)) ∧
  (∀ (p : Nat) (s : State), (s.lk p = lkDown → exec (.linkDown p) s = .next s ∧ exec (.retrain p) s = .next s) ∧ (s.lk p ≠ lkUp → exec (.linkSilent p) s = .next s))

/-- Lanes, gates and notices (R54, R79, R361, R370): a lane that fails leaves the mask and the neighbour is asked to leave it too, which it answers with the lanes it now
uses; too few lanes take the link down; a gate is taken as it comes; a fold notice takes the lost positions out of the arc and by itself aborts no step (DEDUCED, the
step-abort notice of R79 does); a step-abort notice for this step aborts it once. A command whose event cannot occur leaves the state as it is: the model's choice, log 6.
-/
def Obligations.LanesGatesAndNotices : Prop :=
  (∀ (p lane : Nat) (s : State), p < 4 →
    let mask := s.rf (F.LINK_LANES_RX_MASK p)
    (s.lk p = lkUp → bit mask lane = true → s.rf (F.LINK_CFG_MIN_LANES p) ≤ popCount (mask - 2 ^ lane) 32 → ∃ (t : State) (u : TxUnit), exec (.laneFail p lane) s = .next t ∧
      t.rf (F.LINK_LANES_RX_MASK p) = mask - 2 ^ lane ∧ t.rf (F.LINK_STATUS_RX_WIDTH p) = popCount (mask - 2 ^ lane) 32 ∧ t.rf (F.LINK_ERR_LANE_DROP p) = 1 ∧
      t.rf (F.LINK_CNT_COUNT p 8) = satAdd 32 (s.rf (F.LINK_CNT_COUNT p 8)) 1 ∧ t.lk p = lkUp ∧
      t.link p = { s.link p with ready := (s.link p).ready ++ [(0, u)] } ∧ msgType u.data = 0x0B ∧ leAt u.data 0x10 4 = mask - 2 ^ lane) ∧
    (s.lk p = lkUp → bit mask lane = true → popCount (mask - 2 ^ lane) 32 < s.rf (F.LINK_CFG_MIN_LANES p) → ∃ t : State, exec (.laneFail p lane) s = .next t ∧
      t.lk p = lkHoldoff ∧ t.rf (F.LINK_ERR_LINK_DOWN p) = 1) ∧
    (s.lk p ≠ lkUp ∨ bit mask lane = false → exec (.laneFail p lane) s = .next s)) ∧
  (∀ (p : Nat) (m : List Byte) (s : State), p < 4 → s.msgRefused p m = false →
    let mask := useLanes p (s.rf (F.LINK_STATUS_VERSION p)) (s.rf (F.LINK_LANES_TX_MASK p) &&& leAt m 0x10 4)
    (s.lk p = lkUp → s.rf (F.LINK_CFG_MIN_LANES p) ≤ popCount mask 32 → ∃ (t : State) (u : TxUnit), exec (.widthReq p m) s = .next t ∧
      t.rf (F.LINK_LANES_TX_MASK p) = mask ∧ t.rf (F.LINK_STATUS_TX_WIDTH p) = popCount mask 32 ∧ t.lk p = lkUp ∧
      (t.link p).ready = (s.link p).ready ++ [(0, u)] ∧ msgType u.data = 0x0C ∧ leAt u.data 0x10 4 = mask) ∧
    (s.lk p = lkUp → popCount mask 32 < s.rf (F.LINK_CFG_MIN_LANES p) → ∃ t : State, exec (.widthReq p m) s = .next t ∧ t.lk p = lkHoldoff) ∧
    (s.lk p = lkUp → ∃ t : State, exec (.widthAck p m) s = .next t ∧ t.rf (F.LINK_LANES_RX_MASK p) = s.rf (F.LINK_LANES_RX_MASK p) &&& leAt m 0x10 4 ∧
      t.rf (F.LINK_STATUS_RX_WIDTH p) = popCount (s.rf (F.LINK_LANES_RX_MASK p) &&& leAt m 0x10 4) 32 ∧
      OnlyRegs [(F.LINK_LANES_RX_MASK p).off, (F.LINK_STATUS_RX_WIDTH p).off] (s.received p m) t) ∧
    (s.lk p ≠ lkUp → exec (.widthReq p m) s = .next (s.received p m) ∧ exec (.widthAck p m) s = .next (s.received p m)) ∧
    (∃ t : State, exec (.stepGate p m) s = .next t ∧ t.rf (F.LINK_GATE_RX_STEP p) = msgStep m ∧ OnlyRegs [(F.LINK_GATE_RX_STEP p).off] (s.received p m) t)) ∧
  (∀ (p : Nat) (m : List Byte) (s : State), p < 4 → s.msgRefused p m = false → ∃ t : State, exec (.foldNotice p m) s = .next t ∧ t.mem = s.mem ∧
    (∀ q, q < 32 → bit (leAt m 0x14 4) q = true → s.arcPositions.contains q = true → q ≠ s.pos → t.chain.out.contains q = true) ∧
    (∀ q, t.chain.out.contains q = true → s.chain.out.contains q = true ∨ bit (leAt m 0x14 4) q = true) ∧
    t.rf F.FRONT_STATUS_STEP = s.rf F.FRONT_STATUS_STEP ∧ t.front = s.front) ∧
  (∀ (p : Nat) (m : List Byte) (s : State), p < 4 → s.msgRefused p m = false →
    (msgStep m = s.rf F.CHAIN_STEP_STEP → s.chain.noticeSent = false → s.rf F.FRONT_STATUS_STEP ≠ stepHalted → ∃ t : State, exec (.stepAbort p m) s = .next t ∧
      t.rf F.FRONT_STATUS_STEP = stepAborted ∧ t.chain.noticeSent = true) ∧
    (msgStep m ≠ s.rf F.CHAIN_STEP_STEP ∨ s.chain.noticeSent = true → exec (.stepAbort p m) s = .next (s.received p m)))

/-- Flits (R354 to R362): what a good flit brings is its ACK and its credits, and a broken one takes the link down; a DATA flit in order is taken and a unit it completes
handed on, an old one is dropped; a NAK sets the flits from its SEQ on to be sent again; a lost flit is counted and asked for again; a lane's slot carries a NAK that is
due, else a flit again, else a new one, else IDLE. A command whose event cannot occur leaves the state as it is: the model's choice, log 6. -/
def Obligations.FlitsKeepOrderAndCredits : Prop :=
  (∀ (p : Nat) (h : BitVec 64) (tail : BitVec 32) (s v : State), p < 4 → tail.toNat = 0 → s.flitIn p h tail = some v →
    v.rf (F.LINK_CRED_CREDITS p (flCredit h % 8)) = s.rf (F.LINK_CRED_CREDITS p (flCredit h % 8)) + flCredit h / 8 ∧
    (∀ c, c < 8 → c ≠ flCredit h % 8 → v.rf (F.LINK_CRED_CREDITS p c) = s.rf (F.LINK_CRED_CREDITS p c)) ∧
    (∀ f, f ∈ (v.link p).retry ↔ f ∈ (s.link p).retry ∧ seqPast (flAck h) (s.link p).base ≤ seqPast (flSeq f.head) (s.link p).base) ∧
    (v.link p).rxSeq = (s.link p).rxSeq ∧ (v.link p).handedOn = (s.link p).handedOn ∧ v.mem = s.mem) ∧
  (∀ (p : Nat) (h : BitVec 64) (tail : BitVec 32) (s : State), lkExchange ≤ s.lk p → flFtype h = 0 →
    exec (.flitIdle p h tail) s = .next ((s.flitIn p h tail).getD (s.protocolError p))) ∧
  (∀ (p : Nat) (h : BitVec 64) (pay : List Byte) (tail : BitVec 32) (s v : State) (n : Nat), p < 4 → lkTrain ≤ s.lk p → flFtype h = 1 → s.flitIn p h tail = some v →
    let c := flClass h
    let x := v.link p
    let b := (((x.partialRx.find? (fun e => e.1 == c)).map (·.2)).getD []) ++ pay.take (flLen h)
    flSeq h = x.rxSeq → x.heldFlits = [] → 1 ≤ c → c ≤ 5 → unitLen c b = some n → n = b.length → creditsFor n ≤ clsGet x.creditOut c →
    ∃ t : State, exec (.flitData p h pay tail) s = .next t ∧ (t.link p).handedOn = x.handedOn ++ [(c, b)] ∧ (t.link p).rxSeq = (x.rxSeq + 1) % 65536 ∧
      clsGet (t.link p).creditOut c = clsGet x.creditOut c - creditsFor n ∧ (t.link p).heldFlits = [] ∧
      t.rf (F.LINK_CNT_COUNT p 1) = satAdd 32 (v.rf (F.LINK_CNT_COUNT p 1)) 1 ∧ OnlyRegs [(F.LINK_CNT_COUNT p 1).off] { v with links := t.links } t) ∧
  (∀ (p : Nat) (h : BitVec 64) (pay : List Byte) (tail : BitVec 32) (s : State), lkTrain ≤ s.lk p → flFtype h = 1 →
    (s.flitIn p h tail = none → exec (.flitData p h pay tail) s = .next (s.protocolError p)) ∧
    (∀ v, s.flitIn p h tail = some v → 32768 ≤ seqPast (flSeq h) (v.link p).rxSeq → exec (.flitData p h pay tail) s = .next v)) ∧
  (∀ (p : Nat) (h : BitVec 64) (tail : BitVec 32) (s v : State), p < 4 → lkExchange ≤ s.lk p → flFtype h = 2 → s.flitIn p h tail = some v →
    (∀ f ∈ (v.link p).retry, flSeq f.head = flSeq h → ∃ t : State, exec (.flitNak p h tail) s = .next t ∧
      (t.link p).resend = (v.link p).retry.filter (fun g => decide (seqPast (flSeq h) (v.link p).base ≤ seqPast (flSeq g.head) (v.link p).base)) ∧
      t.rf (F.LINK_CNT_COUNT p 3) = satAdd 32 (v.rf (F.LINK_CNT_COUNT p 3)) 1) ∧
    ((∀ f ∈ (v.link p).retry, flSeq f.head ≠ flSeq h) → exec (.flitNak p h tail) s = .next (v.protocolError p))) ∧
  (∀ (p lane n : Nat) (e : Bool) (s : State), p < 4 → lane < 32 → lkExchange ≤ s.lk p → ∃ t : State, exec (.flitLost p lane n e) s = .next t ∧
    (if 0 < n then t.rf (F.LINK_ERR_UNCORR p) = 1 ∧ t.rf (F.LINK_CNT_COUNT p 6) = satAdd 32 (s.rf (F.LINK_CNT_COUNT p 6)) n else
      t.rf (F.LINK_ERR_CRC p) = 1 ∧ t.rf (F.LINK_CNT_COUNT p 5) = satAdd 32 (s.rf (F.LINK_CNT_COUNT p 5)) 1) ∧
    t.link p = (if e = true ∧ (s.link p).naks = 0 then { s.link p with naks := 1, nakDue := true } else s.link p) ∧
    t.rf (F.LINK_CNT_COUNT p 2) = (if e = true ∧ (s.link p).naks = 0 then satAdd 32 (s.rf (F.LINK_CNT_COUNT p 2)) 1 else s.rf (F.LINK_CNT_COUNT p 2))) ∧
  (∀ (p : Nat) (s : State), p < 4 → lkExchange ≤ s.lk p →
    (((s.link p).heldFlits ≠ [] ∨ 0 < (s.link p).naks) → (s.link p).naks < 15 → ∃ t : State, exec (.nakTimeout p) s = .next t ∧
      t.link p = { s.link p with naks := (s.link p).naks + 1, nakDue := true } ∧ t.rf (F.LINK_CNT_COUNT p 2) = satAdd 32 (s.rf (F.LINK_CNT_COUNT p 2)) 1) ∧
    (15 ≤ (s.link p).naks → ∃ t : State, exec (.nakTimeout p) s = .next t ∧ t.lk p = lkHoldoff ∧ t.rf (F.LINK_ERR_RETRY_EXHAUSTED p) = 1) ∧
    ((s.link p).heldFlits = [] → (s.link p).naks = 0 → exec (.nakTimeout p) s = .next s)) ∧
  (∀ (p lane : Nat) (s : State), p < 4 → lkExchange ≤ s.lk p → bit (s.rf (F.LINK_LANES_TX_MASK p)) lane = true →
    let v := ((List.range 7).filter (carries p)).foldl (fun (s : State) c => State.fillClass p c 512 s) s
    let x := v.link p
    ∃ (t : State) (body : List Byte), exec (.flitSlotSend p lane) s = .next t ∧ (t.link p).out = some (lane, body) ∧ leAt body 4 2 = x.rxSeq % 65536 ∧
      (x.nakDue = true → (t.link p).nakDue = false ∧ leAt body 0 2 = 2 ∧ leAt body 2 2 = x.rxSeq % 65536 ∧ (t.link p).retry = x.retry) ∧
      (∀ f fs, x.nakDue = false → x.resend = f :: fs → laneOf (s.rf (F.LINK_LANES_TX_MASK p)) (flSeq f.head) = lane → (t.link p).resend = fs ∧
        leAt body 0 4 = f.head.toNat % 2 ^ 32 ∧ t.rf (F.LINK_CNT_COUNT p 4) = satAdd 32 (s.rf (F.LINK_CNT_COUNT p 4)) 1) ∧
      (∀ c, x.nakDue = false → x.resend = [] → x.retry.length < 1024 → laneOf (s.rf (F.LINK_LANES_TX_MASK p)) x.txSeq = lane → v.pickClass p = some c →
        (t.link p).txSeq = (x.txSeq + 1) % 65536 ∧ (t.link p).retry.map (·.payload) = x.retry.map (·.payload) ++ [(x.bytesOf c).take 4096] ∧
        t.rf (F.LINK_CNT_COUNT p 0) = satAdd 32 (s.rf (F.LINK_CNT_COUNT p 0)) 1) ∧
      (x.nakDue = false → x.resend = [] → 1024 ≤ x.retry.length ∨ v.pickClass p = none → leAt body 0 4 = 0 ∧ (t.link p).txSeq = x.txSeq ∧ (t.link p).retry = x.retry)) ∧
  (∀ (p lane : Nat) (s : State), s.lk p < lkExchange → exec (.flitSlotSend p lane) s = .next s)

/-- Micro-batch slots (R67 to R76): SLOT_OPEN takes a FREE slot with a buffer of its stream and the descriptor's fields, a slot of the first chunk being READY at once and
one for a hand-off once its output is there; a round's end sends a slot's result or, at an end of the model, ends it, stashing a training slot's inputs; SLOT_PARK moves
the buffer to the park range and SLOT_RESUME brings it back to the state it kept; SLOT_CLOSE frees a DONE slot. An operation that R69 does not list for the slot's state,
or a range past its region, is recorded and aborts its task. A command whose event cannot occur leaves the state as it is: the model's choice, log 6. -/
def Obligations.SlotsMoveThroughTheirStates : Prop :=
  (∀ (m p a : Nat) (d : BitVec 256) (s v : State), slotOpenDecode d = true →
    let k := descField d 2 2
    let eval := bit (descField d 5 1) 0
    s.issues m d = true → s.slotState k = slFree → descField d 0x14 4 * 4096 < s.rf F.PIPE_STASH_SIZE_GIB * 2 ^ 30 → s.openBad d = false →
    s.ctxRefused (descField d 0x10 4) eval = none → bit (descField d 5 1) 3 = false → s.inPort (descField d 4 1) = some p →
    s.request (2 + p) (s.rf (F.CASKET_SLOT_STRIPES (2 + p))) (slotOwner k false) = (.granted a, v) →
    ∃ u : State, exec (.slotOpen m d) s = .next (u.nextDesc m) ∧ u.slotState k = slOpen ∧ u.rf (slotFld k 1 0 3) = descField d 4 1 ∧
      u.rf (slotFld k 4 0 32) = s.rf F.CHAIN_STEP_STEP ∧ u.rf (slotFld k 8 0 16) = descField d 0xA 2 ∧ u.rf (slotFld k 0xC 0 18) = descField d 0x10 4 ∧
      u.rf (slotFld k 0x10 0 32) = a % 2 ^ 32 ∧ u.rf (slotFld k 0x18 0 12) = descField d 0xE 2 ∧ u.pipe.evalStep = some (s.pipe.evalStep.getD eval) ∧
      (∀ j, j < 1024 → j ≠ k → u.slotState j = s.slotState j)) ∧
  (∀ (m : Nat) (d : BitVec 256) (s : State), slotOpenDecode d = true →
    let k := descField d 2 2
    let eval := bit (descField d 5 1) 0
    s.issues m d = true → s.slotState k = slFree → descField d 0x14 4 * 4096 < s.rf F.PIPE_STASH_SIZE_GIB * 2 ^ 30 → s.openBad d = false →
    s.ctxRefused (descField d 0x10 4) eval = none →
    let kept := s.pipe.outbox.find? (fun o => o.port == 4 && o.mb == descField d 0xA 2 && o.vstage == descField d 4 1)
    (∀ a v, bit (descField d 5 1) 3 = false → s.inPort (descField d 4 1) = none → s.request 6 (s.rf (F.CASKET_SLOT_STRIPES 6)) (slotOwner k false) = (.granted a, v) →
      ∃ u : State, exec (.slotOpen m d) s = .next (u.nextDesc m) ∧ u.slotState k = (if u.roundNames k false = true then slFwd else slReady) ∧
        u.rf (slotFld k 0x10 0 32) = a % 2 ^ 32 ∧ u.rf (slotFld k 8 0 16) = descField d 0xA 2) ∧
    (bit (descField d 5 1) 3 = true → kept = none → ∃ u : State, exec (.slotOpen m d) s = .next (u.nextDesc m) ∧ u.slotState k = slOpen ∧
      u.rf (slotFld k 8 0 16) = descField d 0xA 2 ∧ u.casket.grants = s.casket.grants) ∧
    (∀ o, bit (descField d 5 1) 3 = true → kept = some o → ∃ u : State, exec (.slotOpen m d) s = .next (u.nextDesc m) ∧
      u.slotState k = (if u.roundNames k false = true then slFwd else slReady) ∧ u.rf (slotFld k 0x10 0 32) = o.stripe % 2 ^ 32 ∧ u.pipe.outbox = s.pipe.outbox.erase o)) ∧
  (∀ (m : Nat) (d : BitVec 256) (s : State), s.issues m d = true → (slotOpenDecode d = false → exec (.slotOpen m d) s = .next (s.fault m 1)) ∧
    (slotOpenDecode d = true → s.slotState (descField d 2 2) ≠ slFree →
      exec (.slotOpen m d) s = .next (((s.raise F.PIPE_ERR_SLOT_BUSY).event 0x020B srcHub (descField d 2 2) (descField d 0xA 2) 0 0).fault m 1)) ∧
    (slotOpenDecode d = true → s.slotState (descField d 2 2) = slFree → s.rf F.PIPE_STASH_SIZE_GIB * 2 ^ 30 ≤ descField d 0x14 4 * 4096 →
      exec (.slotOpen m d) s = .next (((s.raise F.PIPE_ERR_RANGE).event 0x020D srcHub (descField d 2 2) (descField d 0xA 2) 0 0).fault m 1))) ∧
  (∀ (r k : Nat) (o : RoundOut) (e : List Byte) (s : State), s.roundEntry r = some e → r < s.chain.round → (s.roundSlots e).contains k = true → o.slot = k →
    (s.slotState k = slFwd → s.nextHop true (s.rf (slotFld k 1 0 3)) = none → s.rf (slotFld k 2 0 1) = 1 →
      ∃ t : State, exec (.roundEnd r [o]) s = .next t ∧ t.slotState k = slDone ∧ t.mem = s.mem) ∧
    (s.slotState k = slBwd → s.nextHop false (s.rf (slotFld k 1 0 3)) = none → ∃ t : State, exec (.roundEnd r [o]) s = .next t ∧ t.slotState k = slDone ∧ t.mem = s.mem) ∧
    (s.slotState k = slFwd → s.nextHop true (s.rf (slotFld k 1 0 3)) = none → s.rf (slotFld k 2 0 1) = 0 → s.rf (slotFld k 2 2 1) = 0 →
      let data := (convertTensor (s.rf (slotFld k 3 0 8)) true (fun _ => .nearest) (o.inputs.map f32)).1
      data.length ≤ s.rf F.PIPE_STASH_SIZE_GIB * 2 ^ 30 - s.rf (slotFld k 0x14 0 32) * 4096 → ∃ t : State, exec (.roundEnd r [o]) s = .next t ∧ t.slotState k = slStashed ∧ t.rbs (s.stashAddr k) data.length = data ∧
        (∀ x, x < s.stashAddr k ∨ s.stashAddr k + data.length ≤ x → t.rb x = s.rb x)) ∧
    (∀ p v2 a v, s.slotState k = slFwd → s.nextHop true (s.rf (slotFld k 1 0 3)) = some (p, v2) → p < 4 → s.rf (slotFld k 2 0 1) = 1 →
      s.request 6 (ceilDiv o.data.length 512) (outOwner k false) = (.granted a, v) →
      (s.codesChunk p 0x12 = true → ∃ b w, (v.store (stripeAddr a) o.data).request 14 (s.rf (F.CASKET_SLOT_STRIPES 14)) ⟨.codec, 32 + k⟩ = (.granted b, w)) →
      ∃ (t : State) (x : OutX), exec (.roundEnd r [o]) s = .next t ∧
        t.slotState k = slDone ∧ t.pipe.outbox = s.pipe.outbox ++ [x] ∧ x.port = p ∧ x.mb = s.rf (slotFld k 8 0 16) ∧ x.vstage = v2 ∧ x.kind = 0x12 ∧ x.stripe = a ∧
        t.rbs (stripeAddr a) o.data.length = o.data)) ∧
  (∀ (r : Nat) (l : List RoundOut) (s : State), s.chain.round ≤ r ∨ l = [] → exec (.roundEnd r l) s = .next s) ∧
  (∀ (m : Nat) (d : BitVec 256) (s : State), controlHeader d 7 = true → descField d 2 2 < 1024 → descField d 4 4 = 0 → descZero d 0xC 32 = true →
    let k := descField d 2 2
    let base := s.rf F.PIPE_PARK_BASE_GIB * 2 ^ 30 + descField d 8 4 * 4096
    let n := s.bufBytes k
    s.issues m d = true → (s.slotState k = slReady ∨ s.slotState k = slStashed ∨ s.slotState k = slBwdReady → descField d 8 4 * 4096 + n ≤ s.rf F.PIPE_PARK_SIZE_GIB * 2 ^ 30 →
      s.flag F.CODEC_CFG_PARK = false → ∃ u : State, exec (.slotPark m d) s = .next (u.nextDesc m) ∧ u.slotState k = slParked ∧ u.slotSaved k = s.slotState k ∧
        u.rf (slotFld k 0x1C 0 32) = descField d 8 4 ∧ u.rf F.PIPE_PARKS_COUNT = satAdd 32 (s.rf F.PIPE_PARKS_COUNT) 1 ∧
        u.rbs base n = s.rbs (s.bufAddr k) n ∧ (∀ x, x < base ∨ base + n ≤ x → u.rb x = s.rb x)) ∧
    (s.slotState k = slReady ∨ s.slotState k = slStashed ∨ s.slotState k = slBwdReady → s.rf F.PIPE_PARK_SIZE_GIB * 2 ^ 30 < descField d 8 4 * 4096 + n →
      exec (.slotPark m d) s = .next (((s.raise F.PIPE_ERR_RANGE).event 0x020D srcHub k (s.rf (slotFld k 8 0 16)) 0 0).fault m 1)) ∧
    (s.slotState k ≠ slReady → s.slotState k ≠ slStashed → s.slotState k ≠ slBwdReady → exec (.slotPark m d) s = .next (s.slotFault m k))) ∧
  (∀ (m : Nat) (d : BitVec 256) (s : State), controlHeader d 8 = true → descField d 2 2 < 1024 → descZero d 4 32 = true →
    let k := descField d 2 2
    let o := s.resumeStream k
    s.issues m d = true → (s.slotState k ≠ slParked → exec (.slotResume m d) s = .next (s.slotFault m k)) ∧
    (∀ a v, s.slotState k = slParked → s.request o.1 (s.rf (F.CASKET_SLOT_STRIPES o.1)) o.2 = (.granted a, v) →
      ∃ u : State, exec (.slotResume m d) s = .next (u.nextDesc m) ∧ u.rf (slotFld k 0x10 0 32) = a % 2 ^ 32 ∧ u.slotState k = slParked ∧
        u.rf F.PIPE_RESUMES_COUNT = satAdd 32 (s.rf F.PIPE_RESUMES_COUNT) 1 ∧ u.mem = s.mem) ∧
    (∀ v, s.slotState k = slParked → s.request o.1 (s.rf (F.CASKET_SLOT_STRIPES o.1)) o.2 = (.waits, v) → exec (.slotResume m d) s = .next v)) ∧
  (∀ (k : Nat) (s v : State), k < 1024 → s.slotState k = slParked → s.bufBytes k ≠ 0 → (s.slotX k).parkGens ≠ [] →
    s.request 14 (min (ceilDiv (s.bufBytes k) 512) (s.rf (F.CASKET_SLOT_STRIPES 14))) ⟨.codec, 4096 + k⟩ = (.waits, v) → s.rf (F.CASKET_SLOT_STRIPES 14) ≠ 0 →
    exec (.slotResumeDone k) s = .next v) ∧
  (∀ (k : Nat) (s w v : State) (data : List Byte), k < 1024 → s.slotState k = slParked → s.bufBytes k ≠ 0 →
    (((s.slotX k).parkGens = [] ∨ s.rf (F.CASKET_SLOT_STRIPES 14) = 0) ∧ w = s ∨ (s.slotX k).parkGens ≠ [] ∧ s.rf (F.CASKET_SLOT_STRIPES 14) ≠ 0 ∧ ∃ a x,
      s.request 14 (min (ceilDiv (s.bufBytes k) 512) (s.rf (F.CASKET_SLOT_STRIPES 14))) ⟨.codec, 4096 + k⟩ = (.granted a, x) ∧
      w = x.store (stripeAddr a) ((s.rbs (s.parkAddr k) (s.bufBytes k)).take (s.rf (F.CASKET_SLOT_STRIPES 14) * 512))) →
    State.readRange (w.parkAddr k) (w.bufBytes k) (w.slotX k).parkGens (w.bufBytes k / 1048576 + 1) 0 w = (some data, v) →
    let st := s.slotSaved k
    ∃ t : State, exec (.slotResumeDone k) s = .next t ∧ t.slotState k =
        (if st = slReady ∧ s.roundNames k false = true then slFwd else if st = slBwdReady ∧ s.roundNames k true = true then slBwd else st) ∧
      t.rbs (s.bufAddr k) data.length = data ∧ ∀ x, x < s.bufAddr k ∨ s.bufAddr k + data.length ≤ x → t.rb x = w.rb x) ∧
  (∀ (k : Nat) (s : State), s.slotState k ≠ slParked → exec (.slotResumeDone k) s = .next s) ∧
  (∀ (m : Nat) (d : BitVec 256) (s : State), s.issues m d = true → controlHeader d 9 = true → descField d 2 2 < 1024 → descZero d 4 32 = true →
    (s.slotState (descField d 2 2) = slDone → ∃ u : State, exec (.slotClose m d) s = .next (u.nextDesc m) ∧ u.slotState (descField d 2 2) = slFree ∧
      ∀ j, j < 1024 → j ≠ descField d 2 2 → u.slotState j = s.slotState j) ∧
    (s.slotState (descField d 2 2) ≠ slDone → exec (.slotClose m d) s = .next (s.slotFault m (descField d 2 2))))

/-- Pipeline chunks (R65, R66, R69): the next chunk of an open slot lands in its buffer, the first makes the slot FILLING and the last READY with its Clasp signalled; the
first gradient chunk of a stashed slot lands in a new buffer of its port's stream; one that is malformed, of another step, a duplicate or past a gap is dropped, counted
and flagged, and the slots stay as they are; one with no slot open, and all behind it on its port, wait; an acknowledged transfer frees its output buffer, and one asked
for again goes again from it. A command whose event cannot occur leaves the state as it is: the model's choice, log 6. -/
def Obligations.ChunksLandOrAreDropped : Prop :=
  (∀ (p k : Nat) (u : List Byte) (s : State), p = 2 ∨ p = 3 → s.firstChunk p u = true → chunkOk (s.rf (F.PIPE_STATUS_VER (p - 2))) u = true → leAt u 0x1E 2 = s.rf F.SETUP_IDENT_MODULE_ID →
    leAt u 4 4 = s.rf F.CHAIN_STEP_STEP → s.slotFor (leAt u 4 4) (leAt u 8 2) (leAt u 0xA 1) (leAt u 2 1) = some k → leAt u 2 1 ≠ 0x11 →
    let idx := leAt u 0xC 2
    (idx = s.slotNext k (leAt u 2 1) → leAt u 0x28 4 = crc32c (u.drop 64) → bit (leAt u 0xB 1) 0 = false → s.slotState k = slOpen ∨ s.slotState k = slFilling →
      idx * 1048576 + (u.drop 64).length ≤ s.bufBytes k → ∃ t : State, exec (.pipeChunkRx p u) s = .next t ∧
        t.rbs (s.bufAddr k + idx * 1048576) (u.drop 64).length = u.drop 64 ∧ (t.slotX k).next = idx + 1 ∧ (t.slotX k).kind = leAt u 2 1 ∧
        (s.traces 5 = false → ∀ x, x < s.bufAddr k + idx * 1048576 ∨ s.bufAddr k + idx * 1048576 + (u.drop 64).length ≤ x → t.rb x = s.rb x) ∧
        (bit (leAt u 0xB 1) 1 = false → t.slotState k = slFilling ∧ t.clasp.flying = s.clasp.flying) ∧
        (bit (leAt u 0xB 1) 1 = true → t.slotState k = (if s.roundNames k false then slFwd else slReady) ∧
          t.clasp.flying = s.clasp.flying ++ [⟨s.rf (slotFld k 0x18 0 12), 1, false, 0x1FF⟩])) ∧
    (idx < s.slotNext k (leAt u 2 1) → ∃ t : State, exec (.pipeChunkRx p u) s = .next t ∧ t.rf F.PIPE_ERR_DUP = 1 ∧ t.pipe = s.pipe ∧
      t.rf (if p = 2 then F.PIPE_CNT_UP_COUNT 2 else F.PIPE_CNT_DN_COUNT 2) = satAdd 32 (s.rf (if p = 2 then F.PIPE_CNT_UP_COUNT 2 else F.PIPE_CNT_DN_COUNT 2)) 1) ∧
    (s.slotNext k (leAt u 2 1) < idx → ∃ t : State, exec (.pipeChunkRx p u) s = .next t ∧ t.rf F.PIPE_ERR_GAP = 1 ∧ t.slotState k = s.slotState k ∧
      t.rf (if p = 2 then F.PIPE_CNT_UP_COUNT 3 else F.PIPE_CNT_DN_COUNT 3) = satAdd 32 (s.rf (if p = 2 then F.PIPE_CNT_UP_COUNT 3 else F.PIPE_CNT_DN_COUNT 3)) 1)) ∧
  (∀ (p k a : Nat) (u : List Byte) (s v : State), p = 2 ∨ p = 3 → s.firstChunk p u = true → chunkOk (s.rf (F.PIPE_STATUS_VER (p - 2))) u = true →
    leAt u 0x1E 2 = s.rf F.SETUP_IDENT_MODULE_ID → leAt u 4 4 = s.rf F.CHAIN_STEP_STEP → leAt u 2 1 = 0x11 →
    s.slotFor (leAt u 4 4) (leAt u 8 2) (leAt u 0xA 1) 0x11 = some k → leAt u 0xC 2 = 0 → s.slotNext k 0x11 = 0 → leAt u 0x28 4 = crc32c (u.drop 64) →
    bit (leAt u 0xB 1) 0 = false → s.slotState k = slStashed → s.hasGradBuffer k = false →
    s.request (2 + p) (s.rf (F.CASKET_SLOT_STRIPES (2 + p))) (slotOwner k true) = (.granted a, v) → a < 2 ^ 32 →
    (u.drop 64).length ≤ 512 * s.rf (F.CASKET_SLOT_STRIPES (2 + p)) → ∃ t : State, exec (.pipeChunkRx p u) s = .next t ∧
      t.rbs (stripeAddr a) (u.drop 64).length = u.drop 64 ∧ t.rf (slotFld k 0x10 0 32) = a ∧ (∀ g ∈ t.casket.grants, g.owner ≠ slotOwner k false) ∧
      t.slotState k = (if bit (leAt u 0xB 1) 1 = true then (if s.roundNames k true = true then slBwd else slBwdReady) else slStashed)) ∧
  (∀ (p : Nat) (u : List Byte) (s : State), s.firstChunk p u = false ∨ chunkOk (s.rf (F.PIPE_STATUS_VER (p - 2))) u = true ∧
    leAt u 0x1E 2 = s.rf F.SETUP_IDENT_MODULE_ID ∧ leAt u 4 4 = s.rf F.CHAIN_STEP_STEP ∧ s.slotFor (leAt u 4 4) (leAt u 8 2) (leAt u 0xA 1) (leAt u 2 1) = none →
    exec (.pipeChunkRx p u) s = .next s) ∧
  (∀ (p : Nat) (u : List Byte) (s : State), p = 2 ∨ p = 3 → s.firstChunk p u = true →
    (chunkOk (s.rf (F.PIPE_STATUS_VER (p - 2))) u = false → ∃ t : State, exec (.pipeChunkRx p u) s = .next t ∧ t.rf F.PIPE_ERR_MALFORMED = 1 ∧ t.pipe = s.pipe ∧
      t.rf (if p = 2 then F.PIPE_CNT_UP_COUNT 7 else F.PIPE_CNT_DN_COUNT 7) = satAdd 32 (s.rf (if p = 2 then F.PIPE_CNT_UP_COUNT 7 else F.PIPE_CNT_DN_COUNT 7)) 1) ∧
    (chunkOk (s.rf (F.PIPE_STATUS_VER (p - 2))) u = true → leAt u 0x1E 2 = s.rf F.SETUP_IDENT_MODULE_ID → leAt u 4 4 < s.rf F.CHAIN_STEP_STEP →
      ∃ t : State, exec (.pipeChunkRx p u) s = .next t ∧ t.rf F.PIPE_ERR_STALE = 1 ∧ t.pipe = s.pipe)) ∧
  (∀ (p : Nat) (u : List Byte) (s : State), p ≠ 2 → p ≠ 3 → exec (.pipeChunkRx p u) s = .next s) ∧
  (∀ (p : Nat) (m : List Byte) (s : State), p < 4 → s.msgRefused p m = false →
    let hit := s.pipe.outbox.find? (fun o => o.port == p && o.mb == leAt m 0x10 2 && o.vstage == leAt m 0x12 1 && o.kind == leAt m 0x13 1)
    (hit = none → exec (.xferAck p m) s = .next (s.received p m) ∧ exec (.retransferReq p m) s = .next (s.received p m)) ∧
    (∀ o, hit = some o → ∃ t : State, exec (.xferAck p m) s = .next t ∧ t.pipe.outbox = s.pipe.outbox.erase o ∧
      (∀ g ∈ t.casket.grants, g.owner.kind = .outBuf → g.start ≠ o.stripe) ∧ t.mem = s.mem) ∧
    (∀ o, hit = some o → ∃ t : State, exec (.retransferReq p m) s = .next t ∧
      (t.link p).ready = (s.link p).ready ++ o.chunks.map (fun u => (5, ⟨u, s.rf F.CHAIN_STEP_STEP, true, s.counts 5 u, none⟩)) ∧ t.pipe = s.pipe ∧ t.mem = s.mem))

/-- Beads on the arc (R38, R43 to R53, R77, R190, R209, R218): a round starts once the last has gone out and lists its home Beads; the first that waits is injected, its
own copy landing at once, and so is a key and value block; an arriving Bead is dropped by the first row of R48 that it meets, counted and flagged, or lands and goes on;
transit goes on unchanged through its ring; a tag that passes leaves the plaintext and signals the Clasp, one that fails has the Bead asked for again; a Bead that comes
after a wait of LATE_TICKS is counted. A command whose event cannot occur leaves the state as it is: the model's choice, log 6. -/
def Obligations.BeadsTravelTheArc : Prop :=
  (∀ (e : List Byte) (s : State), s.roundEntry s.chain.round = some e →
    (s.grad.closed = false → s.chain.waiting = [] → s.chain.fetching = [] → s.rf F.CHAIN_MEMBER_STATE = memMember → s.rf F.FRONT_STATUS_STEP ≤ stepDrain →
      ∃ t : State, exec .roundStart s = .next t ∧ t.chain = { s.chain with round := s.chain.round + 1, waiting := s.shards.flatMap (s.roundBeads s.chain.round e) } ∧
        t.rf F.GRAD_STATUS_PHASE = (if roundDir e = 1 ∧ s.rf F.GRAD_STATUS_PHASE = 0 then 1 else s.rf F.GRAD_STATUS_PHASE) ∧ t.mem = s.mem) ∧
    (s.grad.closed = true ∨ s.chain.waiting ≠ [] ∨ s.chain.fetching ≠ [] ∨ s.rf F.CHAIN_MEMBER_STATE ≠ memMember → exec .roundStart s = .next s)) ∧
  (∀ s : State, s.roundEntry s.chain.round = none → exec .roundStart s = .next s) ∧
  (∀ (r home k x a : Nat) (rest : List (Nat × Nat × Nat)) (h : Shard) (e : BeadEntry) (s v w : State), s.chain.waiting = (r, home, k) :: rest →
    s.shardOf home = some h → h.beads[k]? = some e →
    let d := b2n e.west
    let u := bdRoute (s.storedBead (s.workAt h k)) (s.rf F.CHAIN_STEP_STEP) r k (3 * d) 0 s.pos 0xFF
    let p := if s.arcLen ≤ 1 then 0 else (s.exitPort d).1
    s.request 7 (beadStripes (bdLen u)) (injectOwner u) = (.granted x, v) → v.request (2 + p) (v.landStripes (2 + p) u) (landOwner u) = (.granted a, w) →
    (w.store (stripeAddr x) u).poisonedAt (s.workAt h k) u.length = false →
    (∀ pt, s.openBead (u.take 64) (bdPayload u) (bdTag u) = some pt →
      ∃ t : State, exec (.beadInject none .none) s = .next t ∧ t.chain.waiting = rest ∧
        t.chain.landings = s.chain.landings ++ [⟨p, u.take 64, bdTag u, a, none, true, 0, s.readersOf u⟩] ∧ t.rbs (stripeAddr a) pt.length = pt ∧
        (∀ y, y < stripeAddr x ∨ stripeAddr x + u.length ≤ y → y < stripeAddr a ∨ stripeAddr a + pt.length ≤ y → t.rb y = s.rb y) ∧
        t.clasp.flying = s.clasp.flying ++ [⟨Config.landingClasp (bdId u) (bdRound u) % 65536, 1, false, 0x1FF⟩] ∧
        t.rf (F.CHAIN_CNT_COUNT p 2) = satAdd 32 (s.rf (F.CHAIN_CNT_COUNT p 2)) 1 ∧ (s.arcLen ≤ 1 → t.links = s.links) ∧
        (1 < s.arcLen → ∃ (q : Nat) (y : Nat × TxUnit), q < 2 ∧ (t.link q).ready = (s.link q).ready ++ [y] ∧ y.2.gated = true ∧ y.2.data.drop 64 = u.drop 64)) ∧
    (s.openBead (u.take 64) (bdPayload u) (bdTag u) = none → s.cameoHolder.isSome = true → home = s.pos →
      ∃ t : State, exec (.beadInject none .none) s = .next t ∧ t.chain.waiting = rest ∧ t.chain.fetching = s.chain.fetching ++ [(r, home, k)] ∧
        t.chain.landings = s.chain.landings)) ∧
  (∀ (m : Upset) (s : State), s.chain.waiting = [] → exec (.beadInject none m) s = .next s) ∧
  (∀ (b : KvBlock) (m : Upset) (u : List Byte) (x : Nat) (s v : State), s.rf F.CHAIN_MEMBER_STATE = memMember → 1 < s.arcLen →
    (s.flag F.CODEC_CFG_KV = false ∨ s.rf F.CHAIN_BEAD_VER_ACTIVE ≠ 0x0101) →
    s.sealBead (s.kvHead b (pad512 b.data).length false) (pad512 b.data) = some u →
    let seq := SMap.get (fun _ => 0) s.chain.kvNext b.round
    let w := bdRoute u (s.rf F.CHAIN_STEP_STEP) b.round seq (3 * b2n b.west) 0 s.pos (b.back.getD 0xFF)
    s.request 7 (beadStripes (bdLen (s.outward w))) (injectOwner w) = (.granted x, v) →
    ∃ (t : State) (q : Nat) (y : Nat × TxUnit), exec (.beadInject (some b) m) s = .next t ∧ q < 2 ∧ (t.link q).ready = (s.link q).ready ++ [y] ∧ y.2.gated = true ∧
      y.2.data = s.outward w ∧ SMap.get (fun _ => 0) t.chain.kvNext b.round = seq + 1 ∧ t.chain.landings = s.chain.landings) ∧
  (∀ (p : Nat) (u : List Byte) (s : State), p < 2 →
    ∀ e ∈ [(0, 11, F.CHAIN_ERR_WRONG_ARC p), (1, 11, F.CHAIN_ERR_MALFORMED p), (2, 11, F.CHAIN_ERR_WRONG_ARC p), (12, 11, F.CHAIN_ERR_WRONG_ARC p),
        (3, 11, F.CHAIN_ERR_HOP_EXCEEDED p), (4, 9, F.CHAIN_ERR_STALE p), (5, 10, F.CHAIN_ERR_FUTURE p), (6, 4, F.CHAIN_ERR_DUP p)],
      s.beadRow p u = e.1 → ∃ t : State, exec (.beadRx p u) s = .next t ∧ t.rf e.2.2 = 1 ∧
        t.rf (F.CHAIN_CNT_COUNT p e.2.1) = satAdd 32 (s.rf (F.CHAIN_CNT_COUNT p e.2.1)) 1 ∧ t.chain = s.chain ∧ t.clasp = s.clasp ∧ (∀ q, (t.link q).ready = (s.link q).ready)) ∧
  (∀ (p row a b : Nat) (u : List Byte) (s v w : State), p < 2 → s.beadRow p u = row → row = 7 ∨ row = 8 →
    let keeps := (s.beadRole u).2.2
    s.request (rxStream p u) (s.cipherStripes (rxStream p u) u keeps) (cipherOwner u) = (.granted a, v) →
    v.request (landStream p u) (v.landStripes (landStream p u) u) (landOwner u) = (.granted b, w) → (s.beadRole u).1 = true →
    ∃ t : State, exec (.beadRx p u) s = .next t ∧
      t.chain.landings = s.chain.landings ++ [⟨p, u.take 64, bdTag u, b, if keeps then some a else none, false, 0, s.readersOf u⟩] ∧
      t.rbs (stripeAddr b) (bdPayload u).length = bdPayload u ∧
      t.rf (F.CHAIN_CNT_COUNT p (if row = 7 then 5 else 0)) = satAdd 32 (s.rf (F.CHAIN_CNT_COUNT p (if row = 7 then 5 else 0))) 1 ∧
      (row = 7 → t.rf (F.CHAIN_ERR_OOO p) = 1) ∧
      (bdKind u = 0 → s.chain.late.contains (bdId u, bdRound u) = true → t.rf (F.CHAIN_CNT_COUNT p 12) = satAdd 32 (s.rf (F.CHAIN_CNT_COUNT p 12)) 1) ∧
      ((s.beadRole u).2.1 = false → ∃ (q : Nat) (y : Nat × TxUnit), q < 2 ∧ (t.link q).ready = (s.link q).ready ++ [y] ∧ bdHop y.2.data = (bdHop u + 1) % 256)) ∧
  (∀ (p : Nat) (u : List Byte) (s v : State), p < 2 → s.beadRow p u = 8 →
    s.request (rxStream p u) (s.cipherStripes (rxStream p u) u (s.beadRole u).2.2) (cipherOwner u) = (.refused, v) →
    ∃ t : State, exec (.beadRx p u) s = .next t ∧ t.rf (F.CHAIN_ERR_MALFORMED p) = 1 ∧ t.rf (F.CHAIN_CNT_COUNT p 11) = satAdd 32 (s.rf (F.CHAIN_CNT_COUNT p 11)) 1 ∧
      t.chain = s.chain) ∧
  (∀ (p : Nat) (u : List Byte) (s : State), p < 2 → bdArc u ≠ s.rf F.CHAIN_ARC_ARC_ID →
    (s.transits p (bdArc u) = true → ∀ at0, s.ringAt p (beadStripes (bdLen u)) = some at0 → ∃ (t : State) (y : TxUnit), exec (.transitBeadRx p u) s = .next t ∧
      (t.link (1 - p)).ready = (s.link (1 - p)).ready ++ [(4, y)] ∧ y.data = u ∧ y.gated = false ∧ (t.link p).handedOn = (s.link p).handedOn.erase (4, u) ∧
      t.ringBeads p = s.ringBeads p ++ [(at0, beadStripes (bdLen u))] ∧
      t.rf (F.CHAIN_CNT_COUNT (1 - p) 13) = satAdd 32 (s.rf (F.CHAIN_CNT_COUNT (1 - p) 13)) (ceilDiv u.length 1024) ∧ t.chain = s.chain) ∧
    (s.transits p (bdArc u) = true → s.ringAt p (beadStripes (bdLen u)) = none → exec (.transitBeadRx p u) s = .next s) ∧
    (s.transits p (bdArc u) = false → ∃ t : State, exec (.transitBeadRx p u) s = .next t ∧ t.rf (F.CHAIN_ERR_WRONG_ARC p) = 1 ∧
      t.rf (F.CHAIN_CNT_COUNT p 11) = satAdd 32 (s.rf (F.CHAIN_CNT_COUNT p 11)) 1 ∧ t.chain = s.chain)) ∧
  (∀ (p : Nat) (u : List Byte) (s : State), 2 ≤ p → exec (.beadRx p u) s = .next s ∧ exec (.transitBeadRx p u) s = .next s) ∧
  (∀ (i : Nat) (l : Landing) (s : State), s.chain.landings[i]? = some l → l.checked = false → bdKind l.head < 3 → l.port < 2 →
    (∀ pt, s.openBead l.head (s.rbs (stripeAddr l.stripe) (bdLen l.head)) l.tag = some pt → bdCompressed l.head = false → ∃ t : State, exec (.beadTagCheckDone i) s = .next t ∧
      t.chain.landings = s.chain.landings.map (fun x => if x = l then { x with checked := true } else x) ∧ t.rbs (stripeAddr l.stripe) pt.length = pt ∧
      (∀ y, y < stripeAddr l.stripe ∨ stripeAddr l.stripe + pt.length ≤ y → t.rb y = s.rb y) ∧
      t.clasp.flying = s.clasp.flying ++ (if bdKind l.head = 1 then [] else [⟨Config.landingClasp (bdId l.head) (bdRound l.head) % 65536, 1, false, 0x1FF⟩]) ∧
      t.rf (F.CHAIN_CNT_COUNT l.port 2) = satAdd 32 (s.rf (F.CHAIN_CNT_COUNT l.port 2)) 1) ∧
    (s.openBead l.head (s.rbs (stripeAddr l.stripe) (bdLen l.head)) l.tag = none → bdKind l.head ≠ 1 → bdResent l.head = false →
      s.chain.asked.contains (bdOrigin l.head, bdRound l.head, bdSeq l.head, bdId l.head) = false → ∃ t : State, exec (.beadTagCheckDone i) s = .next t ∧
        t.chain.landings = s.chain.landings.erase l ∧ t.chain.asked = (bdOrigin l.head, bdRound l.head, bdSeq l.head, bdId l.head) :: s.chain.asked ∧
        t.rf (F.CHAIN_ERR_BAD_TAG l.port) = 1 ∧ t.rf (F.CHAIN_CNT_COUNT l.port 7) = satAdd 32 (s.rf (F.CHAIN_CNT_COUNT l.port 7)) 1 ∧
        ∃ y : TxUnit, (t.link l.port).ready = (s.link l.port).ready ++ [(0, y)] ∧ msgType y.data = 3) ∧
    (s.openBead l.head (s.rbs (stripeAddr l.stripe) (bdLen l.head)) l.tag = none → bdKind l.head = 1 → s.rf F.FRONT_STATUS_STEP ≠ stepHalted →
      ∃ t : State, exec (.beadTagCheckDone i) s = .next t ∧ t.rf F.GRAD_ERR_BAD_TAG = 1 ∧ t.rf F.FRONT_STATUS_STEP = stepAborted)) ∧
  (∀ (i : Nat) (s : State), s.chain.landings.length ≤ i → exec (.beadTagCheckDone i) s = .next s) ∧
  (∀ (p bead round : Nat) (x : Task) (target : Nat) (acq vary : Bool) (s : State), p < 2 → s.rf (F.CHAIN_LATE_TICKS_TICKS p) ≠ 0 → x ∈ s.front.tasks → x.phase = .waiting →
    x.wait = .clasp (Config.landingClasp bead round % 65536) target acq vary →
    (∀ l ∈ s.chain.landings, bdKind l.head = 0 → bdId l.head = bead → bdRound l.head ≠ round) → s.chain.late.contains (bead, round) = false →
    exec (.beadLate p bead round) s = .next { s with chain := { s.chain with late := s.chain.late ++ [(bead, round)] } }) ∧
  (∀ (p bead round : Nat) (s : State), s.rf (F.CHAIN_LATE_TICKS_TICKS p) = 0 ∨ s.front.tasks = [] → exec (.beadLate p bead round) s = .next s)

/-- Requests between members and joining (R30, R40, R41, R49, R50): a request for another member goes on; a resend and a Cameo fetch are served from what is stored; a
module that is OUT negotiates once its ports have settled, and takes the version its arc shares, waiting where the arc runs; one without a shared version stays out, and a
miswired position stays folded out. CNT[8] counts on the port that the Bead leaves by, which is the model's choice (log 40). A command whose event cannot occur leaves the
state as it is: the model's choice, log 6. -/
def Obligations.MembersServeAndJoin : Prop :=
  (∀ (p : Nat) (m : List Byte) (s : State), p < 4 → s.msgRefused p m = false → msgDst m ≠ s.rf F.SETUP_IDENT_MODULE_ID →
    exec (.resendReq p m) s = .next ((s.received p m).forwardDst p m) ∧ exec (.cameoFetch p m) s = .next ((s.received p m).forwardDst p m)) ∧
  (∀ (p x : Nat) (m : List Byte) (h : Shard) (s w : State), p < 4 → s.msgRefused p m = false → msgDst m = s.rf F.SETUP_IDENT_MODULE_ID → leAt m 0x18 1 = 0 →
    s.shards.find? (fun h => h.beads.any (fun e => e.id == leAt m 0x10 4)) = some h →
    let k := h.beads.findIdx (fun e => e.id == leAt m 0x10 4)
    let d := match h.beads[k]? with | some e => b2n e.west | none => 0
    let u := bdRoute (s.storedBead (s.workAt h k)) (s.rf F.CHAIN_STEP_STEP) (leAt m 0x14 2) (leAt m 0x16 2) (3 * d + 4) 0 s.pos (leAt m 0x1A 1 % 32)
    let q := (s.exitPort (bdInjected u)).1
    s.request 7 (beadStripes (bdLen (s.outward u))) (injectOwner u) = (.granted x, w) → q < 2 → ∃ (t : State) (y : Nat × TxUnit), exec (.resendReq p m) s = .next t ∧
      t.rf (F.CHAIN_CNT_COUNT q 8) = satAdd 32 (s.rf (F.CHAIN_CNT_COUNT q 8)) 1 ∧ (t.link q).ready = (s.link q).ready ++ [y] ∧ y.2.data = s.outward u ∧
      bdTarget y.2.data = leAt m 0x1A 1 % 32 ∧ bdResent y.2.data = true ∧ (∀ a, a < stripeAddr x → t.rb a = s.rb a)) ∧
  (∀ (p home k : Nat) (e : BeadEntry) (m : List Byte) (s : State), p < 4 → s.msgRefused p m = false → msgDst m = s.rf F.SETUP_IDENT_MODULE_ID →
    s.findBead (leAt m 0x10 4) = some (home, k, e) →
    let h : Shard := ⟨home, s.cameoPart (s.rf F.HEALTH_CAMEO_STATUS_IMAGE_SLOT) 0, 0, s.entries home⟩
    let v := s.received p m
    (s.flag F.HEALTH_CAMEO_STATUS_HELD_VALID = false → exec (.cameoFetch p m) s = .next v) ∧
    (s.flag F.HEALTH_CAMEO_STATUS_HELD_VALID = true →
      exec (.cameoFetch p m) s = .next (v.sendChunk true 1 (msgSrc m % 32) 0 k ((s.workAt h k - h.work) / 512) (s.chunkAt (s.workAt h k))))) ∧
  (∀ (target part k off x : Nat) (data u : List Byte) (s w : State), part < 2 →
    let fixed := bdHead (s.rf F.CHAIN_BEAD_VER_ACTIVE) 0 4 (3 * 2 ^ 30 + part * 2 ^ 27 + k) 0 0 off (pad512 data).length s.pos (s.rf F.CHAIN_ARC_ARC_ID) s.locket.encSlot 0
      (s.rf F.CHAIN_STEP_STEP) (s.rf F.SETUP_IDENT_MODULE_ID) 0xFFFD 0
    s.sealBead fixed (pad512 data) = some u → s.portTo target < 4 →
    let p := s.portTo target
    let b := bdRoute u (s.rf F.CHAIN_STEP_STEP) 0xFFFF 0 (3 * (1 - p) + 4) 0 s.pos target
    s.request 15 (beadStripes (bdLen b)) (cameoOwner b) = (.granted x, w) →
    ∃ y : Nat × TxUnit, ((s.sendChunk true 1 target part k off data).link p).ready = (s.link p).ready ++ [y] ∧ y.2.data = b) ∧
  (∀ (l : List (Nat × Nat × Nat)) (running : Bool) (s : State), s.rf F.SETUP_STATE_STATE = 10 → s.arcPositions.contains s.pos = true →
    let all := (s.pos, s.beadLow, s.beadHigh) :: l.filter (fun e => s.arcPositions.contains e.1 && e.1 != s.pos)
    let n := negotiate (s.rf F.CHAIN_ARC_FIRST) (s.rf F.CHAIN_BEAD_VER_PIN) (all.length + 1) all
    (s.rf F.CHAIN_MEMBER_STATE = memOut → (∀ p < 2, s.lk p ≠ lkTrain ∧ s.lk p ≠ lkAlign ∧ s.lk p ≠ lkExchange) →
      ∃ t : State, exec (.joinNegotiate l running) s = .next t ∧ t.rf F.CHAIN_MEMBER_STATE = memNegotiating ∧ t.mem = s.mem) ∧
    (s.rf F.CHAIN_MEMBER_STATE = memNegotiating → ∀ v ms, n = (some v, ms) → ms.contains s.pos = true →
      ∃ t : State, exec (.joinNegotiate l running) s = .next t ∧ t.rf F.CHAIN_BEAD_VER_ACTIVE = v % 65536 ∧
        (∀ q, t.chain.out.contains q = true ↔ s.arcPositions.contains q = true ∧
          (ms.contains q = false ∨ (s.chain.out.contains q = true ∧ ∃ p, p < 2 ∧ s.faces p = q ∧ s.lk p ≠ lkUp))) ∧
        (running = true → t.rf F.CHAIN_MEMBER_STATE = memJoinWait) ∧ (running = false → s.keyed = true → t.pieces.length ≤ 1 → t.rf F.CHAIN_MEMBER_STATE = memMember)) ∧
    (s.rf F.CHAIN_MEMBER_STATE = memNegotiating → n.1 = none ∨ n.2.contains s.pos = false → ∃ t : State, exec (.joinNegotiate l running) s = .next t ∧
      t.rf F.CHAIN_MEMBER_STATE = memOut ∧ t.rf (F.CHAIN_ERR_VER_MISMATCH 0) = 1 ∧ t.rf (F.CHAIN_ERR_VER_MISMATCH 1) = 1) ∧
    (s.rf F.CHAIN_MEMBER_STATE ≠ memOut → s.rf F.CHAIN_MEMBER_STATE ≠ memNegotiating → exec (.joinNegotiate l running) s = .next s)) ∧
  (∀ (l : List (Nat × Nat × Nat)) (running : Bool) (s : State), s.rf F.SETUP_STATE_STATE ≠ 10 → exec (.joinNegotiate l running) s = .next s)

/-- The step boundary (R23, R24, R194, R226, R295, R304): it begins when the boundary Clasp is met and waits until all is drained; then everything dynamic is freed but
restore traffic, generations and arrivals are 0, Clasps of step scope are 0, and the step is applied; item 11 counts the step up, clears the verdicts and runs the next. A
stall budget that runs out aborts the step, and an aborted step halts under its own number. That KIND 4 landings stay is the model's reading of R24 (log 63). A command
whose event has not come leaves the state as it is: the model's choice, log 6. -/
def Obligations.BoundaryEndsTheStep : Prop :=
  (∀ s : State, (s.rf F.FRONT_STATUS_STEP = stepRun → s.boundaryMet = true → ∃ t : State, exec .boundaryBegin s = .next t ∧ t.rf F.FRONT_STATUS_STEP = stepDrain ∧
      t.mem = s.mem ∧ t.chain = s.chain) ∧
    (s.rf F.FRONT_STATUS_STEP ≠ stepRun ∨ s.boundaryMet = false → exec .boundaryBegin s = .next s)) ∧
  (∀ (j : List (Nat × Nat × Nat)) (l : List Nat) (c : Bool) (s : State),
    (s.rf F.FRONT_STATUS_STEP = stepDrain → s.drained = true → ∃ t : State, exec (.boundaryDrained j l c) s = .next t ∧
      t.rf F.FRONT_STATUS_STEP = stepApply ∧ (∀ g ∈ t.casket.grants, g.owner.kind = .cameo) ∧ (∀ r ∈ t.casket.waiting, r.owner.kind = .cameo) ∧
      (∀ x ∈ t.chain.landings, bdKind x.head = 4) ∧ t.pipe.outbox = [] ∧ (∀ k, k < 1024 → t.slotState k = slFree) ∧
      (∀ n h, n < 384 → h < 64 → t.rf (F.HANDLE_D_GEN n h) = 0 ∧ t.rf (F.HANDLE_ARR_ARR n h) = 0)) ∧
    (s.rf F.FRONT_STATUS_STEP ≠ stepDrain ∨ s.drained = false → exec (.boundaryDrained j l c) s = .next s)) ∧
  (∀ (n : Nat) (s : State), n < 65536 → SMap.wf regReset s.regs = true →
    s.item5.claspValue n = (if s.flag (F.CLASP_FLAG_RESIDENT n) then s.claspValue n else 0) ∧
    s.item5.claspFlagged n = (s.flag (F.CLASP_FLAG_RESIDENT n) && s.claspFlagged n)) ∧
  (∀ s : State, s.rf F.FRONT_STATUS_STEP = stepApply →
    ∃ t : State, exec .boundaryApplied s = .next t ∧ t.rf F.FRONT_STATUS_STEP = stepRun ∧ t.rf F.CHAIN_STEP_STEP = (s.rf F.CHAIN_STEP_STEP + 1) % 2 ^ 32 ∧
      t.front.armed = none ∧ t.rf F.FRONT_STATUS_ARMED = 0 ∧ t.chain.round = 0 ∧ t.chain.waiting = [] ∧ t.chain.noticeSent = false ∧
      ((∀ f ∈ s.clasp.future, f.1 ≠ (s.rf F.CHAIN_STEP_STEP + 1) % 2 ^ 32) →
        t.rf F.FMT_VERDICT_NF_SPAN = 0 ∧ t.rf F.FMT_VERDICT_SKIP = 0 ∧ t.rf F.FMT_VERDICT_CLOSED = 0 ∧ t.rf F.HEALTH_VERDICT_HOLD = 0 ∧ t.rf F.HEALTH_VERDICT_SPIKE = 0 ∧
        t.rf F.LOUPE_VAR_LAST_COUNT = s.rf F.LOUPE_VAR_STEP_COUNT ∧ t.rf F.LOUPE_VAR_STEP_COUNT = 0 ∧ t.rf F.PIPE_SLOT_USE_PEAK = 0 ∧
        t.grad = { State.reset.grad with lateAll := s.grad.lateAll, droppedAll := s.grad.droppedAll } ∧ t.clasp.spans = [])) ∧
  (∀ s : State, s.rf F.FRONT_STATUS_STEP ≠ stepApply → exec .boundaryApplied s = .next s) ∧
  (∀ s : State, (s.rf F.FRONT_STATUS_STEP = stepDrain → ∃ t : State, exec .boundaryStallAbort s = .next t ∧ t.rf F.FRONT_STATUS_STEP = stepAborted ∧ t.front.enqueued = [] ∧
      t.front.tasks = [] ∧ t.front.undispatched = [] ∧ t.mem = s.mem) ∧
    (s.rf F.FRONT_STATUS_STEP ≠ stepDrain → exec .boundaryStallAbort s = .next s)) ∧
  (∀ s : State, (s.rf F.FRONT_STATUS_STEP = stepAborted → s.migration = none → ∃ t : State, exec .abortedReleaseDone s = .next t ∧
      t.rf F.FRONT_STATUS_STEP = stepHalted ∧ t.rf F.CHAIN_STEP_STEP = s.rf F.CHAIN_STEP_STEP ∧
      ((∀ c ∈ s.cores, c.1 < 384) → t.rf F.CHARM_ATTEMPT_COUNT = satAdd 32 (s.rf F.CHARM_ATTEMPT_COUNT) 1) ∧
      t.front.armed = none ∧ (∀ x ∈ t.chain.landings, bdKind x.head = 4) ∧ t.chain.round = 0 ∧ t.chain.waiting = [] ∧ t.pipe.outbox = []) ∧
    (s.rf F.FRONT_STATUS_STEP ≠ stepAborted ∨ s.migration.isSome = true → exec .abortedReleaseDone s = .next s))

/-- R342: an input current above the limit takes the pace to 1.2 G ticks/s at once, whatever FLOOR is, with STATUS.EMERGENCY and ERR.EMERGENCY set, CNT[3] counted and
POWER_EMERGENCY recorded, and the throttle loop rests; its end clears EMERGENCY, and the loop goes on from the pace that stands. -/
def Obligations.EmergencyTakesPaceDown : Prop :=
  (∀ s : State, ∃ u : State, exec .powerEmergency s = .next (u.event 0x0E04 srcLocket 0 0 0 0) ∧ u.rf F.POWER_PACE_NOW_P = 0x6000 ∧ u.rf F.POWER_STATUS_EMERGENCY = 1 ∧
    u.rf F.POWER_ERR_EMERGENCY = 1 ∧ u.rf (F.POWER_CNT_COUNT 3) = satAdd 32 (s.rf (F.POWER_CNT_COUNT 3)) 1 ∧ u.ev = s.ev ∧
    (u.event 0x0E04 srcLocket 0 0 0 0).rf F.POWER_PACE_NOW_P = 0x6000) ∧
  (∀ s : State, s.flag F.POWER_STATUS_EMERGENCY = true → exec .throttleTick s = .next s) ∧
  (∀ s : State, ∃ t : State, exec .emergencyClear s = .next t ∧ t.rf F.POWER_STATUS_EMERGENCY = 0 ∧ t.rf F.POWER_PACE_NOW_P = s.rf F.POWER_PACE_NOW_P ∧
    OnlyRegs [F.POWER_STATUS_EMERGENCY.off] s t ∧
    (t.powerLimit < t.rf F.POWER_PIN_WATTS → t.rf F.POWER_CFG_FLOOR < t.rf F.POWER_PACE_NOW_P → ∃ v : State, exec .throttleTick t = .next v ∧
      v.rf F.POWER_PACE_NOW_P = max (t.rf F.POWER_CFG_FLOOR) (t.rf F.POWER_PACE_NOW_P - 1024)))

/-- R315: with DEBUG_EN set a force sets the value of the Clasp that FORCE_NUM names and clears its flags, records CLASP_FORCE with the old and the new value, traces the
write as a Clasp signal from outside and counts one variance of the module; with DEBUG_EN clear it is ignored and sets ERR.FORCE_OFF. -/
def Obligations.ForceSetsAClasp : Prop :=
  ∀ (v : Word) (s : State),
    let n := s.rf F.CLASP_FORCE_NUM_NUM
    (s.flag F.CLASP_CTRL_DEBUG_EN = true → ∃ u w : State, exec (.claspForce v) s = .next (u.claspSettle n) ∧
      w.claspValue n = v.toNat ∧ w.claspFlagged n = false ∧ w.rf (F.CLASP_CNT_COUNT 7) = satAdd 32 (s.rf (F.CLASP_CNT_COUNT 7)) 1 ∧
      OnlyRegs [(F.CLASP_VALUE_VALUE n).off, (F.CLASP_FLAG_OVF n).off, (F.CLASP_CNT_COUNT 7).off] s w ∧
      u = ((w.event 0x0C03 srcHub (s.claspValue n) v.toNat 0 0).trace 0x06 0xFE 0x300 (n + 2 ^ 32 * v.toNat) 0 0).variance 0x06 0x1FF n ∧
      u.claspValue n = v.toNat ∧ u.claspFlagged n = false ∧ u.rf F.LOUPE_VAR_STEP_COUNT = satAdd 32 (s.rf F.LOUPE_VAR_STEP_COUNT) 1) ∧
    (s.flag F.CLASP_CTRL_DEBUG_EN = false → ∃ t : State, exec (.claspForce v) s = .next t ∧ t.rf F.CLASP_ERR_FORCE_OFF = 1 ∧ RegsAndRecords [F.CLASP_ERR_FORCE_OFF.off] s t)

/-- R89: an INT4 code is a 4-bit two's complement integer, −8 among them; no encoder gives −8. -/
def Obligations.IntCodesAreTwosComplement : Prop :=
  (∀ rec0 j : Nat, ∀ c < 16, codeValue 0x0A c rec0 j 0 = Machine.Num.ofInt (if c < 8 then (c : Int) else (c : Int) - 16) 0) ∧
  (∀ (sat : Bool) (r : Rnd) (x : Machine.Num), (convert 0x0A sat r x).1 < 16 ∧ (convert 0x0A sat r x).1 ≠ 8)

/-- R88: under an E8M0 scale c below 255 an element of a block is its own value times 2^(c − 127); under 0xFF it is NaN. The Q3 scale record begins with its E8M0 scale.
-/
def Obligations.ScalesArePowersOfTwo : Prop :=
  (∀ (f c code j : Nat) (fp : Fp), elemFp f = some fp → blockLen f ≠ 0 → c < 255 → codeValue f code c j 0 = (fp.decode code).scale ((c : Int) - 127)) ∧
  (∀ (c code sub j : Nat), c < 255 → code < 8 → codeValue 0x0B code (c + 256 * sub) j 0 =
    Machine.Num.ofInt ((if code < 4 then (code : Int) else (code : Int) - 8) * (16 + bits (c + 256 * sub) (8 + 4 * (j / 8)) 4)) ((c : Int) - 127 - 4)) ∧
  (∀ (f code j : Nat) (fp : Fp), elemFp f = some fp → blockLen f ≠ 0 → codeValue f code 255 j 0 = .nan) ∧
  (∀ code sub j : Nat, codeValue 0x0B code (255 + 256 * sub) j 0 = .nan)
end

