-- ==== Sys2Proof/Tests/Slice0.lean ====
section
/-! SUPPORT. The author's tests: what WellFormed refuses, and a witness for the hypotheses of each statement. -/


namespace Sys2Proof.Tests

set_option Elab.async false

open Sys2Proof Sys2Proof.Machine Sys2Proof.Laws

/-- The state after reset with some fields written. -/
def mk (l : List (Fld × Nat)) : State := l.foldl (fun (s : State) e => s.wf e.1 e.2) State.reset

/-- A state with bytes stored at an address. -/
def put (s : State) (a : Nat) (d : List Nat) : State := s.store a (d.map (fun x => BitVec.ofNat 8 x))


/-- A number of the given fields: offset in bytes, value. -/
def flds (l : List (Nat × Nat)) : Nat := (l.map (fun e => e.2 * 2 ^ (8 * e.1))).sum

/-- A descriptor of the given fields. -/
def desc (l : List (Nat × Nat)) : BitVec 256 := BitVec.ofNat 256 (flds l)

/-- k bytes that hold the given fields. -/
def msg (k : Nat) (l : List (Nat × Nat)) : List Byte := natLe (flds l) k

/-- A task that runs on logical core 0. -/
def task0 : Task := ⟨5, 1, 0, 0, 0, false, 0, 4, 0, 0, .run, .none, 2, 0, 0, [], 0⟩

/-- Logical core 0 on physical core 0, with a task that runs, and some fields written. -/
def core0 (l : List (Fld × Nat)) : State :=
  let s := mk ([(F.CORE_ID_ENABLED 0, 1), (F.CORE_ID_LOGICAL 0, 0)] ++ l)
  { s with front := { s.front with tasks := [task0] } }

/-- Handle h of physical core 0: valid, its base word and its words less 1. -/
def hnd (h base len : Nat) : List (Fld × Nat) := [(F.HANDLE_A_VALID 0 h, 1), (F.HANDLE_A_BASE 0 h, base), (F.HANDLE_B_LEN_M1 0 h, len)]
/-! ### What WellFormed refuses, and a few of the manual's worked examples -/

/-- An ill-formed command for each check of WellFormed, in the order of its file. -/
def illFormed : List Instr :=
  [.beadRx 2 [], .pipeChunkRx 1 [], .linkDown 4, .taskStart 320, .coreRetire 384, .bankGatePend 0 64, .casketBankRetention 1024 0, .qWrite 2048 0 false false, .qRestart 8, .allocRequest 32 1 ⟨.agent, 0⟩,
   .slotResumeDone 1024, .codecCommit 2, .codecTableWrite 0 34 0, .watchArm 32, .claspFlagClear 65536 0, .msixUnmask 64, .loupeModeWrite 4, .laneFail 0 32, .foldNotice 0 (List.replicate 15 0), .regWrite 0x04000000 0 false,
   .regWrite 2 0 false, .i3cEntdaa 128, .tempSample 20 0, .testCmd 32 0, .testCmd 0 4, .lpddrSelfRefresh 128 0 0, .lpddrSelfRefresh 0 2 0, .tokenRefill 65536, .flitData 0 0 (List.replicate 4097 0) 0]
theorem test_ill_formed_refused : (illFormed.all (fun c => !c.wf)) = true := by decide +kernel
theorem test_well_formed_accepted : ([.beadRx 1 [], .pipeChunkRx 3 [], .taskStart 319, .coreRetire 383, .bankGatePend 383 63, .regWrite 0x03FFFFFC 0 false, .foldNotice 0 (List.replicate 16 0), .boundaryBegin] : List Instr).all (fun c => c.wf) = true := by decide +kernel
theorem test_no_word_spells_a_command : decodeTableWord 32 0 = none ∧ (State.reset.withFetchWord 32 0) = State.reset := ⟨rfl, rfl⟩
theorem test_idle_step : step State.reset = .next State.reset := rfl
/-- R105, the two test vectors. -/
theorem test_glint_vectors : glint 0 0 0 0 0 0 = 0x1AA8_1F5F ∧ glint 1 0 0 0 0 0 = 0x3167_091F := by decide +kernel
/-- Chapter 4, "one value to E4M3 both ways": 37/128 to nearest and stochastically. -/
theorem test_e4m3_both_ways : (convert 3 true .nearest (Machine.Num.ofInt 37 (-7))).1 = 0x29 ∧ (convert 3 true (.stochastic 0x1AA81F) (Machine.Num.ofInt 37 (-7))).1 = 0x2A := by decide +kernel
/-- Chapter 4: the digits 2, 1, 0, 0, 2 pack to 0xA7. -/
theorem test_t2_packs : packT2 1 [2, 1, 0, 0, 2] = [0xA7] := by decide +kernel

/-! ### Witnesses -/

theorem witness_StepRunsFrontCommand : ({ State.reset with pending := [.chainCntClr 0, .flush] } : State).pending = .chainCntClr 0 :: [.flush] := rfl
theorem witness_StepLeavesTheRestOfTheQueue_idle : State.reset.pending = [] := rfl
theorem witness_StepLeavesTheRestOfTheQueue_step : ∃ t, step { State.reset with pending := [.chainCntClr 0, .flush] } = .next t := ⟨_, rfl⟩
theorem witness_StepKeepsCanonicalForm : SMap.wf regReset State.reset.regs = true ∧ SMap.wf pairReset State.reset.pairs = true ∧ Memory.wf State.reset.mem = true ∧
    SMap.wf poisonReset State.reset.poison = true ∧ SMap.wf flashErased State.reset.flash = true ∧ ∃ t, step State.reset = .next t :=
  ⟨by decide, by decide, by decide, by decide, by decide, _, rfl⟩

/-- Every die with supply, the module ready. -/
def ready (l : List (Fld × Nat)) : State :=
  { mk ([(F.SETUP_STATE_STATE, 10), (F.HOSTIF_STATUS_MODULE_READY, 1)] ++ l) with power := { State.reset.power with dies := List.range 20 } }

theorem witness_LoupeMode : (mk [(F.LOUPE_REGION_SIZE_GIB, 1)]).rf F.LOUPE_REGION_SIZE_GIB ≠ 0 := by decide +kernel
theorem witness_LoupeMode_noRegion : State.reset.rf F.LOUPE_REGION_SIZE_GIB = 0 := by decide +kernel

theorem witness_RegisterWrite : (rowOf 0xE00008).isSome = true ∧ State.reset.writeGoes 0xE00008 true = true := by decide +kernel
theorem witness_RegisterWrite_reserved : rowOf 0x1000FC = none ∧ State.reset.writeGoes 0x1000FC true = true := by decide +kernel
theorem witness_RegisterWrite_early : State.reset.writeGoes 0x2000000 true = false ∧ State.reset.dieUp 0x2000000 = false ∧ State.reset.pcie.d3hot = false ∧
    State.reset.power.failing = false := by decide +kernel


theorem witness_PairLoRead : isPairLo 0x801028 = true ∧ State.reset.power.failing = false := by decide +kernel
theorem witness_PairHiRead : isPairLo 0x801028 = true ∧ isPairLo 0x80102C = false ∧ State.reset.shadows = [] := by decide +kernel
theorem witness_PairHiWrite : isPairLo 0x100018 = true ∧ ((rowOf 0x10001C).elim false (fun r => r.fields.any (fun f => f.acc == .rw))) = true ∧ State.reset.writeGoes 0x10001C true = true := by decide +kernel

def readyS : State := put (ready [(F.HOSTIF_CNT_COUNT 0, 4294967295), (F.LOUPE_REGION_SIZE_GIB, 1), (F.LOUPE_STATUS_ACTIVE, 1)]) 0x1000 [1, 2, 3]
theorem witness_HostWindow (read : Bool) : readyS.HostReady read (readyS.windowAt 0x1000) 0x1000 4 :=
  ⟨by decide +kernel, by decide +kernel, by decide +kernel, by decide, by decide +kernel,
    fun c o h => absurd h (by rw [show readyS.coreAt 0x1000 = none by decide +kernel]; simp), .inr (.inl (by decide +kernel))⟩
theorem witness_HostWindow_d3hot : readyS.pcie.d3hot = false ∧ readyS.poisonedAt 0x1000 4 = false ∧
    ({ readyS with pcie := { readyS.pcie with d3hot := true } } : State).pcie.d3hot = true := by decide +kernel
theorem witness_HostWindow_nothing : readyS.hostPlace (readyS.windowAt 0x020E00000000) = .unmapped := by decide +kernel

theorem witness_DrvVersion : State.reset.rf F.HOSTIF_VERSION_MIN ≤ bits (0x0100#32).toNat 0 16 ∧ bits (0x0100#32).toNat 0 16 ≤ State.reset.rf F.HOSTIF_VERSION_MAX ∧
    State.reset.pcie.waiting = [] := by decide +kernel

def gateOpen (l : List (Fld × Nat)) : State :=
  { mk ([(F.HOSTIF_CTRL_DMA_EN, 1), (F.HOSTIF_STATUS_NEGOTIATED, 1), (F.HOSTIF_STATUS_DMA_GATED, 0)] ++ l) with pcie := { State.reset.pcie with busMaster := true } }
theorem witness_MsixUnmask : (gateOpen [(pbaField 63, 1)]).gated = false ∧ (gateOpen [(pbaField 63, 1)]).pcie.funcMask = false ∧ (gateOpen [(pbaField 63, 1)]).flag (pbaField 63) = true := by decide +kernel
theorem witness_DmaReadDone : (7 : Nat) < 8 ∧ Cpl.ur ≠ .ok := by decide
theorem witness_I3c : ({ State.reset with pcie := { State.reset.pcie with configReady := true } } : State).locket.i3cAddr = none ∧
    ({ State.reset with pcie := { State.reset.pcie with configReady := true } } : State).pcie.configReady = true := by decide +kernel

/-- SPDM negotiated as far as ALGORITHMS on DOE, the transport in service. -/
def spdm (ph : Nat) : State := 
  let s : State := { State.reset with pcie := { State.reset.pcie with configReady := true } }
  s.setConn .doe { s.conn .doe with phase := ph }
def rq (v code p1 p2 n : Nat) : List Byte := natLe v 1 ++ natLe code 1 ++ natLe p1 1 ++ natLe p2 1 ++ natLe 0 (n - 4)
theorem witness_Responder : (spdm 3).reaches .doe = true ∧ 3 ≤ ((spdm 3).conn .doe).phase ∧ leAt (rq 0x12 0x83 0 0 36) 1 1 = 0x83 ∧ leAt (rq 0x12 0x83 0 0 36) 0 1 = 0x12 ∧
    leAt (rq 0x12 0x83 0 0 36) 2 1 = 0 ∧ (rq 0x12 0x83 0 0 36).length = 36 := by decide +kernel
theorem witness_Responder_measurement : ((spdm 3).measurement 1).isSome = true ∧ bit (leAt (rq 0x12 0xE0 0 1 4) 2 1) 0 = false ∧ leAt (rq 0x12 0xE0 0 1 4) 3 1 = 1 := by decide +kernel

def ev0 (code n : Nat) : EvRec := ⟨BitVec.ofNat 16 code, 0, BitVec.ofNat 32 n, 0, 0, 0, 0, 0⟩
def evs (b : List EvRec) (fl : Nat) (l : List (Fld × Nat)) : State := let s := mk l; { s with ev := { s.ev with buf := b, flushN := fl } }
theorem witness_EventFlushDone : (evs [ev0 5 1, ev0 6 2] 1 [(F.EVENT_STATUS_FLUSHING, 1)]).flag F.EVENT_STATUS_FLUSHING = true ∧
    (evs [ev0 5 1, ev0 6 2] 1 [(F.EVENT_STATUS_FLUSHING, 1)]).ev.clear = none ∧ (evs [ev0 5 1, ev0 6 2] 1 [(F.EVENT_STATUS_FLUSHING, 1)]).ev.lost = 0 := by decide +kernel

theorem witness_EventRecorded : privileged 0x0B04 = false ∧ 2 < 0x0B04 ∧ 0 < SMap.get bucketCap (evs [] 0 [(F.EVENT_SEQ_SEQ, 0xFFFFFFFF)]).ev.tokens 0x0B04 ∧ (evs [] 0 []).ev.plain < 960 ∧ (evs [] 0 []).ev.buf.length < 1024 := by decide +kernel
def noTok : State := { State.reset with ev := { State.reset.ev with tokens := [(0x0106, 0)] } }
theorem witness_EventSuppressed : privileged 0x0106 = false ∧ 2 < 0x0106 ∧ SMap.get bucketCap noTok.ev.tokens 0x0106 = 0 := by decide +kernel

theorem witness_LifeSnapshot : State.reset.lifeX.writing = none := by decide +kernel
def snapW (k : Nat) : State := { mk [(F.LIFE_STATUS_WRITING, 1)] with lifeX := { State.reset.lifeX with writing := some [(0, 5)], nextSlot := k } }
theorem witness_LifeSnapshotDone : (snapW 239).lifeX.writing = some [(0, 5)] ∧ (snapW 239).lifeX.nextSlot < 240 := by decide +kernel

def hot (l : List (Fld × Nat)) : State := mk ([(F.POWER_BUDGET_WATTS, 1000), (F.POWER_PIN_WATTS, 20000), (F.POWER_CFG_FLOOR, 0x6000), (F.POWER_PACE_NOW_P, 0x6200), (F.POWER_PACE_TARGET, 0x8000)] ++ l)
theorem witness_ThrottleTick : (hot []).flag F.POWER_STATUS_EMERGENCY = false ∧ (hot []).powerLimit < (hot []).rf F.POWER_PIN_WATTS ∧ (hot []).rf F.POWER_CFG_FLOOR < (hot []).rf F.POWER_PACE_NOW_P := by decide +kernel
theorem witness_TempSample : (mk [(F.POWER_TLIM_WARN, 90), (F.POWER_TLIM_LIMIT, 100)]).rf F.POWER_TLIM_WARN ≤ 255 := by decide +kernel
theorem witness_Coolant : coolOk 41 40 = false ∧ coolOk 40 40 = true := by decide
def tripS : State := put { ready [(F.POWER_TLIM_TRIP, 105), (F.POWER_TEMP_NOW 3, 105)] with ev := { State.reset.ev with buf := [ev0 5 1] } } 0x1000 [1, 2]
theorem witness_ThermalTrip : tripS.rf F.POWER_TLIM_TRIP ≤ tripS.hottest ∧ tripS.rf F.SETUP_STATE_STATE ≠ 13 := by decide +kernel

/-- The words of bytes as a write-only buffer keeps them. -/
def bufOf (x : Nat) (l : List Byte) : List (Nat × Word) :=
  ((List.range (l.length / 4)).map (fun i => (x + 4 * i, BitVec.ofNat 32 (leAt l (4 * i) 4)))).filter (fun e => e.2 != 0)

/-- A 3,072-bit prime, so that an exponent inverse to 65,537 is known of it; signatures made with it, of a clear token and of an amendment, and a ciphertext under exponent 1. -/
def testModulus : Nat := 0xfc32722170eb4badd583a5614bb96e33b479cdcf0ece10883b2efafa4b02fb73af7d060569af923530fdb1e80f3a249ebc68756adf2c812a895a750b1b76c8ca03d2fb9353f6e6ad51dfb50d87057e5afc1fd52630be2f0e75eae73e1aef5939511e3ebc53623bfb46c6cbb2265b882999131dfa7e54826899aa2721350b84e3aa6fade94aade2ff4ea37ecd608d3d8b44f2a990cb5d02576d827466034f1c397597d273575e7ce3d92d438e4f25af0d1489df44a5f798c21a2d9f12b276864c7db375978ed179ddf09021e24912e693872932a731248646bd908a9fdf49124e2ecbd9863a734ba774cd7e1214c84efae8726502014833afd9ccfcf865a1d68417025d1784259afbb83f583f5a5519ae514432e4c14a987088de314bd4d57ecc9831201e714c59967579c65f04fdb64f20577331e1cc71420bf43ad479342ad6fc90536aa4ca1c7bafdec60132a07749b5b6366c288f51be80162690be2c08db8712fc8569d1cc0ed33fe8c85e4d7656a40466132d33d8c5b34ab33b85e0d6f9
def clearSig : Nat := 0x997d6f9cbb965da21130318844302ded35321529dcf85cb6b1bd9b8e8241f01e2a3eb660abeee071fc25dd9088673dc1e7d2f00c0c13920a96da008e115368a5c78f1fcff0ca48b2004e5c1eab4de97e91c34231fed91c878a4f51a76f48288199ec125e92104f65bcaa29aeea1eea6d32092689c77066d57588c95f63ee34625b84ded7a55f7ad4234721bd805263c375bde2541dd62320103d7e75ee60e02882e509c60d6164573c55704ba6ddea43a432dbb64e03c114212b49323fec846eb9ad2ec572d2e8b7e524157c8832801a33c341cfb3298b3e310ae9f5fb013b97a9d64ddbf020b03a1a2cb7de0374b311781af125ee60550f3ac2ff17f661044839c3c12ba70d30be4afb4107224cee01c043d3b8e9a85c974a58298c636cfd5e2d0cd9ee2db954d086b069771108032139d39e30e03e32abc750e103d78c31c56511cdd64bb9de01058895e3d0051f147caacf4e7640c0a5a37f164abe527a65d1f65bfb75425d356d8f7b42476e993e578a0611863fc8a0d7b7614da3c50c84
def amendSig : Nat := 0x84d5e2139c0f2a7005d6e6acb8a9400d242d7e09672f1eb52d2c31458526562178843392eeda2830df3cf36b34fe8a8f0a1c358bfce5899a3c0c34924e4e3c92d7dcba30d8ee2a2936771b69bed64dc86a9b6a974d685105c3ae4bccfb14a6cc5e4107cc16a5e6ea57fa96d5042f7b089a349095f4909168345e60dfb56576c074e2633aea4ab4174d5715fdf0a4fb478a6812a4fb1a9c3abe3c27b5b309fcdc7a86582842f57904ca799ef6a6c5ddaf9567f6ce3e09760c0755c4642690886b602f23b5926aa1726a3deab9c6accc4da1b3c49a503c146ad3c35806e41aeaf676fefb4371eee42c114652a512f9e2862cb6e34d1ea0f03d1404904df0b30d43e3387041ce138ee0ff1f0131f2b591a27a89614f5af53f063e9f1fa599df5dffff2318ac8a1eb2f26e8bc4f00606c8c0ce4b6db3e53c4d50fdab9da72e8aa1b561a7507169476ee5e57582012427c7f34214b96bbe7c6f77fb5d0a90311041f47a809c4ec991eb0e07b0af6c24bf27892849726c5501e0581426c0965b1b5212
def wrapped : Nat := 0x53fb4f3bdc8017a07b7b1c72429a45f677bf3642a822798c24080bef0d9b308db9ef43633399baf53c50bff6d1e473c0d332603375b01d4d47afba3d0bc3f4492158a8906d5e2c2be001bac943ab9cab4063536e1c546b40221fdf8db031a4bbe15f374423633701e04fe17c1d640b34f2e27b8f6aec00e24f1dcf50ad0920b3b4e3c4fa0d93fd8adb0e88d71f4614d018149a59f6a5adbfba1bd000d0e7c49ad584ce97eece608fe0ed7f493162a4a9cbfccd935da0f8c3816090661597aceb554a67ca9f52a771d26b79bb0b58882c94fb37da5f1cceacbced4372168523f4a8482ba3887a4aba03dad0440851e9de87b8037b7e8d3738a05301f17643ca07e42c0a057b28451002782f0f1f2fdc85198ed4637f67f2c27b27d1550daf99f69e90141c741cb7624d65cad22c2bd52625ac2f0db32c4bc9ab2e2d0a73b71725535f9cc7c3b0ed4a235436b7b20cb3dbead3ef3c38e9f03ec449e6d2e113e099c3b4238b2b7798ff350fa3500bd9136fb2d50bdeb177c24413310e8549b6cb

def clearToken : List Byte := msg 64 [(0, 0x54524C43), (4, 0x100), (8, 1), (16, 1)] ++ msg 16 [(0, 0x10000)] ++ natBe clearSig 384 ++ List.replicate 112 0
def owned (l : List (Fld × Nat)) (b : List (Nat × Word)) : State :=
  let s := mk l
  { s with buffers := b, locket := { s.locket with serial := 1, owners := some ⟨testModulus, 1⟩ :: List.replicate 7 none } }
def clearState : State := owned [(F.EVENT_SEQ_SEQ, 1)] (bufOf 0x60000 clearToken)
theorem witness_ClearSubmit : clearState.power.failing = false ∧ clearState.clearReason (clearState.bufferBytes 0x60000 576) = none := by decide +kernel

theorem witness_FlashOperations : State.reset.setup.op = none := rfl
def fwP : State := { mk [(F.SETUP_PROG_OFF_PIECE, 511)] with locket := { State.reset.locket with fwPiece := some 511 } }
theorem witness_FwProgram : fwP.setup.op = none ∧ fwP.pieceOk (fwP.rf F.SETUP_PROG_OFF_PIECE) (fwP.bufferBytes 0x50000 65536) = true := by decide +kernel
def opS (o : FlashOp) : State := { State.reset with setup := { State.reset.setup with op := some o } }
theorem witness_FlashOpDone : (opS (.program false 1 1023 [1, 2])).setup.op = some (.program false 1 1023 [1, 2]) ∧ (opS (.erase true 1)).setup.op = some (.erase true 1) := ⟨rfl, rfl⟩

def amendment : List Byte := msg 64 [(0, 0x444E4D41), (4, 0x100), (6, 2), (8, 1), (0xC, 576)] ++ msg 16 [(0, 0x10000)] ++ natBe amendSig 384 ++ List.replicate 112 0
def amendState : State := owned [(F.CHAIN_MEMBER_STATE, 2)] (bufOf 0x60000 amendment)
theorem witness_AmendSubmit : amendState.amendReason (amendState.bufferBytes 0x60000 4096) = 0 ∧ amendState.rf F.CHAIN_MEMBER_STATE = 2 := by decide +kernel
theorem witness_SvnCommit : (mk [(F.LOCKET_SVN_COUNT, 126), (F.LOCKET_SVN_RUNNING, 127)]).rf F.LOCKET_SVN_COUNT < (mk [(F.LOCKET_SVN_COUNT, 126), (F.LOCKET_SVN_RUNNING, 127)]).rf F.LOCKET_SVN_RUNNING := by decide +kernel
def armedS (l : List (Fld × Nat)) : State := let s := mk l; { s with front := { s.front with armed := some (0, 0) } }
theorem witness_FwSwitch : (armedS []).rf F.FRONT_STATUS_STEP ≠ 4 ∧ (armedS []).front.armed.isSome = true := by decide +kernel
def ownRec : List Byte := msg 0x1A0 [(0, 0x4B4E574F), (4, 1), (5, 7), (0x10, 1), (0x20, 77)] ++ List.replicate 512 0
def ownState : State := { mk [] with buffers := bufOf 0x60000 ownRec }
theorem witness_OwnerSubmit : ownState.ownerOk (ownState.bufferBytes 0x60000 ownerRecord) = true ∧ ownState.ownerSigned (ownState.bufferBytes 0x60000 ownerRecord) = true ∧
    ownState.locket.owners.length = 8 := by decide +kernel
def keyState : State :=
  let s := mk []
  { s with buffers := bufOf 0x1000 (msg 16 [(0, 1)] ++ natBe wrapped 384), locket := { s.locket with idModulus := 2 ^ 3072 - 1, idPrivate := 1 } }
theorem witness_KeyInstall : keyState.flag (keyValid 1) = false ∧ keyState.rf (F.LOCKET_KEY_GEN_GEN 0) < leAt (keyState.bufferBytes 0x1000 400) 0 4 ∧
    keyState.rf (F.LOCKET_KEY_GEN_GEN 1) < leAt (keyState.bufferBytes 0x1000 400) 0 4 ∧
    oaepDecrypt keyState.locket.idModulus keyState.locket.idPrivate (keyState.keyLabel 1 (leAt (keyState.bufferBytes 0x1000 400) 0 4))
      (((keyState.bufferBytes 0x1000 400).drop 0x10).take 384) = some (List.replicate 32 0x5A) := by decide +kernel
def keyed (st : Nat) : State :=
  let s := mk [(F.FRONT_STATUS_STEP, st), (keyValid 1, 1), (keyValid 0, 1)]
  { s with locket := { s.locket with key1 := some (List.replicate 32 1), key0 := some (List.replicate 32 2) } }
theorem witness_KeyClear : (keyed 0).rf F.FRONT_STATUS_STEP ≠ 4 ∧ (keyed 4).rf F.FRONT_STATUS_STEP = 4 ∧ (keyed 0).locket.encSlot ≠ (1#1).toNat ∧ (keyed 0).showKeyUse.rf (F.LOCKET_KEY_USE_COUNT 1) = 0 ∧
    (keyed 4).showKeyUse.rf (F.LOCKET_KEY_USE_COUNT 1) = 0 ∧ (keyed 4).flag (keyValid 1) = true := by decide +kernel

theorem witness_ColdStart : State.reset.power.dies = [] ∨ State.reset.power.dies ≠ [] := by decide +kernel
def dark : State := { mk [(F.EVENT_SEQ_SEQ, 9), (F.LIFE_HOURS_HOURS, 8), (F.LOCKET_SVN_COUNT, 3)] with power := { State.reset.power with dies := [], failing := true } }
theorem witness_ColdStart_dark : dark.power.dies = [] ∧ 3200 ≤ 3200 := by decide +kernel
theorem witness_Warm : (ready []).power.failing = false ∧ 19 ∈ (ready []).power.dies ∧ (ready []).rf F.SETUP_STATE_STATE ≠ 1 ∧ (ready []).rf F.SETUP_STATE_STATE ≠ 13 ∧ (ready []).flag F.LOCKET_FW_STATUS_RECOVERY = false := by decide +kernel
def start (st : Nat) : State := { mk [(F.SETUP_STATE_STATE, st)] with power := { State.reset.power with dies := [19] } }
def out0 : StartOut := ⟨some 0, [(31, 63), (31, 63), (31, 63)], true, true, 460, List.range 19, 3, [], false, 5⟩
theorem witness_Straps : (start 2).power.failing = false ∧ (start 2).rf F.SETUP_STATE_STATE = 2 ∧ out0.straps = [(31, 63), (31, 63), (31, 63)] ∧ out0.refclk = true := by decide +kernel
theorem witness_Straps_differ : (start 2).rf F.SETUP_STATE_STATE = 2 ∧ ((3, 4) ≠ (3, 5) ∨ (3, 5) ≠ (3, 5)) := by decide +kernel
theorem witness_DiePower : (start 4).rf F.SETUP_STATE_STATE = 4 ∧ 460 ≤ out0.holdup ∧ ∀ d < 19, d ∈ out0.ready := by decide +kernel
theorem witness_SelfTestState : (start 6).rf F.SETUP_STATE_STATE = 6 ∧ (start 6).tests = [] := by decide +kernel
theorem witness_AlignEdge : (start 5).rf F.SETUP_STATE_STATE = 5 ∧ (start 5).loupe.aligned = false := by decide +kernel

def halted : State := mk [(F.FRONT_STATUS_STEP, 4)]
theorem witness_TestCmd : halted.rf F.FRONT_STATUS_STEP = 4 ∧ (halted.tests.any (fun t => t.die == 16)) = false := by decide +kernel
def testing (d k : Nat) : State := { halted with tests := [⟨d, k⟩] }
theorem witness_BistDone : (testing 19 3).tests.find? (fun t => t.die == 19) = some ⟨19, 3⟩ := by decide +kernel
def spareS (l : List (Fld × Nat)) : State := core0 ([(F.HANDLE_A_VALID 0 63, 1), (F.HANDLE_D_GEN 0 63, 7), (F.HANDLE_ARR_ARR 0 63, 9), (F.SPARE_EPOCH_EPOCH 0, 65535)] ++ l)
theorem witness_Migrate : (spareS []).physOf 0 = some 0 ∧ (spareS []).migration = none ∧ (spareS []).spareFor 0 = some 1 := by decide +kernel
def ueS : State := let s := spareS [(F.SPARE_CFG_UE_LIMIT, 2)]; s.setCore 0 { s.core 0 with ueStep := 2 }
theorem witness_CoreRetire : ueS.rf F.SPARE_CFG_UE_LIMIT ≠ 0 ∧ ueS.rf F.SPARE_CFG_UE_LIMIT ≤ (ueS.core 0).ueStep ∧ ueS.flag (F.CORE_ID_ENABLED 0) = true ∧ ueS.migration = none ∧ ueS.spareFor 0 = some 1 := by decide +kernel
def migS : State := { spareS [] with migration := some ⟨0, 0, 1, 0⟩ }
theorem witness_MigrationPassBoundary : migS.migration = some ⟨0, 0, 1, 0⟩ ∧ (migS.core 0).runs = [] ∧ (migS.core 0).chain = none := by decide +kernel

/-- Words of a descriptor program at an address. -/
def prog (s : State) (a : Nat) (l : List (List (Nat × Nat))) : State :=
  ((l.zip (List.range l.length)).foldl (fun (s : State) e => put s (a + 16 * e.2) ((msg 16 e.1).map (·.toNat))) s)
theorem witness_physOf : (core0 []).physOf 0 = some 0 := by decide +kernel
def hsetD : BitVec 256 := desc [(0, 2), (1, 3), (2, 63), (3, 7), (4, 0x100), (8, 0x1FFEFF), (0xC, 256), (0xF, 0), (0x10, 0x1234)]
def hopen : State := core0 (hnd 63 16 15 ++ [(F.HANDLE_A_WINDOW 0 63, 1), (F.HANDLE_D_GEN 0 63, 0xFFFF), (F.HANDLE_ARR_ARR 0 63, 9), (F.HANDLE_A_BASE 0 5, 77)])
theorem witness_AtIssue : hopen.AtIssue 0 0 hsetD ∧ hopen.AtIssue 0 0 0 :=
  ⟨⟨by decide +kernel, by decide +kernel, by decide +kernel⟩, ⟨by decide +kernel, by decide +kernel, by decide +kernel⟩⟩
theorem witness_Hset : hopen.physOf 0 = some 0 ∧ hsetDecode hsetD = true ∧ hopen.hBusy 0 63 = false ∧ hopen.hsetBad 0 63 0x100 0x1FFEFF 1 256 0 = false ∧ hopen.hOpen 0 63 = true := by decide +kernel
def hcloseD (k : Nat) : BitVec 256 := desc [(0, 2), (1, 4), (2, 63), (3, k)]
theorem witness_Hclose : descHeader (hcloseD 1) 2 = true ∧ descField (hcloseD 1) 1 1 = 4 ∧ descField (hcloseD 1) 2 1 = 63 ∧ descField (hcloseD 1) 3 1 = 1 ∧ descZero (hcloseD 1) 4 32 = true ∧ hopen.hBusy 0 63 = false ∧ hopen.hValid 0 63 = true := by decide +kernel
def waitD (k : Nat) : BitVec 256 := desc [(0, 2), (1, 5), (2, 63), (4, k)]
theorem witness_WaitArr : descHeader (waitD 9) 2 = true ∧ descField (waitD 9) 1 1 = 5 ∧ descField (waitD 9) 3 1 = 0 ∧ descZero (waitD 9) 8 32 = true ∧ hopen.hBusy 0 63 = false ∧ hopen.hValid 0 63 = true ∧ hopen.rf (F.HANDLE_ARR_ARR 0 63) = 9 := by decide +kernel
theorem witness_BadHeader : descHeader 0 2 = false := by decide

def fillD : BitVec 256 := desc [(0, 2), (1, 1), (2, 3), (4, 2), (8, 14), (0xC, 0x11223344)]
def two : State := put (core0 (hnd 3 0x100 15 ++ hnd 4 0x200 15)) (storeBase 0 + 0x200 * 4) ((List.range 64).map (· + 1))
theorem witness_Fill : two.physOf 0 = some 0 ∧ descHeader fillD 2 = true ∧ descZero fillD 0x10 32 = true ∧ two.hBusy 0 3 = false ∧ two.hValid 0 3 = true ∧
    (descField fillD 4 4 + descField fillD 8 4) * 4 = two.hBytes 0 3 ∧ two.bank 0 5 = .on := by decide +kernel
def copyD (a b k : Nat) : BitVec 256 := desc [(0, 2), (1, 2), (2, a), (3, b), (4, 0), (8, 0), (0xC, k)]
theorem witness_Copy : descHeader (copyD 4 3 16) 2 = true ∧ descField (copyD 4 3 16) 1 1 = 2 ∧ descZero (copyD 4 3 16) 0x10 32 = true ∧ two.hWritten 0 4 = false ∧ two.hBusy 0 3 = false ∧
    (descField (copyD 4 3 16) 4 4 + descField (copyD 4 3 16) 0xC 4) * 4 = two.hBytes 0 4 ∧ (two.touch 0 0 64 true).2 = true ∧ (two.meet .none).poisonedAt (two.hAddr 0 4 0) 64 = false ∧
    (two.meet (.poison (two.hAddr 0 4 0))).poisonedAt (two.hAddr 0 4 0) 64 = true := by decide +kernel
-- overlapping
def ovl : State := put (core0 (hnd 3 0x100 15 ++ hnd 4 0x104 15)) (storeBase 0 + 0x100 * 4) ((List.range 80).map (· + 1))

def gate : State := put (mk [(F.CSTORE_CTRL_GATE_EN 0, 1)]) (storeBase 0 + 0x1000) (List.replicate 128 7)
/-- A graph of one task whose descriptors 2 and 3 are a CTRL NOP and the FILL; the task stands at the NOP. -/
def aheadS : State :=
  let image := msg 64 [(0x18, 64)] ++ List.replicate 64 0#8 ++ msg 32 [(0, 5)] ++ natLe fillD.toNat 32
  { two with front := { two.front with launches := [⟨1, 0, 0, 7, 1, none, 1, none, false, false, 0, false⟩], graphs := [(7, ⟨[⟨1, 2, image⟩], 1⟩)] } }
theorem witness_FillAhead : aheadS.Ahead 0 0 task0 1 fillD ∧ (∀ x ∈ aheadS.front.tasks, x.id = task0.id → x = task0) ∧ aheadS.hBusy 0 3 = false ∧ aheadS.hValid 0 3 = true :=
  ⟨⟨by decide +kernel, by decide +kernel, by decide, by decide +kernel, by decide +kernel⟩, by decide +kernel, by decide +kernel, by decide +kernel⟩
theorem witness_BankGatePend : gate.flag (F.CSTORE_CTRL_GATE_EN 0) = true ∧ gate.bank 0 63 = .on ∧ ∀ h < 64, gate.hValid 0 h = false := by decide +kernel
def gp (p : BankPhase) : State := gate.setBank 0 0 p
theorem witness_BankPowerOff : (gp .gatePend).bank 0 0 = .gatePend ∧ (gp .waking).bank 0 0 = .waking ∧ ((gp .waking).core 0).heldAccess = [] ∧ (gp .waking).pcie.held = [] ∧ (gp .gatePend).bankWrites 0 0 = 0 ∧ (gp .gatePend).bankAwaited 0 0 = false ∧ Memory.wf gate.mem = true := by decide +kernel

def gpW : State := (gp .gatePend).setCore 0 { (gp .gatePend).core 0 with writes := [(0, 1)] }
theorem witness_BankPowerOff_writes : gpW.bankWrites 0 0 ≠ 0 := by decide +kernel
def win (g : Nat) : State := core0 (hnd 3 0x100 15 ++ [(F.HANDLE_A_WINDOW 0 3, 1), (F.HANDLE_A_RREAD 0 3, 1), (F.HANDLE_D_GEN 0 3, g), (F.CSTORE_STALE_WR_COUNT 0, 0xFFFFFFFF)])
def acc (rd : Bool) (o g len : Nat) : Access := ⟨rd, storeBase 0 + o, len, g, 0, if rd then [] else (List.range len).map (fun i => BitVec.ofNat 8 (i+1)), 0⟩
theorem witness_RemoteWrite : (win 7).coreAt (storeBase 0 + 0x43C) = some (0, 0x43C) ∧ (win 7).handleAt 0 0x43C = some 3 ∧ (win 7).flag (F.HANDLE_A_STUB 0 3) = false ∧ ((win 7).touch 0 0x43C 4 false).2 = true ∧
    0x43C + 4 = (win 7).hStart 0 3 + (win 7).hBytes 0 3 ∧ (win 7).flag (F.HANDLE_A_WINDOW 0 3) = true ∧ (win 7).heldMeets 0 0x43C 4 = false ∧ (acc false 0x43C 7 4).addr % 512 + 4 ≤ 512 := by decide +kernel
theorem witness_RemoteRead : (win 7).readOk 0 3 0x43C (acc true 0x43C 7 4) = true ∧ (win 7).poisonedAt (storeBase 0 + 0x43C) 4 = false ∧ ((win 7).touch 0 0x43C 4 true).2 = true ∧ (win 7).heldMeets 0 0x43C 4 = false ∧
    (win 7).physOf 0 = some 0 := by decide +kernel
def fwd : State := let s := (win 7).wf (F.SPARE_EPOCH_EPOCH ((win 7).logicalOf 0)) 5; s.setCore 9 { s.core 9 with forwardTo := some 0, heldAccess := [(none, { acc false 0x43C 7 4 with addr := storeBase 9 + 0x43C, epoch := 4 }), (none, acc true 0x43C 7 4)] }
theorem witness_Forwarded : (fwd.core 9).forwardTo = some 0 ∧ (fwd.core 9).heldAccess ≠ [] ∧ 4 + 1 = fwd.rf (F.SPARE_EPOCH_EPOCH (fwd.logicalOf 0)) ∧ fwd.handleAt 0 ((storeBase 9 + 0x43C) % 0x01000000) = some 3 ∧
    (fwd.touch 0 ((storeBase 9 + 0x43C) % 0x01000000) 4 false).2 = true ∧ 4 + 1 ≠ (fwd.wf (F.SPARE_EPOCH_EPOCH (fwd.logicalOf 0)) 6).rf (F.SPARE_EPOCH_EPOCH (fwd.logicalOf 0)) := by decide +kernel

def runD : BitVec 256 := desc [(0, 2), (1, 0), (2, 3), (3, 3), (4, 0), (0xA, 4)]
def runP : State := prog (put (core0 (hnd 3 0x100 15 ++ hnd 4 0x200 15 ++ hnd 5 0x300 15)) (storeBase 0 + 0x800) ((List.range 64).map (· + 1))) (storeBase 0 + 0x400) [[(0, 1), (1, 1), (2, 4)], [(0, 2), (1, 1), (2, 5)], [(0, 3), (1, 3)], [(0, 4), (1, 0), (2, 15), (6, 4), (11, 4)]]
def runL : List (BitVec 128) := takeProgram ((List.range 4).map (fun i => BitVec.ofNat 128 (runP.rle (storeBase 0 + 0x400 + 16 * i) 16)))
theorem witness_Run : runP.physOf 0 = some 0 ∧ runDecode runD = true ∧ (runP.core 0).runs.length < 8 ∧ runP.hWritten 0 3 = false ∧ runP.hValid 0 3 = true ∧ 64 = runP.hBytes 0 3 ∧
    runP.poisonedAt (runP.hAddr 0 3 0) 64 = false ∧ runP.hBusy 0 5 = false ∧ (runP.hValid 0 4 = true ∧ runP.hWritten 0 4 = false) ∧ (∃ p d, runP.progCheck 0 (fun _ => none) runL = .ok p ∧ p.dst = some d ∧ (∀ h ∈ p.handles, runP.hWritten 0 h = false)) := by
  refine ⟨by decide +kernel, by decide +kernel, by decide +kernel, by decide +kernel, by decide +kernel, by decide +kernel, by decide +kernel, by decide +kernel, by decide +kernel, (parseProgram runL 0 Prog.empty).get (by decide +kernel), ⟨1, 5, 0, 1⟩, by decide +kernel, by decide +kernel, by decide +kernel⟩
def runV : State := runP.setCore 0 { runP.core 0 with runs := [⟨runP.descOf 0, runD, runL, 16, 0, none, [], 0, 0⟩] }
theorem witness_RunIssues : (runV.issueAll 0 0 9).flag (F.STREAM_STATUS_FAULTED 0) = false := by decide +kernel
theorem witness_RunBad : (runP.setCore 0 (runP.core 0)).progCheck 0 (fun _ => none) [] = .decode ∧ (runP.wf (F.HANDLE_A_VALID 0 5) 0).progCheck 0 (fun _ => none) runL = .handle := by decide +kernel
theorem witness_StreamMayNotStart : runV.physOf 0 = some 0 ∧ (runV.setCore 0 { runV.core 0 with runs := [⟨1, desc [(0, 0x22)], [], 1, 0, none, [], 0, 0⟩] }).depPending 0 = true ∧
    ({ runV with front := { runV.front with tasks := [{ task0 with phase := .waiting }] } } : State).issues 0 runD = false ∧ runV.curTask 0 = some task0 ∧
    runV.mayRunAhead 0 task0 1 runD = false := by decide +kernel
/-- The running transfer of the program above. -/
def runT : Transfer := ⟨2, 0, 16, 64, .store 2048, .store 3072, 0⟩
def runQ : State := runV.setCore 0 { runV.core 0 with runs := [⟨2, runD, runL, 16, 16, none, [], 0, 0⟩], transfers := [runT] }
theorem witness_TransferDone : (runQ.core 0).transfers[0]? = some runT ∧ ((runQ.meet .none).fetch 0 0 runT).toOption = some (runQ.rbs (storeBase 0 + 2048) 64) ∧ (runQ.touchEnds 0 runT).2 = true ∧
    (runQ.land 0 0 runT (runQ.rbs (storeBase 0 + 2048) 64)).2 = 0 := by decide +kernel
theorem witness_Lands : runQ.coreAt 0x20 = none := by decide +kernel

/-- A pool at stripe 70000 with 2,000 stripes, of which stream 13 has a floor of 64 in slots of 32. -/
def pool (l : List (Fld × Nat)) : State := mk ([(F.CASKET_POOL_BASE_STRIPE, 70000), (F.CASKET_POOL_SIZE_STRIPES, 2000), (F.CASKET_FLOOR_STRIPES 13, 64), (F.CASKET_SLOT_STRIPES 13, 32), (F.CASKET_SLOT_STRIPES 31, 2000)] ++ l)
def ow (k : Nat) : Owner := ⟨.agent, k⟩
def withG (s : State) (g : List Grant) (w : List AllocReq) : State := { s with casket := { s.casket with grants := g, waiting := w } }
def full13 : List Grant := [⟨13, 70000, 32, some 0, ow 1⟩, ⟨13, 70032, 32, some 1, ow 2⟩]
theorem witness_Request : (pool []).freeArenaSlot 13 = some 0 ∧ (withG (pool []) full13 []).freeArenaSlot 13 = none ∧ (withG (pool []) full13 []).lowestRun 32 = some 70064 ∧
    (withG (pool []) (⟨31, 70064, 1936, none, ow 3⟩ :: full13) []).lowestRun 32 = none ∧ (pool []).casket.waiting = [] ∧ (pool []).rf (F.CASKET_LIMIT_STRIPES 13) = 0 ∧
    (pool [(F.CASKET_LIMIT_STRIPES 13, 32)]).rf (F.CASKET_USE_STRIPES 13) + 32 ≤ (pool [(F.CASKET_LIMIT_STRIPES 13, 32)]).rf (F.CASKET_LIMIT_STRIPES 13) := by decide +kernel
theorem witness_RequestWaits : (∃ r ∈ (withG (pool []) [] [⟨13, 1, ow 1⟩]).casket.waiting, r.stream = 13) ∧ ∀ r ∈ (withG (pool []) [] [⟨13, 1, ow 1⟩]).casket.waiting, r.stream = 13 → r.owner ≠ ow 9 := by decide +kernel
theorem witness_WaitGrant : ((withG (pool []) [] [⟨13, 32, ow 1⟩]).tryGrant 13 32 (ow 1)).isSome = true ∧ ∀ r ∈ (withG (pool [(F.CASKET_LIMIT_STRIPES 13, 1)]) [] [⟨13, 32, ow 1⟩]).casket.waiting, (withG (pool [(F.CASKET_LIMIT_STRIPES 13, 1)]) [] [⟨13, 32, ow 1⟩]).tryGrant r.stream r.count r.owner = none ∧
    (pool []).chain.deferred = [] ∧ (pool []).pcie.held = [] ∧ (pool []).pcie.waiting = [] ∧ (pool []).rf F.GRAD_STATUS_PHASE ≠ 3 := by decide +kernel
def np : State := { withG (core0 [(F.CASKET_NOPROG_LIMIT_TICKS, 1), (F.FRONT_STATUS_STEP, stepRun)]) [] [⟨13, 32, ow 1⟩] with pending := [] }
theorem witness_Noprog : np.casket.waiting.find? (fun r => r.stream == 13) = some ⟨13, 32, ow 1⟩ ∧ np.rf F.CASKET_NOPROG_LIMIT_TICKS ≠ 0 ∧ np.rf F.FRONT_STATUS_STEP = stepRun := by decide +kernel

def oq (q : Nat) (n : Nat) (l : List (Fld × Nat)) : State :=
  let s := mk ([(F.CASKET_QCFG_VALID q, 1), (F.CASKET_QSTAT_EMPTY q, b2n (n == 0)), (F.CASKET_QSTAT_COUNT q, n)] ++ l)
  { s with casket := { s.casket with queues := if n = 0 ∧ l = [] then [] else [(q, ⟨(List.range (min n 64)).map (fun k => ⟨BitVec.ofNat 64 k, qTag (BitVec.ofNat 64 k) (k == 3) false⟩), 0, 0, (List.range (n - 64)).map (fun k => ⟨BitVec.ofNat 64 (64 + k), qTag (BitVec.ofNat 64 (64 + k)) false false⟩), l.any (fun e => e.1 == F.CASKET_QSTAT_FLUSHING q && e.2 == 1)⟩)] } }
theorem witness_QWrite : (oq 2047 127 []).qValid 2047 = true ∧ ((oq 2047 127 []).queue 2047).full = false ∧ ((oq 2047 128 []).queue 2047).full = true ∧ ((oq 5 0 [(F.CASKET_QSTAT_FLUSHING 5, 1)]).queue 5).flushing = true ∧ (oq 5 0 [(F.CASKET_QSTAT_FLUSHING 5, 1)]).qValid 5 = true ∧
    ((oq 5 0 [(F.CASKET_QSTAT_FLUSHING 5, 1)]).queue 5).full = false ∧ ((oq 2047 127 []).queue 2047).flushing = false := by decide +kernel
theorem witness_QRead : (∃ w r, ((oq 5 70 []).queue 5).head = w :: r ∧ w.tag = qTag w.data (bit w.tag.toNat 0) (bit w.tag.toNat 1)) ∧ ((oq 5 70 []).queue 5).flushing = false ∧ parityOf (1 : BitVec 66).toNat 66 = true ∧ ((oq 5 0 []).queue 5).head = [] :=
  ⟨⟨⟨0, 0⟩, (List.range 63).map (fun k => ⟨BitVec.ofNat 64 (k + 1), qTag (BitVec.ofNat 64 (k + 1)) (k == 2) false⟩), by decide +kernel, by decide +kernel⟩, by decide +kernel, by decide, by decide +kernel⟩

def qd (op q : Nat) : BitVec 256 := desc [(0, 5), (1, op), (4, q)]
theorem witness_Qflush : queueDecode (qd 5 5) 5 = true ∧ queueDecode (qd 4 5) 4 = true ∧ (oq 5 70 []).programQueue 5 = true ∧ (oq 5 70 []).issues 0 (qd 5 5) = true ∧ (oq 5 70 []).qValid 5 = true := by decide +kernel
def qopenD (q mid base : Nat) : BitVec 256 := desc [(0, 5), (1, 3), (4, q), (8, mid), (0xC, base)]
def coreq (s : State) : State := { (s.wf (F.CORE_ID_ENABLED 0) 1).wf (F.CORE_ID_LOGICAL 0) 0 with front := (core0 []).front }
theorem witness_Qopen : controlHeader (qopenD 1791 0 0) 3 = true ∧ descZero (qopenD 1791 0 0) 0x10 32 = true ∧ (coreq State.reset).qopenBad 1791 0 0 = false ∧ (coreq State.reset).qopenBad 1792 0 0 = true ∧ (coreq State.reset).qopenBad 1791 1 65535 = true := by decide +kernel
def pushD (k : Nat) (last : Nat) : BitVec 256 := desc [(0, 5), (1, 2), (4, 5), (6, 3), (7, last), (8, 0), (0xC, k)]
def pushS : State := put (core0 (hnd 3 0x100 127 ++ [(F.CASKET_QCFG_VALID 5, 1), (F.CASKET_QSTAT_EMPTY 5, 1)])) (storeBase 0 + 0x400) ((List.range 64).map (fun k => k + 1))
theorem witness_Qpush : pushS.physOf 0 = some 0 ∧ controlHeader (pushD 64 1) 2 = true ∧ descZero (pushD 64 1) 0x10 32 = true ∧ pushS.programQueue 5 = true ∧ pushS.hWritten 0 3 = false ∧ pushS.hValid 0 3 = true ∧
    64 * 8 = pushS.hBytes 0 3 ∧ pushS.pushedOf 0 = 0 ∧ pushS.issues 0 (pushD 64 1) = true ∧ (pushS.queue 5).flushing = false ∧
    (pushS.touch 0 (pushS.hStart 0 3) 512 true).2 = true ∧ pushS.poisonedAt (pushS.hAddr 0 3 0) 512 = false ∧ pushS.queueWords 5 = [] := by decide +kernel

theorem witness_QpushFull : ((coreq (oq 5 128 [])).queue 5).full = true ∧ (coreq (oq 5 128 [])).pushedOf 0 < 64 ∧ (coreq State.reset).issues 0 (qopenD 1791 0 0) = true ∧
    descField (qopenD 1791 0 0) 0xC 4 < 2 ^ 24 := by decide +kernel
/-- A queue whose middle is two stripes, full to the brim. -/
def spillQ : State := mk [(F.CASKET_QCFG_VALID 5, 1), (F.CASKET_QSTAT_EMPTY 5, 1), (F.CASKET_QCFG_MID 5, 2), (F.CASKET_QBASE_STRIPE 5, 4), (F.CASKET_SPILL_BASE, 100)]

/-- A ring entry of the given fields. -/
def ent (l : List (Nat × Nat)) : BitVec 512 := BitVec.ofNat 512 (flds l)
/-- A module whose rings run: supply, DMA allowed, ring 3 of 16 entries with HEAD 15 and TAIL 3. -/
def ring (l : List (Fld × Nat)) : State :=
  let s := mk ([(F.HOSTIF_CTRL_DMA_EN, 1), (F.HOSTIF_STATUS_NEGOTIATED, 1), (F.FRONT_Q_CFG_EN 3, 1), (F.FRONT_Q_CFG_LOG2_SIZE 3, 4), (F.FRONT_Q_HEAD_INDEX 3, 15), (F.FRONT_Q_TAIL_INDEX 3, 3), (F.FRONT_STATUS_STEP, stepRun)] ++ l)
  { s with pcie := { s.pcie with busMaster := true }, power := { s.power with dies := [0] }, front := { s.front with graphStore := 65536 } }
theorem witness_Doorbell : bits (15 : Word).toNat 0 16 < (ring []).ringSize 3 ∧ (ring []).ringSize 3 ≤ bits (16 : Word).toNat 0 16 := by decide +kernel

theorem witness_CmdNop : (ring []).mayAccept 3 (ent []) = true ∧ entOpcode (ent []) = 0 ∧ (ring []).entryOk (ent []) = true := by decide +kernel
def cpl (s : State) (q : Nat) (e : BitVec 512) (st g v o : Nat) : Completion := ⟨q, e, st, 0, s.rf F.CHAIN_STEP_STEP, g, v, o, 0⟩
theorem witness_CmdReserved : (ring []).mayAccept 3 (ent [(0, 7)]) = true ∧ (ring []).entryOk (ent [(0, 7)]) = false := by decide +kernel
def sigE : BitVec 512 := ent [(0, 6), (0x10, 65535), (0x14, 5)]
theorem witness_CmdSignal : (ring []).mayAccept 3 sigE = true ∧ entOpcode sigE = 6 ∧ (ring []).entryOk sigE = true ∧ entryField sigE 0x10 4 = 65535 := by decide +kernel
def seE : BitVec 512 := ent [(0, 5), (0x10, 4095), (0x14, 9)]
theorem witness_StepEnd : (ring []).front.armed = none ∧ (ring []).mayAccept 3 seE = true ∧ entOpcode seE = 5 ∧ (ring []).entryOk seE = true := by decide +kernel

/-- A graph image of n tasks on core 0, each an entry of one descriptor, at n descriptors. -/
def img (n : Nat) : List Byte :=
  let h := [(0, 0x0100), (2, 0x0100), (4, n), (0x10, 64), (0x18, 64 + 32 * n), (0x1C, 1), (0x20, 96 + 32 * n)]
  let body := (List.range n).flatMap (fun i => msg 32 [(0, 1), (2, i), (8, 1)]) ++ msg 32 [(0, 5)]
  let h := h ++ [(0x38, crc32c body)]
  msg 64 (h ++ [(0x3C, crc32c (msg 60 h))]) ++ body
def loadE (n : Nat) : BitVec 512 := ent [(0, 2), (0x10, 4095), (0x18, 0x1000), (0x20, n)]
theorem witness_GraphLoad : (ring []).mayAccept 3 (loadE 128) = true ∧ entOpcode (loadE 128) = 2 ∧ (ring []).entryOk (loadE 128) = true ∧ entGraph (loadE 128) = 4095 ∧
    firstBad ((ring []).imageChecks (img 1) (entryField (loadE 128) 0x20 4) true) = none ∧ (ring []).storeUsed + entryField (loadE 128) 0x20 4 ≤ (ring []).front.graphStore ∧
    (ring []).flag (F.FRONT_GRAPH_STATE_VALID 4095) = false ∧ firstBad ((ring []).imageChecks (img 1) 127 true) = some (4, 0x20) := by decide +kernel
def withGraph (s : State) : State := { (s.wf (F.FRONT_GRAPH_STATE_VALID 4095) 1).wf (F.FRONT_GRAPH_STATE_CURRENT 4095) 7 with front := { s.front with graphs := [(4095, ⟨[⟨7, 1, img 2⟩], 7⟩)] } }
def patch : List Byte :=
  let body := msg 16 [(0, 64 + 32 + 2), (4, 1), (8, 3)]
  let h := [(0, 0x0100), (2, 0x0100), (4, 2), (0x20, 80), (0x38, crc32c body)]
  msg 64 (h ++ [(0x3C, crc32c (msg 60 h))]) ++ body
def patchE : BitVec 512 := ent [(0, 3), (0x10, 4095), (0x18, 0x1000), (0x20, 80)]
def patched : List Byte := (img 2).take 98 ++ [3] ++ (img 2).drop 99
theorem witness_GraphPatch : (withGraph (ring [])).mayAccept 3 patchE = true ∧ entOpcode patchE = 3 ∧ (withGraph (ring [])).entryOk patchE = true ∧
    (withGraph (ring [])).flag (F.FRONT_GRAPH_STATE_VALID 4095) = true ∧ ((withGraph (ring [])).graph 4095).versions.find? (fun v => v.num == (withGraph (ring [])).rf (F.FRONT_GRAPH_STATE_CURRENT 4095)) = some ⟨7, 1, img 2⟩ ∧
    firstBad (patchChecks patch (img 2) (entryField patchE 0x20 4)) = none ∧ (applyPatch patch.length patch 0x40 (img 2)).toOption = some patched ∧
    firstBad ((withGraph (ring [])).imageChecks patched patched.length false) = none ∧ (withGraph (ring [])).storeUsed + patched.length ≤ (withGraph (ring [])).front.graphStore := by decide +kernel
def freeE : BitVec 512 := ent [(0, 4), (0x10, 4095)]
theorem witness_GraphFree : (withGraph (ring [])).mayAccept 3 freeE = true ∧ entOpcode freeE = 4 ∧ (withGraph (ring [])).entryOk freeE = true := by decide +kernel

def launchE : BitVec 512 := ent [(0, 1), (0x10, 4095)]
theorem witness_Launch : (withGraph (ring [])).mayAccept 3 launchE = true ∧ entOpcode launchE = 1 ∧ (withGraph (ring [])).entryOk launchE = true ∧
    (withGraph (ring [])).versionOf 4095 ((withGraph (ring [])).rf (F.FRONT_GRAPH_STATE_CURRENT 4095)) = some ⟨7, 1, img 2⟩ ∧ imgRounds (img 2) = 0 ∧ entryField launchE 0x18 8 = 0 ∧
    (withGraph (ring [])).rf F.FRONT_STATUS_STEP = stepRun ∧ (List.range (imgTasks (img 2))).filter (fun i => bit (leAt (imgTask (img 2) i) 0 1) 0) = [0, 1] := by decide +kernel
def tk (id q : Nat) (ph : TaskPhase) (pers : Bool) (w : TaskWait) : Task := ⟨id, 1, q, 0, 0, pers, 0, 4, 5, 3, ph, w, 2, 0, 0, [], 0⟩
def tasksS (s : State) (l : List Task) : State := { s with front := { s.front with tasks := l } }
def rdyS : State := tasksS (core0 [(F.CORE_ABORT_CAUSE 0, 4), (F.STREAM_STATUS_FAULTED 0, 1)]) [tk 8 3 .ready false .none]
theorem witness_TaskStart : rdyS.physOf 0 = some 0 ∧ rdyS.curTask 0 = none ∧ rdyS.front.enqueued = [] ∧ rdyS.front.undispatched = [] ∧
    rdyS.front.tasks.find? (fun t => t.core == 0 && (t.phase == .ready || t.phase == .saved)) = some (tk 8 3 .ready false .none) ∧ rdyS.rf (F.CASKET_SLOT_STRIPES 12) = 0 := by decide +kernel
def savS : State := tasksS (core0 []) [tk 8 3 .saved false .none]
theorem witness_TaskStart_saved : savS.curTask 0 = none ∧ savS.front.tasks.find? (fun t => t.core == 0 && (t.phase == .ready || t.phase == .saved)) = some (tk 8 3 .saved false .none) ∧
    (∀ y ∈ savS.front.tasks, y.id = 8 → y = tk 8 3 .saved false .none) := by decide +kernel
def popS : State := { tasksS (core0 (hnd 3 0x100 1 ++ [(F.CASKET_QCFG_VALID 5, 1)])) [tk 8 3 .waiting true (.queue 5)] with casket := { State.reset.casket with queues := [(5, ⟨[⟨77, qTag 77 false false⟩], 0, 0, [], false⟩)] } }
theorem witness_PersistentPop : popS.curTask 0 = some (tk 8 3 .waiting true (.queue 5)) ∧ popS.programQueue 5 = true ∧ (popS.queue 5).head = [⟨77, qTag 77 false false⟩] ∧ (popS.queue 5).flushing = false ∧
    (popS.touchHandles 0 [(3, false)]).2 = true ∧ popS.hValid 0 3 = true ∧ 8 = popS.hBytes 0 3 := by decide +kernel
def preS : State := tasksS (core0 [(F.FRONT_Q_CFG_PREEMPT 1, 1), (F.FRONT_CNT_COUNT 4, 0xFFFFFFFF)]) (tk 8 3 .run false .none :: tk 9 1 .ready false .none :: (List.range 15).map (fun i => tk (20 + i) 3 .ready false .none))
theorem witness_TaskPreempt_rival (s : State) (h : s.front.tasks.find? (fun u => u.core == 0 && u.phase == .ready && u.queue == 1) = some (tk 9 1 .ready false .none)) :
    s.rivalOf 0 1 = some (s, tk 9 1 .ready false .none) := by rw [State.rivalOf, h]
theorem witness_TaskPreempt : preS.curTask 0 = some (tk 8 3 .run false .none) ∧ 16 = preS.readyCount 0 ∧ preS.flag (F.FRONT_Q_CFG_PREEMPT 1) = true ∧
    (preS.rivalOf 0 0).isNone = true ∧ (preS.core 0).runs = [] ∧ (preS.core 0).chain = none := by decide +kernel
def preR : State := preS.setCore 0 { preS.core 0 with runs := [⟨2, 0, [], 16, 16, none, [], 0, 0⟩] }
theorem witness_TaskPreempt_busy : preS.rivalOf 0 1 = some (preS, tk 9 1 .ready false .none) ∧ preR.rivalOf 0 1 = some (preR, tk 9 1 .ready false .none) ∧ (preR.core 0).runs ≠ [] :=
  ⟨witness_TaskPreempt_rival _ (by decide +kernel), witness_TaskPreempt_rival _ (by decide +kernel), by decide +kernel⟩
def imgR : List Byte := msg 64 [(4, 1), (8, 1), (0x10, 72), (0x14, 64)] ++ msg 8 [(1, 1)] ++ msg 32 [(0, 1)]
def withGraphR (s : State) (r : Option (Nat × Nat)) : State := { (s.wf (F.FRONT_GRAPH_STATE_VALID 4095) 1).wf (F.FRONT_GRAPH_STATE_CURRENT 4095) 7 with front := { s.front with graphs := [(4095, ⟨[⟨7, 1, imgR⟩], 7⟩)], rounds := r } }
theorem witness_LaunchSecond : (withGraphR (ring []) (some (1, 1))).mayAccept 3 launchE = true ∧ (withGraphR (ring []) (some (1, 1))).entryOk launchE = true ∧ 0 < imgRounds imgR ∧
    ((withGraphR (ring []) (some (1, 1))).versionOf 4095 7).map (·.image) = some imgR ∧ (withGraphR (ring []) (some (1, 1))).rf F.FRONT_STATUS_STEP ≠ stepHalted ∧
    (withGraphR (ring []) none).front.rounds = none ∧ (ring []).flag (F.FRONT_GRAPH_STATE_VALID 4095) = false ∧ (ring []).front.undispatched = [] := by decide +kernel
def constS : State := withGraph (ring [(F.CASKET_POOL_BASE_STRIPE, 70000), (F.CASKET_POOL_SIZE_STRIPES, 2000), (F.CASKET_FLOOR_STRIPES 12, 64), (F.CASKET_SLOT_STRIPES 12, 1)])
def launchC : BitVec 512 := ent [(0, 1), (0x10, 4095), (0x18, 0x4000)]
theorem witness_LaunchConst : constS.mayAccept 3 launchC = true ∧ constS.entryOk launchC = true ∧ entryField launchC 0x18 8 ≠ 0 ∧ (constS.request 12 1 ⟨.constant, constS.front.nextId⟩).1 = .granted 70000 ∧
    constS.traces 3 = false := by decide +kernel
def runS : State := core0 []
theorem witness_TaskStall : runS.curTask 0 = some task0 ∧ task0.phase ≠ .draining := by decide +kernel
def drainS : State := (tasksS (core0 []) [tk 8 3 .draining false .none]).setCore 0 { (core0 []).core 0 with runs := [⟨2, 0, [], 16, 16, none, [], 0, 0⟩] }
theorem witness_TaskKill : drainS.curTask 0 = some (tk 8 3 .draining false .none) ∧ (drainS.core 0).runs ≠ [] ∧ ((tasksS (core0 []) [tk 8 3 .draining false .none]).core 0).runs = [] := by decide +kernel

theorem witness_CtrlNop : controlHeader (desc [(0, 5)]) 0 = true ∧ descZero (desc [(0, 5)]) 2 32 = true ∧ controlHeader 0 0 = false := by decide
def enqD (i : Nat) : BitVec 256 := desc [(0, 5), (1, 1), (4, i)]
def lau : Launch := ⟨1, 3, 0, 4095, 7, none, 1, none, false, false, 0, false⟩
def enqS (st : Nat) (en : List (Nat × Nat × Bool)) : State := let s := withGraph (core0 [(F.FRONT_STATUS_STEP, st)]); { s with front := { s.front with launches := [lau], tasks := [task0], enqueued := en } }
theorem witness_Enqueue : controlHeader (enqD 1) 1 = true ∧ descZero (enqD 1) 6 32 = true ∧ (enqS stepRun []).curTask 0 = some task0 ∧ (enqS stepRun []).front.launches.find? (fun l => l.id == task0.launch) = some lau ∧
    ((enqS stepRun []).versionOf 4095 7).map (·.image) = some (img 2) ∧ imgTasks (img 2) = 2 ∧ (enqS stepRun []).readyCount 1 < 16 ∧ stepDrain ≠ stepRun ∧ (enqS stepRun []).issues 0 (enqD 1) = true ∧ (enqS stepRun []).front.undispatched = [] ∧
    (∀ e ∈ (enqS stepDrain [(1, 0, true)]).front.enqueued, e.2.2 = true) ∧ 4096 ≤ (enqS stepRun (List.replicate 4096 (1, 0, true))).front.enqueued.length := by decide +kernel
def caD : BitVec 256 := desc [(0, 5), (1, 0xD), (4, 3), (8, 48)]
def caS : State := let s := put (core0 (hnd 3 0x100 15)) (storeBase 0 + 0x430) [2, 1]; { s with front := { s.front with launches := [{ lau with constAt := some 0x020000001200 }] } }
theorem witness_ConstAddr : controlHeader caD 0xD = true ∧ descZero caD 0xC 32 = true ∧ (caS.front.launches.find? (fun l => l.id == task0.launch)).map (·.constAt) = some (some 0x020000001200) ∧ caS.hBusy 0 3 = false ∧
    caS.hValid 0 3 = true ∧ descField caD 8 4 + 16 = caS.hBytes 0 3 ∧ caS.poisonedAt (caS.hAddr 0 3 48) 16 = false ∧ caS.rle (caS.hAddr 0 3 48) 1 = 2 ∧ caS.issues 0 caD = true ∧
    (caS.touch 0 (caS.hStart 0 3 + 48) 16 true).2 = true ∧ descField caD 8 4 % 16 = 0 := by decide +kernel

def cpS (l : List (Fld × Nat)) (v : List (Completion × BitVec 64)) : State := let s := ring ([(F.FRONT_Q_CTAIL_INDEX 3, 15)] ++ l); { s with front := { s.front with done := [cpl s 3 0 0 0 0 0, cpl s 3 1 0 0 0 0], verifying := v } }
theorem witness_CompletionWrite : (cpS [] []).front.done ≠ [] ∧ (cpS [] []).flag (F.FRONT_Q_STATUS_CSTALL 3) = false ∧ (cpS [] []).gated = false ∧ entFlags (0 : BitVec 512) = 0 ∧ (cpS [] []).ringSize 3 ≤ (cpS [] []).rf (F.FRONT_Q_CTAIL_INDEX 3) + 1 ∧ (cpS [(F.FRONT_Q_CFG_VERIFY 3, 1)] []).flag (F.FRONT_Q_CFG_VERIFY 3) = true ∧ (cpS [] []).rf (F.CASKET_SLOT_STRIPES 12) = 0 ∧ (cpS [] []).front.verifying = [] ∧
    (cpS [(F.FRONT_Q_STATUS_CSTALL 3, 1)] []).flag (F.FRONT_Q_STATUS_CSTALL 3) = true ∧ (cpS [(F.HOSTIF_CTRL_DMA_EN, 0)] []).gated = true ∧
    ((cpS [] []).rf F.FRONT_OVF_WR_PTR + 8192 - (cpS [] []).rf F.FRONT_OVF_RD_PTR) % 8192 ≠ 4096 := by decide +kernel
theorem witness_RecordVerifyDone : (cpS [] [(cpl State.reset 3 0 0 0 0 0, 9)]).front.verifying = [(cpl State.reset 3 0 0 0 0 0, 9)] := by decide +kernel


/-- A CLASP descriptor of an operation, with further fields. -/
def cd (op : Nat) (l : List (Nat × Nat)) : BitVec 256 := desc ([(0, 3), (1, op)] ++ l)
def plainSig : BitVec 256 := cd 0 [(2, 8), (4, 65535), (8, 7)]
theorem witness_ClaspSignal : (core0 []).issues 0 plainSig = true ∧ signalDecode plainSig = true ∧ bits (descField plainSig 2 1) 0 3 = 0 := by decide
theorem witness_ClaspArrive : waitDecode (cd 3 [(4, 9)]) 3 = true ∧ descField (cd 3 [(4, 9)]) 8 4 = 0 := by decide
def heldD (e g : Nat) : BitVec 256 := cd 0 [(2, 2), (4, 9), (8, 7), (0xC, 0), (0xE, 63), (0x10, e), (0x14, g)]
def heldS (k : Nat) : State := let s := core0 [(F.HANDLE_D_GEN 0 63, 0xFFFF), (F.HANDLE_ARR_ARR 0 63, 5)]; s.setCore 0 { s.core 0 with holds := List.replicate k ⟨1, 9, 0, ⟨0, 0, false, 0⟩⟩ }
theorem witness_Held : signalDecode (heldD 5 0xFFFF) = true ∧ bit (descField (heldD 5 0xFFFF) 2 1) 1 = true ∧ (heldS 15).physOf 0 = some 0 ∧ (heldS 15).rf (F.HANDLE_D_GEN 0 63) = 0xFFFF ∧ (heldS 15).rf (F.HANDLE_ARR_ARR 0 63) = 5 ∧ ((heldS 15).core 0).holds.length = 15 ∧ ((heldS 16).core 0).holds.length = 16 ∧
    (heldS 15).rf (F.HANDLE_ARR_ARR 0 63) < descField (heldD 6 0xFFFF) 0x10 4 ∧ (heldS 15).issues 0 (heldD 6 0xFFFF) = true := by decide +kernel
def attD (r : Nat) : BitVec 256 := cd 0 [(2, 1), (4, 9), (8, 7), (0xC, r)]
def attS : State := core0 [] |>.setCore 0 { (core0 []).core 0 with runs := [⟨1, desc [(0, 2)], [], 4, 4, none, [], 0, 0⟩] }
theorem witness_Attach : signalDecode (attD 1) = true ∧ bit (descField (attD 1) 2 1) 0 = true ∧ attS.descOf 0 = 2 ∧ (attS.core 0).runs.find? (fun r => r.desc == attS.descOf 0 - 1) = some ⟨1, desc [(0, 2)], [], 4, 4, none, [], 0, 0⟩ ∧
    (attS.core 0).runs.find? (fun r => r.desc == attS.descOf 0 - 2) = none ∧ bits (descField (desc [(0, 2)]) 1 1) 0 4 = 0 := by decide +kernel
def remD (k : Nat) : BitVec 256 := cd 0 [(2, 4), (4, 9), (8, 7), (0x18, k)]
/-- A module at position 0 of an arc of three. -/
def arcS (l : List (Fld × Nat)) : State := core0 ([(F.CHAIN_ARC_LEN, 3)] ++ l)
theorem witness_RemoteSignal : signalDecode (remD 0) = true ∧ bit (descField (remD 0) 2 1) 2 = true ∧ (arcS []).isMember 0 = true ∧ (arcS []).isMember 2 = true ∧ (arcS []).isMember 3 = false := by decide +kernel

def flyS (n a v : Nat) (neg : Bool) : State := { core0 [(F.CLASP_VALUE_VALUE n, v)] with clasp := ⟨[⟨1, 1, false, 0⟩, ⟨n, a, neg, 3⟩], [], []⟩ }
theorem witness_ClaspApply : (flyS 65535 1 0xFFFFFFFF false).clasp.flying[1]? = some ⟨65535, 1, false, 3⟩ := by decide +kernel
theorem witness_ClaspFlags : (core0 [(F.CLASP_FLAG_OVF 65535, 1)]).claspFlagged 65535 = true := by decide +kernel

def wD (op n k : Nat) : BitVec 256 := cd op [(4, n), (8, k)]
def wS (v : Nat) : State := core0 [(F.CLASP_VALUE_VALUE 40000, v)]
theorem witness_ClaspWait : waitDecode (wD 1 40000 5) 1 = true ∧ waitDecode (wD 2 40000 5) 2 = true ∧ (∀ h, (wS 5).claspHost 40000 = some h → h = 0) ∧ 5 ≤ (wS 5).claspValue 40000 ∧ (wS 5).claspFlagged 40000 = false ∧
    (wS 4).claspValue 40000 < 5 ∧ (∀ t ∈ (wS 5).front.tasks, t.phase ≠ .waiting) ∧ (wS 4).curTask 0 = some task0 := by decide +kernel
def locS : State := let s := core0 []; match groupOf 40000 with | some (d, g) => s.wf (F.CLASP_GROUP_HOST g d) 7 | none => s
theorem witness_Misuse : locS.claspHost 40000 = some 7 ∧ waitDecode (wD 1 40000 5) 1 = true := by decide +kernel
/-- Another core's task waits for the same Clasp with an ACQUIRE of its own. -/
def acqS : State := { wS 5 with front := { (wS 5).front with tasks := [task0, { task0 with id := 6, core := 1, phase := .waiting, wait := .clasp 40000 9 true false }] } }
theorem witness_AcquireMisuse : acqS.issues 0 (wD 2 40000 5) = true ∧ (∃ t ∈ acqS.front.tasks, t.phase = .waiting ∧ ∃ a v, t.wait = .clasp 40000 a true v ∧ (v = false ∨ descMayVary (wD 2 40000 5) = false)) ∧
    waitDecode (wD 2 40000 5) 2 = true :=
  ⟨by decide +kernel, ⟨{ task0 with id := 6, core := 1, phase := .waiting, wait := .clasp 40000 9 true false }, by decide +kernel, rfl, 9, false, rfl, .inl rfl⟩, by decide +kernel⟩
def watS (v : Nat) : State := core0 [(F.CLASP_VALUE_VALUE 9, v), (F.CLASP_WATCH_NUM_NUM 31, 9), (F.CLASP_WATCH_TARGET_TARGET 31, 5)]
theorem witness_WatchArm : (watS 5).rf (F.CLASP_WATCH_TARGET_TARGET 31) ≤ (watS 5).claspValue ((watS 5).rf (F.CLASP_WATCH_NUM_NUM 31)) ∧ (watS 5).claspFlagged 9 = false ∧ (watS 4).claspValue ((watS 4).rf (F.CLASP_WATCH_NUM_NUM 31)) < 5 ∧
    (watS 4).rf (F.CLASP_WATCH_TARGET_TARGET 31) = 5 := by decide +kernel
def lendS : State := let s := core0 [(F.CLASP_LEND_TICKS_TICKS, 1)]; { s with front := { s.front with tasks := [{ task0 with phase := .waiting, wait := .clasp 9 5 false false }] } }
theorem witness_CoreLend : lendS.curTask 0 = some { task0 with phase := .waiting, wait := .clasp 9 5 false false } ∧ lendS.rf F.CLASP_LEND_TICKS_TICKS ≠ 0 ∧ (lendS.core 0).lending = false := by decide +kernel

def spD (f id : Nat) : BitVec 256 := cd 4 [(2, f), (4, 77), (8, id)]
theorem witness_SpanArrive : claspDecode (spD 16 15) 4 = true ∧ descZero (spD 16 15) 0xC 32 = true ∧ ((core0 []).span 15 true).arrived.contains ((core0 []).rf F.SETUP_IDENT_MODULE_ID) = false ∧
    (core0 []).issues 0 (spD 16 15) = true := by decide +kernel
def spS : State := { arcS [] with clasp := ⟨[], [], [⟨15, true, [0, 1, 2], some 77⟩]⟩ }
theorem witness_SpanCheck : (spS.span 15 true).clasp = some 77 ∧ spS.spanSize (spS.span 15 true).job ≤ (spS.span 15 true).arrived.length := by decide +kernel
def saM : List Byte := msg 20 [(0, 0x0B), (4, 2), (0x10, 15), (0x11, 1)]
def saS : State := { arcS [] with clasp := ⟨[], [], [⟨15, true, [0, 1], some 77⟩]⟩ }
theorem witness_SpanArriveMsg : saS.msgRefused 1 saM = false ∧ msgStep saM = saS.rf F.CHAIN_STEP_STEP ∧ leAt saM 0x10 1 = 15 ∧ saS.inSpan (msgSrc saM) (bit (leAt saM 0x11 1) 0) = true ∧ (saS.span 15 true).arrived.contains (msgSrc saM) = false := by decide +kernel
def csM (st : Nat) : List Byte := msg 24 [(0, 9), (4, 2), (6, 0), (8, st), (0x10, 9), (0x14, 5)]
def csS : State := arcS [(F.CLASP_FLAG_CHAIN_OK 9, 1), (F.CHAIN_STEP_STEP, 10)]
theorem witness_ChainSignal : csS.msgRefused 1 (csM 10) = false ∧ msgDst (csM 10) = csS.rf F.SETUP_IDENT_MODULE_ID ∧ leAt (csM 10) 0x10 4 = 9 ∧ csS.flag (F.CLASP_FLAG_CHAIN_OK 9) = true ∧ csS.isMember (msgSrc (csM 10)) = true ∧
    msgStep (csM 10) = csS.rf F.CHAIN_STEP_STEP ∧ csS.clasp.future = [] := by decide +kernel

def csF (dst n : Nat) : List Byte := msg 24 [(0, 9), (4, 2), (6, dst), (8, 10), (0x10, n), (0x14, 5)]
theorem witness_ChainSignal_other : csS.msgRefused 1 (csF 1 9) = false ∧ msgDst (csF 1 9) ≠ csS.rf F.SETUP_IDENT_MODULE_ID ∧ csS.msgRefused 1 (csF 0 8) = false ∧
    msgDst (csF 0 8) = csS.rf F.SETUP_IDENT_MODULE_ID ∧ csS.flag (F.CLASP_FLAG_CHAIN_OK 8) = false ∧ csS.rf F.CHAIN_STEP_STEP < msgStep (csM 11) ∧ msgStep (csM 9) < csS.rf F.CHAIN_STEP_STEP := by decide +kernel

/-- A VECTOR descriptor: an OP over 2 rows of 3, handles 3, 4, 5 into 6, the format of D and further fields. -/
def vd (op fd len : Nat) (l : List (Nat × Nat)) : BitVec 256 := desc ([(0, 1), (1, op), (3, fd * 16), (0xC, 3), (0xD, 4), (0xE, 5), (0xF, 6), (0x10, len - 1), (0x14, 1), (0x18, 0x3F000000)] ++ l)
/-- Some FP32 numbers in the buffers of handles 3 to 6, rows of 64 words. -/
def words (l : List Nat) : List Nat := l.flatMap (fun w => (natLe w 4).map (·.toNat))
def vs : State :=
  let s := core0 ((hnd 3 0x100 127 ++ hnd 4 0x200 127 ++ hnd 5 0x300 127 ++ hnd 6 0x400 127) ++ [3, 4, 5, 6].map (fun h => (F.HANDLE_C_ROWLEN 0 h, 64)) ++ [(F.CORE_COLMAP_WIDTH 0, 64)])
  let put1 := fun (s : State) (h : Nat) (l : List Nat) => put s (s.hAddr 0 h 0) (words l)
  let s := put1 s 3 [0x3F800000, 0x40000000, 0xC0400000]; let s := put s (s.hAddr 0 3 256) (words [0x7F800000, 0x80000000, 0x3E800000])
  let s := put1 s 4 [0x3F000000, 0xBF800000, 0x40A00000]; let s := put s (s.hAddr 0 4 256) (words [0x7FC00001, 0x41200000, 0x42000000])
  let s := put1 s 5 [0x3F800000, 0x40000000, 0x40400000]
  put s (s.hAddr 0 6 0) (List.replicate 512 0xAA)
/-- The hypotheses a VECTOR statement asks of its descriptor. -/
def vecW (s : State) (op : Nat) (d : BitVec 256) : Bool :=
  let x := vecDesc d
  let dst := s.vecDest 0 x
  s.issues 0 d && vecZero d && x.op == op && x.ok && (!x.man || s.fmtEntryOk x.ent) && fmtOk dst.f && decide (s.hCbase 0 x.hd + (x.rows - 1) * s.rf (F.HANDLE_C_ROWLEN 0 x.hd) + x.outLen - 1 ≤ indexMax) &&
    (s.physOf 0 == some 0) && !s.hBusy 0 x.hd && s.vecDestFits 0 x dst && (blockLen dst.f == 0 || x.outLen % blockLen dst.f == 0) &&
    (let v := s.touchHandles 0 (x.sources.map (fun h => (h.1, true)) ++ [(x.hd, false)]); v.2 && (List.range x.rows).all (fun i => !v.1.vecPoison 0 x i)) &&
    x.sources.all (fun h => !s.hWritten 0 h.1 && s.vecFits 0 h.1 h.2.1 h.2.2 x.rows x.len &&
      (decide (s.hStart 0 h.1 + s.hBytes 0 h.1 ≤ s.hStart 0 x.hd) || (h.1 == x.hd && h.2.2 == 0 && h.2.1 == dst.f && blockLen dst.f == 0 && decide (8 ≤ elemBits dst.f))))
theorem witness_Vector : vecCommands.all (fun e => vecW vs e.1 (vd e.1 0 3 [])) = true := by decide +kernel
theorem witness_Vector_managed : vecW (vs.wf (F.FMT_ENT_CFG_VALID 2) 1) 1 (vd 1 0 3 [(7, 16), (0xA, 2)]) = true := by decide +kernel
theorem witness_Vector_inPlace : vecW vs 1 (desc [(0, 1), (1, 1), (0xC, 6), (0xD, 4), (0xE, 5), (0xF, 6), (0x10, 2), (0x14, 1)]) = true := by decide +kernel
theorem witness_MathNotAtIssue : ({ vs with front := { vs.front with tasks := [{ task0 with phase := .waiting }] } } : State).issues 0 0 = false := by decide +kernel
theorem witness_VectorFaults : vecZero 1 = true ∧ (vecDesc (desc [(0, 1), (1, 0xFF)])).op ≠ 1 ∧ (vecDesc (desc [(0, 1), (1, 1), (7, 16)])).ok = true ∧ vecZero (desc [(0, 1), (1, 1), (7, 16)]) = true ∧ vs.fmtEntryOk 0 = false ∧ vs.hValid 0 0 = false := by decide +kernel

/-- An ARRAY descriptor: byte 1, the format of C, handles 3 and 4 into 6, M, N, K, further fields. -/
def ad (b1 fc m n k : Nat) (l : List (Nat × Nat)) : BitVec 256 := desc ([(0, 0), (1, b1), (3, fc), (0xF, 3), (0x10, 4), (0x11, 6), (0x14, m - 1), (0x16, n - 1), (0x18, k - 1)] ++ l)
/-- The hypotheses an ARRAY statement asks of its descriptor, with DIRECT operands taken as `da` and `db`. -/
def arrW (s : State) (e : Bool) (d : BitVec 256) (acc : Nat) : Bool :=
  let x := arrayDesc d
  let w := s.rf (F.CORE_COLMAP_WIDTH 0)
  let g := geoOf x.mode w
  let ps := x.passes g
  let pa := s.operandA 0 x (if x.dirA then some [] else none)
  let pb := s.operandB 0 x (if x.dirB then some [] else none)
  let rl := s.rf (F.HANDLE_C_ROWLEN 0 x.hc)
  let v := s.touchHandles 0 ((if x.dirA then [] else [(x.ha, true)]) ++ (if x.dirB then [] else [(x.hb, true)]) ++ [(x.hc, false)])
  let ra := v.1.takeDirect 0 0 x.dirA false (directBytes x g pa.raw pa.moving ps.length)
  let rb := ra.2.takeDirect 0 0 x.dirB true (directBytes x g pb.raw pb.moving ps.length)
  let got := fun (o : PortOut) => match o with | .got l none => some l | _ => none
  s.issues 0 d && arrayZero d && x.ok && (x.stat == 3) == e && x.accOut == acc && (!x.manA || s.fmtEntryOk x.ea) && (!x.manB || s.fmtEntryOk x.eb) && (!x.manC || s.fmtEntryOk x.ec) &&
    (x.accOut != 0 || narrowOk (s.fmtC x) x.n (x.tn g)) && s.chainOk 0 d x ps.length && !tooWide x ps w && decide (s.hCbase 0 x.hc + (x.m - 1) * rl + x.n - 1 ≤ indexMax) && s.destFits 0 x (s.arrayDest 0 x) &&
    (x.dirA || !s.hWritten 0 x.ha && s.hValid 0 x.ha && decide (s.hStart 0 x.ha + s.hBytes 0 x.ha ≤ s.hStart 0 x.hc) && s.operandFits 0 x g (s.operandA 0 x none) true ps.length) &&
    (x.dirB || s.hValid 0 x.hb && decide (s.hStart 0 x.hb + s.hBytes 0 x.hb ≤ s.hStart 0 x.hc) && s.operandFits 0 x g (s.operandB 0 x none) false ps.length) &&
    !s.hBusy 0 x.hc && s.operandReady 0 0 x && (s.firstSlice 0 0 x).isNone && v.2 && (got ra.1).isSome && (got rb.1).isSome &&
    (List.range ps.length).all (fun p => !rb.2.passPoison 0 x g { pa with direct := if x.dirA then got ra.1 else none } { pb with direct := if x.dirB then got rb.1 else none } p (ps.getD p []))
/-- `vs` with a tile held for the core by the member `ad 0x88 0 2 3 2 []`. -/
def vsHeld : State := vs.setCore 0 { vs.core 0 with chain := some ⟨ad 0x88 0 2 3 2 [], 0, 1, some (List.replicate 6 0x40000000), [], none⟩ }
theorem witness_Array : (arrW vs false (ad 0x48 0 2 3 2 []) 1 && arrW vs false (ad 0x59 3 2 3 2 []) 1 && arrW vs false (ad 0x0B 1 2 3 2 []) 0 && arrW vs false (ad 0x88 0 2 3 2 []) 2 && arrW vs true (ad 0x4C 0 2 3 1 []) 1) = true := by
  decide +kernel
theorem witness_Array_continues : (arrW vsHeld false (ad 0xA8 0 2 3 2 []) 2 && arrW vsHeld false (ad 0x68 0 2 3 2 []) 1 && arrW vsHeld false (ad 0x28 0 2 3 2 []) 0 && (arrayDesc (ad 0x68 0 2 3 2 [])).accIn == 2) = true := by decide +kernel
/-- `vs` with a RUN that feeds array port B with n elements of 4,096 bytes from handle 7. -/
def vsDirect (n : Nat) : State :=
  let s := ((vs.wf (F.HANDLE_A_VALID 0 7) 1).wf (F.HANDLE_A_BASE 0 7) 0x4000).wf (F.HANDLE_B_LEN_M1 0 7) 0xFFF
  s.setCore 0 { s.core 0 with runs := [⟨0, 0, [msg 16 [(0, 1), (1, 1), (2, 7)], msg 16 [(0, 2), (1, 3)], msg 16 [(0, 3), (1, 4095)], msg 16 [(0, 4), (1, 0), (2, n - 1), (6, 4096), (11, 4096)]].map (fun l => BitVec.ofNat 128 (leAt l 0 16)), n, 0, none, [], 0, 0⟩] }
def dirD : BitVec 256 := ad 0x48 0 2 3 2 [(0x10, 64)]
theorem witness_Array_direct : arrW (vsDirect 4) false dirD 1 = true := by decide +kernel
theorem witness_ArrayFaults : arrayZero (desc [(0x12, 1)]) = false ∧ (arrayDesc (ad 0x68 0 2 3 2 [])).ok = true ∧ (arrayDesc (ad 0x68 0 2 3 2 [])).accIn = 2 ∧ (arrayDesc (ad 0x49 0 2 3 2 [])).mode ≠ 0 ∧
    (vs.wf (F.CORE_COLMAP_WIDTH 0) 63).rf (F.CORE_COLMAP_WIDTH 0) < 64 := by decide +kernel

def cvS : State := let s := core0 [(F.CASKET_POOL_BASE_STRIPE, 70000), (F.CASKET_POOL_SIZE_STRIPES, 2000), (F.CASKET_SLOT_STRIPES 13, 32)]; put s 0x020003000000 ((List.range 64).map (· * 7 % 256))
def cvD (f fs fd n conv dst : Nat) : BitVec 256 := desc [(0, 4), (1, 0), (2, fs), (3, fd), (6, f), (8, conv), (0xC, if f = 2 then 0x3000000 else 0x020003000000), (0x12, dst), (0x18, n)]
theorem witness_Convert : convertDecode (cvD 0 0 1 16 0 0x3000) = true ∧ bit (descField (cvD 0 0 1 16 0 0x3000) 6 1) 0 = false ∧ cvS.castReach 0x3000 (tensorBytes (cvS.convertDst (cvD 0 0 1 16 0 0x3000)).1 16) = true ∧ cvS.castReach 0x020003000000 (tensorBytes 0 16) = true ∧
    cvS.poisonedAt 0x020003000000 64 = false ∧ (cvS.castStage 0 32).1.isSome = true := by decide +kernel
theorem witness_ConvertBad : convertDecode (cvD 1 0 1 16 0 0x3000) = true ∧ bit (descField (cvD 1 0 1 16 0 0x3000) 6 1) 0 = true ∧ cvS.fmtEntryOk 0 = false ∧ (cvS.setPoison 0x020003000010 true).poisonedAt 0x020003000000 64 = true ∧
    ((cvS.wf (F.CASKET_SLOT_STRIPES 13) 0).castStage 0 32).1.isNone = true ∧ convertDecode 0 = false ∧ cvS.castReach 0x021000000000 (tensorBytes 1 16) = false ∧ convertDecode (cvD 0 0 1 16 0 0x021000000000) = true := by decide +kernel
def trD (es rows cols sp dp src dst : Nat) : BitVec 256 := desc [(0, 4), (1, 1), (2, es), (4, rows - 1), (6, cols - 1), (8, sp), (0xC, src), (0x12, dst), (0x18, dp)]
theorem witness_Transpose : (descHeader (trD 0 2 4 3 2 0x020003000000 0x020003000100) 4 && descField (trD 0 2 4 3 2 0x020003000000 0x020003000100) 1 1 == 1 && descZero (trD 0 2 4 3 2 0x020003000000 0x020003000100) 0x1B 32 &&
    !rangesMeet 0x020003000000 (rowsExtent 2 3 2) 0x020003000100 (rowsExtent 4 2 1) && cvS.inDynamic 0x020003000000 5 && cvS.inDynamic 0x020003000100 7 && cvS.poison.isEmpty && (cvS.castStage 0 (64 * 64 * 4)).1.isSome) = true := by decide +kernel
theorem witness_TransposeBad : cvS.castReach 0x020003000000 (rowsExtent 2 3 2) = true ∧ cvS.castReach 0x021000000000 (rowsExtent 4 2 1) = false ∧ cvS.castReach 0x3000 (rowsExtent 4 2 1) = true ∧ cvS.inDynamic 0x3000 (rowsExtent 4 2 1) = false := by decide +kernel

/-- A Bead of 16 elements in BF16. -/
def be (id : Nat) : BeadEntry := ⟨id, 1, 2, 0, 0, false, 0, false, 16, 1⟩
/-- A module at position 0 of an arc of n, home of Bead 7, with room for the streams; handle 3 holds 16 words. -/
def gs (n : Nat) (l : List (Fld × Nat)) : State :=
  let s := core0 ([(F.CHAIN_ARC_LEN, n), (F.CASKET_POOL_BASE_STRIPE, 70000), (F.CASKET_POOL_SIZE_STRIPES, 20000), (F.GRAD_REGION_BASE_GIB 0, 1), (F.GRAD_REGION_BASE_GIB 1, 2), (F.GRAD_REGION_BASE_GIB 2, 3)] ++
    (List.range 32).map (fun i => (F.CASKET_SLOT_STRIPES i, 64)) ++ hnd 3 0x100 15 ++ l)
  let s := put s (storeBase 0 + 0x400) (words ((List.range 16).map (fun i => 0x3F800000 + i * 0x10000)))
  { s with setup := { s.setup with beads := [be 7], arcBeads := [(0, [be 7]), (1, [be 9])] } }
def gcD (bead parts e0 run runs stride round : Nat) : BitVec 256 := desc [(0, 4), (1, 2), (2, 3), (3, parts - 1), (4, bead), (8, e0), (0xC, run), (0x10, runs), (0x14, stride), (0x1C, round)]
def gcS : State := { gs 1 [] with grad := { State.reset.grad with contribs := [⟨7, 5, 3, 1, [(0, 2)], [(0, 0x40000000), (1, 0x40400000)], 0, []⟩] } }
def gcDd : BitVec 256 := gcD 7 3 2 4 2 8 5
theorem witness_Gcontrib : (gcS.physOf 0 == some 0 && gcS.issues 0 gcDd && (gcS.touch 0 (gcS.hStart 0 3) 32 true).2 && (gcS.firstBackward 1 != some 5 || (gcS.carryFor 7 false).isNone) && (gcS.contrib 7 6).isNone && gcontribDecode gcDd && !gcS.hWritten 0 3 && gcS.hValid 0 3 && (gcS.findBead 7).isSome && (partRuns gcDd).all (fun r => decide (r.1 + r.2 ≤ 16)) &&
    !runsMeet (partRuns gcDd) [(0, 2)] && !runsSelf (partRuns gcDd) && !gcS.poisonedAt (gcS.hAddr 0 3 0) 32 && (match (gcS.request 8 8 (gradOwner 0)).1 with | .granted _ => true | _ => false)) = true := by decide +kernel
def gcW : State := { gs 1 [] with grad := { State.reset.grad with contribs := [⟨7, 5, 1, 1, [(0, 16)], (List.range 16).map (fun i => (i, 0x40000000)), 0, []⟩] } }
theorem witness_GcontribLate : gcW.issues 0 (gcD 7 1 0 1 1 0 5) = true ∧ gcW.hWritten 0 3 = false ∧ gcW.hValid 0 3 = true ∧ 4 ≤ gcW.hBytes 0 3 ∧ runsMeet (partRuns gcDd) [(3, 1)] = true ∧ runsSelf (partRuns (gcD 7 1 0 2 2 0 5)) = true ∧ gcW.findBead 99 = none ∧
    (∃ r ∈ partRuns (gcD 7 3 15 2 1 0 5), 16 < r.1 + r.2) ∧ (gcW.contrib 7 5).map Contrib.whole = some true ∧ gcontribDecode (gcD 7 1 0 1 1 0 5) = true := by decide +kernel
theorem witness_GradAddAlone : (!gcW.evaluates && (gcW.contrib 7 5).map Contrib.whole == some true && (gcW.contrib 7 5).map (·.late) == some [] && gcW.accReady 1 7 0 5 && (gcW.contrib 7 5).isSome && gcW.findBead 7 == some (0, 0, be 7) && decide (0 < piecesOf 16 (gcW.useLen (be 7))) && decide (gcW.arcLen ≤ 1) && !gcW.grad.started.contains (7, 5, 0)) = true := by decide +kernel
/-- A gradient Bead of piece 0 of Bead 7 in round 5, landed and checked at stripe 70010. -/
def gHead : List Byte := msg 80 [(0, 0x100), (2, 1), (3, 1), (4, 7), (0x10, 512), (0x30, 5)]
def gL (ck : Bool) (c : Option Nat) : Landing := ⟨1, gHead, [], 70010, c, ck, 0, 0⟩
def gcA : State := let s := put { gcW.wf F.CHAIN_ARC_LEN 3 with chain := { gcW.chain with landings := [gL true none] } } (stripeAddr 70010) ((List.range 32).map (fun i => if i % 2 = 1 then 0x3F else 0x80)); s.wf F.GRAD_PENDING_PIECES 2
theorem witness_GradAddHome : (!gcA.evaluates && (gcA.contrib 7 5).map Contrib.whole == some true && (gcA.contrib 7 5).map (·.late) == some [] && gcA.accReady 1 7 0 5 && decide (1 < gcA.arcLen) && landsAt (gcA.beadPath (gcA.servedBy 0) 0) (gcA.rank gcA.pos) == 0 && lastLanding (gcA.beadPath (gcA.servedBy 0) 0) gcA.arcLen != 0 && gcA.pieceHere 7 5 0 == some (gL true none)) = true := by decide +kernel
theorem witness_AccReady : gcA.accReady 1 7 0 0 = true := by rfl
/-- A module at position 0 of an arc of 3 whose contribution to Bead 9, home position 1, is whole. -/
def gcO : State := { gs 3 [] with locket := { State.reset.locket with key0 := some (List.replicate 32 7) }, grad := { State.reset.grad with contribs := [⟨9, 5, 1, 1, [(0, 16)], (List.range 16).map (fun i => (i, 0x40000000)), 0, []⟩] } }
theorem witness_GradAddOrigin : (let path := gcO.beadPath (gcO.servedBy 1) 0
    let r := gcO.request 1 (beadStripes 512) (pieceOwner 9 5 0 false)
    gcO.findBead 9 == some (1, 0, be 9) && !gcO.evaluates && (gcO.contrib 9 5).map Contrib.whole == some true && decide (0 < piecesOf 16 (gcO.useLen (be 9))) && landsAt path (gcO.rank gcO.pos) == lastLanding path gcO.arcLen &&
    (nth path (landsAt path (gcO.rank gcO.pos)) (0, 0)).2 == 1 && roundUp (2 * (pieceRange 16 (gcO.useLen (be 9)) 0).2) 512 == 512 && gcO.grad.started.isEmpty && !gcO.codesPieces &&
    (match r.1 with | .granted a => decide (stripeAddr (a + beadStripes 512) ≤ 0x020100000000) | _ => false) &&
    (match (r.2.request 3 1 (pieceOwner 9 5 0 true)).1 with | .granted b => decide (stripeAddr (b + 1) ≤ 0x020100000000) | _ => false)) = true := by decide +kernel
theorem witness_GradAddEvaluates : ({ gcO with pipe := { gcO.pipe with evalStep := some true } } : State).evaluates = true := by rfl
/-- A piece of Bead 7 waits at its home. -/
def lateH : State := { gs 3 [(F.GRAD_LATE_WINDOW_TICKS, 1)] with chain := { State.reset.chain with landings := [gL true none] } }
theorem witness_GradLateHome : (lateH.findBead 7 == some (0, 0, be 7) && (gL true none).checked && lateH.accReady 1 7 0 5 && landsAt (lateH.beadPath (lateH.servedBy 0) 0) (lateH.rank lateH.pos) == 0 && (lateH.contrib 7 5).isNone) = true := by decide +kernel
/-- A piece of Bead 9, home position 1, waits here with its ciphertext. -/
def lateS (w : Nat) : State := { gs 3 [(F.GRAD_LATE_WINDOW_TICKS, w)] with chain := { State.reset.chain with landings := [{ gL true (some 70020) with head := msg 80 [(3, 1), (4, 9), (0x30, 5)] }] } }
theorem witness_GradLate : ((lateS 1).findBead 9 == some (1, 0, be 9) && (lateS 1).rf F.GRAD_LATE_WINDOW_TICKS != 0 && landsAt ((lateS 1).beadPath ((lateS 1).servedBy 1) 0) ((lateS 1).rank (lateS 1).pos) != 0 && (lateS 0).rf F.GRAD_LATE_WINDOW_TICKS == 0) = true := by decide +kernel

def gclD : BitVec 256 := desc [(0, 4), (1, 3)]
theorem witness_GcloseBad : ({ gs 1 [] with grad := { State.reset.grad with closed := true } } : State).grad.closed = true := by rfl
theorem witness_Gclose : (gs 1 []).issues 0 gclD = true ∧ descHeader gclD 4 = true ∧ descZero gclD 2 32 = true ∧ (gs 1 []).evaluates = false ∧ (gs 1 []).grad.closed = false ∧ (gs 1 []).roundCount ≤ (gs 1 []).chain.round := by decide +kernel
def stS : State := put { gs 1 [] with grad := { State.reset.grad with closed := true, closing := some 0 } } (2 ^ 30) (words [0x40000000, 0x7F800000])
theorem witness_StatisticsClose : stS.grad.closing.isSome = true ∧ stS.grad.sent = false ∧ stS.rf F.GRAD_PENDING_PIECES = 0 := by decide +kernel
def recOf (id sq nf : Nat) : Nat × List Byte := (id, msg 0x240 [(0, 0x100), (2, id), (8, sq), (0x10, nf)])
def scS (nf : Nat) (l : List (Fld × Nat)) : State := { gs 2 ([(F.GRAD_CLIP_MAX_MAXNORM, 0x3F800000)] ++ l) with grad := { State.reset.grad with closed := true, closing := some 0, sent := true, records := [recOf 1 0x4010000000000000 nf, recOf 0 0x4014000000000000 0] } }
theorem witness_SpanCloseComplete : (scS 0 []).grad.sent = true ∧ (scS 0 []).flag F.FMT_VERDICT_CLOSED = false ∧ (scS 0 []).spanSize ((scS 0 []).flag F.GRAD_CFG_SPAN) = (scS 0 []).grad.records.length ∧
    ({ scS 0 [] with grad := { (scS 0 []).grad with records := [] } }).grad.records.length < (scS 0 []).spanSize ((scS 0 []).flag F.GRAD_CFG_SPAN) := by decide +kernel
def losD : BitVec 256 := desc [(0, 5), (1, 0xA), (4, 3), (8, 14)]
theorem witness_Loss : (gs 1 []).issues 0 losD = true ∧ ((gs 1 []).touch 0 ((gs 1 []).hStart 0 3 + 56) 8 true).2 = true ∧ (gs 1 []).poisonedAt ((gs 1 []).hAddr 0 3 56) 8 = false ∧ (gs 1 []).hWritten 0 3 = false ∧ controlHeader losD 0xA = true ∧ descZero losD 0xC 32 = true ∧ (gs 1 []).hValid 0 3 = true ∧ 14 * 4 + 8 = (gs 1 []).hBytes 0 3 ∧ (f32 (BitVec.ofNat 32 ((gs 1 []).rle ((gs 1 []).hAddr 0 3 56) 4))).finite = true := by decide +kernel


/-- An update record of Bead 7 for this step. -/
def updRec (fl : Nat) (bad : Nat) : List Byte :=
  let body := msg 64 ((List.range 16).map (fun i => (2 * i, 0x3F80 + i)))
  let h := [(0, 0x100), (2, 1), (3, fl), (4, 7), (0xC, 16), (0x10, crc32c body + bad)]
  msg 64 (h ++ [(0x3C, crc32c (msg 60 h))]) ++ body
def updS (fl bad : Nat) (l : List (Fld × Nat)) : State :=
  let s := gs 1 ([(F.FMT_VERDICT_CLOSED, 1), (F.GRAD_CLASP_A_UPD, 50), (F.GRAD_CLASP_B_DONE, 51), (F.CLASP_VALUE_VALUE 50, 1)] ++ l)
  let s := s.store (2 * 2 ^ 30) (updRec fl bad)
  { s with setup := { s.setup with beads := [be 7, be 8] }, locket := { s.locket with key0 := some (List.replicate 32 7) } }
theorem witness_UpdateRecordCast : ((updS 0 0 []).claspValue ((updS 0 0 []).rf F.GRAD_CLASP_A_UPD) < 2 ^ 32 - 1 && (updS 0 0 [(F.FMT_VERDICT_SKIP, 1)]).skipped && (updS 0 0 []).flag F.FMT_VERDICT_CLOSED && (updS 0 0 []).rf F.GRAD_STATUS_PHASE != 5 && !(updS 0 0 []).skipped && !(updS 0 0 []).imageStep && (updS 0 0 []).rf F.GRAD_UPD_DONE_COUNT == 0 &&
    (updS 0 0 []).claspValue ((updS 0 0 []).rf F.GRAD_CLASP_A_UPD) == 1 && (match ((updS 0 0 []).request 13 1 ⟨.cast, 0⟩).1 with | .granted _ => true | _ => false) && (updS 0 0 []).updGood (be 7) (updRec 0 0) && !(updS 0 0 []).updGood (be 7) (updRec 0 1) &&
    (updS 0 0 []).updGood (be 7) (updRec 1 0) && bit (leAt (updRec 1 0) 3 1) 0 && min (beadStripes (be 7).source) ((updS 0 0 []).rf (F.CASKET_SLOT_STRIPES 13)) == 2) = true := by decide +kernel
theorem witness_UpdTarget : (updS 0 0 []).updTarget 0 = some (2 ^ 31, (updS 0 0 []).ownShard, 0, be 7) ∧ ((updS 0 0 []).updTarget 1).isSome = true := by
  constructor <;> rfl

/-- Slot 5 in a state with context 9: rank 1, one tensor of 4 by 4, no scales. -/
def chS (l : List (Fld × Nat)) : State :=
  let s := core0 (hnd 3 0x100 15 ++ [(slotFld 5 0 0 4, 3), (slotFld 5 0xC 0 18, 9), (slotFld 6 0 0 4, 3), (slotFld 6 0xC 0 18, 9), (F.CHARM_TSET_COUNT 0, 1), (F.CHARM_TENT_DIN_DIM 0, 8), (F.CHARM_TENT_DOUT_DIM 0, 4), (F.CHARM_REGION_BASE_GIB, 4), (F.CHARM_ACC_REGION_BASE_GIB, 5), (F.CHAIN_STEP_STEP, 77), (F.CHARM_ATTEMPT_COUNT, 65537)] ++ l)
  let s := put s (storeBase 0 + 0x400) (words ((List.range 16).map (fun i => 0x3F800000 + i * 0x10000)))
  put s (ctxAddr 9) [3, 0, 0, 0, 0, 0, 0, 0, 0, 0, 0, 0, 2, 0, 0, 0, 2, 0, 0, 0, 3, 0, 0, 0, 2]
def caD2 (part off : Nat) : BitVec 256 := desc [(0, 5), (1, 0xB), (2, 5), (4, 0), (5, part), (6, 3), (8, off)]
def chA : State := put (chS []) ((chS []).hAddr 0 3 48) [2, 1]
theorem witness_CharmAddr : (chA.issues 0 (caD2 1 48) && chA.issues 0 (desc [(0, 5), (1, 0xB), (2, 7), (5, 1), (6, 3)]) && (chA.touch 0 (chA.hStart 0 3 + 48) 16 true).2 && controlHeader (caD2 1 48) 0xB && descZero (caD2 1 48) 0xC 32 && chA.slotState 5 != slFree && decide (0 < chA.ctxTensors (chA.slotVariant 5)) && (chA.ctxPart (chA.slotVariant 5) 0 1 (chA.ctxElem (chA.slotVariant 5))).isSome &&
    !chA.hBusy 0 3 && chA.hValid 0 3 && 48 + 16 == chA.hBytes 0 3 && !chA.poisonedAt (chA.hAddr 0 3 48) 16 && chA.rle (chA.hAddr 0 3 48) 1 == 2 && chA.slotState 7 == slFree) = true := by decide +kernel
def cgD (k first cnt last : Nat) : BitVec 256 := desc [(0, 5), (1, 0xC), (2, k), (4, 0), (5, 1 + 128 * last), (6, 3), (8, 16 - cnt), (0xC, first), (0x10, cnt)]
theorem witness_Cgacc : (let v := (chS []).touchHandles 0 [(3, true)]; v.2 && !(v.1.meet .none).poisonedAt (v.1.cgaccSrc 0 (cgD 5 0 4 1)) 16 && (chS []).issues 0 (cgD 5 0 4 1) && (chS []).issues 0 (cgD 6 0 4 1) && (v.1.meet .none).charmTurn 9 0 1 ((v.1.meet .none).charmSlot 5) && !(v.1.meet .none).charmTurn 9 0 1 ((v.1.meet .none).charmSlot 6) && cgaccDecode (cgD 5 0 4 1) && !(chS []).hWritten 0 3 && (chS []).cgaccPart (cgD 5 0 4 1) == some 4096 && (chS []).cgaccPart (cgD 6 0 4 1) == some 4096 && (chS []).hValid 0 3 && decide (4 * 16 ≤ (chS []).hBytes 0 3) &&
    (chS []).charmTurn 9 0 1 ((chS []).charmSlot 5) && !(chS []).charmTurn 9 0 1 ((chS []).charmSlot 6) && (chS []).cgaccPart (cgD 5 1 4 1) == none) = true := by decide +kernel
def chH (k : Nat) : State := { chS [] with charm := { State.reset.charm with held := [(0, 5, cgD k 0 4 1)] } }
theorem witness_CgaccRelease : ((chH 5).touchHandles 0 [(3, true)]).2 = true ∧ (chH 5).charm.held.find? (fun e => e.1 == 0) = some (0, 5, cgD 5 0 4 1) ∧ (chH 5).ctxPart ((chH 5).slotVariant 5) 0 1 4 = some (4096, 4) ∧ (chH 5).charmTurn ((chH 5).slotVariant 5) 0 1 ((chH 5).charmSlot 5) = true ∧ (chH 6).charmTurn ((chH 6).slotVariant 6) 0 1 ((chH 6).charmSlot 6) = false := by decide +kernel

/-- A commit record for image slot 0 of step 99. -/
def comRec : List Byte := let h := msg 0x1FC [(2, 0), (4, 99)]; h ++ natLe (crc32c h) 4
def comS (l : List (Fld × Nat)) (state : Nat) : State :=
  let s := gs 1 ([(F.HEALTH_CAMEO_CFG_RESTORE_CLASP, 60), (F.CLASP_VALUE_VALUE 60, 1), (F.HEALTH_CAMEO_REGION_BASE_GIB, 8)] ++ l)
  let s := (s.store (s.cameoRecords + 2 * 1048576) comRec).store (s.cameoRecords + 0xFFFFC) (natLe state 4)
  { s with health := { s.health with cameo := { s.health.cameo with commit := some comRec, got := [] } } }
theorem witness_CameoRefused : (comS [] 0).commitReason [1] [] true = some 1 ∧ 0 < (comS [] 0).claspValue ((comS [] 0).rf F.HEALTH_CAMEO_CFG_RESTORE_CLASP) := by decide +kernel
theorem crcShift_lt (k c : Nat) (h : c < 2 ^ 32) : crcShift k c < 2 ^ 32 := by
  induction k generalizing c with
  | zero => exact h
  | succ k ih =>
    rw [crcShift]
    refine ih _ ?_
    split
    · exact Nat.xor_lt_two_pow (by omega) (by decide)
    · omega
theorem crc32c_lt (l : List Byte) : crc32c l < 2 ^ 32 := by
  have h : ∀ (l : List Byte) (c : Nat), c < 2 ^ 32 → l.foldl crcByte c < 2 ^ 32 := by
    intro l
    induction l with
    | nil => exact fun c h => h
    | cons b l ih => exact fun c h => ih _ (crcShift_lt 8 _ (Nat.xor_lt_two_pow h (Nat.lt_trans b.isLt (by decide))))
  exact Nat.xor_lt_two_pow (h l _ (by decide)) (by decide)
/-- A list of bytes with its CRC after it. -/
theorem crc_ends (l : List Byte) (n : Nat) (h : l.length = n) : leAt (l ++ natLe (crc32c l) 4) n 4 = crc32c ((l ++ natLe (crc32c l) 4).take n) := by
  subst h
  rw [leAt, List.drop_left, List.take_left, List.take_of_length_le (by simp), leNat_natLe]
  exact Nat.mod_eq_of_lt (crc32c_lt l)
/-- A commit record of slot 0 for step 99. -/
def okRec : List Byte := let h := natLe (99 * 2 ^ 32) 0x1FC; h ++ natLe (crc32c h) 4
/-- A holder of a Cameo whose commit record has landed. -/
def okS0 : State :=
  let s := { State.reset with health := { State.reset.health with cameo := { State.reset.health.cameo with commit := some okRec } } }
  ([(F.HEALTH_CAMEO_REGION_BASE_GIB, 8), (F.HEALTH_CAMEO_CFG_RESTORE_CLASP, 60), (F.CLASP_VALUE_VALUE 60, 1)].foldl (fun (s : State) e => s.wf e.1 e.2) s).store (134 * 2 ^ 30 + 0x200000) okRec
/-- The same with the new state record, of which nothing but its CRC need be written. -/
def okS : State := okS0.store (134 * 2 ^ 30 + 0xFFFFC) (natLe (crc32c (okS0.rbs (134 * 2 ^ 30) 0xFFFFC)) 4)
theorem witness_CommitRecord : okS.health.cameo.commit = some okRec ∧ 0 < okS.claspValue (okS.rf F.HEALTH_CAMEO_CFG_RESTORE_CLASP) ∧ okS.rbs (okS.cameoRecords + 2 * 1048576) 512 = okRec ∧
    ∀ c, okS.commitReason okRec (okS.rbs (okS.cameoRecords + okS.freeState * 1048576) 1048576) c = none := by
  have e0 : okS.cameoRecords + okS.freeState * 1048576 = 134 * 2 ^ 30 := by decide +kernel
  have e1 : okS.cameoRecords + 2 * 1048576 = 134 * 2 ^ 30 + 0x200000 := by decide +kernel
  refine ⟨rfl, by decide +kernel, ?_, ?_⟩
  · rw [e1, okS, rbs_store_out _ _ _ _ _ (by simp only [length_natLe]; omega)]
    have k := rbs_store_same (([(F.HEALTH_CAMEO_REGION_BASE_GIB, 8), (F.HEALTH_CAMEO_CFG_RESTORE_CLASP, 60), (F.CLASP_VALUE_VALUE 60, 1)].foldl (fun (s : State) e => s.wf e.1 e.2)
      { State.reset with health := { State.reset.health with cameo := { State.reset.health.cameo with commit := some okRec } } })) (134 * 2 ^ 30 + 0x200000) okRec
    rwa [show okRec.length = 512 by simp [okRec]] at k
  · intro c
    have e : okS.rbs (134 * 2 ^ 30) 0x100000 = okS.rbs (134 * 2 ^ 30) 0xFFFFC ++ natLe (crc32c (okS.rbs (134 * 2 ^ 30) 0xFFFFC)) 4 := by
      have h : okS.rbs (134 * 2 ^ 30) 0xFFFFC = okS0.rbs (134 * 2 ^ 30) 0xFFFFC := rbs_store_out _ _ _ _ _ (by omega)
      have k := rbs_store_same okS0 (134 * 2 ^ 30 + 0xFFFFC) (natLe (crc32c (okS0.rbs (134 * 2 ^ 30) 0xFFFFC)) 4)
      rw [length_natLe] at k
      rw [show (0x100000 : Nat) = 0xFFFFC + 4 from rfl, rbs_add, h]
      exact congrArg _ k
    rw [e0, e, State.commitReason]
    have h1 : leAt okRec 0x1FC 4 = crc32c (okRec.take 0x1FC) := crc_ends _ _ (by simp)
    have h2 := crc_ends (okS.rbs (134 * 2 ^ 30) 0xFFFFC) 0xFFFFC (by simp)
    have h3 : bit (leAt okRec 2 1) 1 = false ∧ leAt okRec 2 1 % 2 = 0 ∧ leAt okRec 4 4 = 99 := by decide +kernel
    have h4 : okS.freeImage = 0 := by decide +kernel
    have h5 : okS.health.cameo.got = [] := rfl
    have h6 : ∀ p < 4, leAt okRec (8 + 4 * p) 4 = 0 := by decide +kernel
    simp only [h1, h2, h3, h4, h5]
    simp
    exact fun _ => h6

/-- A code table in slot 1: two codes of one bit. -/
def tabS (l : List (Fld × Nat)) : State := mk ([(F.CODEC_TABLE_LEN 0 1, 0x11), (F.CODEC_SLOT_GEN 1, 5)] ++ l)
theorem witness_CodecCommit : (tabS []).cdState 1 = cdEmpty ∧ (tabS []).tableGood 1 = true ∧ State.reset.tableGood 1 = false ∧ (tabS [(F.CODEC_SLOT_STATE 1, cdLoaded)]).cdState 1 ≠ cdEmpty ∧ (tabS [(F.CODEC_SLOT_STATE 1, cdLoaded)]).cdState 1 = cdLoaded := by decide +kernel

/-- Port p in a link state, with a minimum of lanes and some fields. -/
def ls (p st : Nat) (l : List (Fld × Nat)) : State := mk ([(F.LINK_STATUS_STATE p, st), (F.LINK_CFG_MIN_LANES p, 2), (F.CHAIN_ARC_LEN, 3)] ++ l)
theorem witness_LanesTrained : (ls 3 lkTrain []).lk 3 = lkTrain ∧ (ls 3 lkTrain []).rf (F.LINK_CFG_MIN_LANES 3) = popCount (3 : BitVec 32).toNat 32 ∧ popCount (1 : BitVec 32).toNat 32 < (ls 3 lkTrain []).rf (F.LINK_CFG_MIN_LANES 3) := by decide +kernel
/-- An EXCHANGE of versions, port and neighbour. -/
def exM (lo hi port pos stage st : Nat) : List Byte := msg 32 [(0, 1), (2, 2), (0x10, lo), (0x12, hi), (0x14, port), (0x15, pos), (0x16, stage), (0x17, st)]
theorem witness_Exchange : (ls 0 lkExchange []).msgRefused 0 (exM 0x100 0x101 1 31 0 2) = false ∧ leAt (exM 0x100 0x101 1 31 0 2) 0x14 1 = 1 ∧ leAt (exM 0x100 0x101 1 31 0 2) 0x15 1 % 32 = (ls 0 lkExchange []).faces 0 ∧
    commonVersion ((ls 0 lkExchange []).swiecLow 0) ((ls 0 lkExchange []).swiecHigh 0) 0x100 0x101 ≠ 0 ∧ commonVersion ((ls 0 lkExchange []).swiecLow 0) ((ls 0 lkExchange []).swiecHigh 0) 0x200 0x201 = 0 := by decide +kernel

def up (p rx tx : Nat) (l : List (Fld × Nat)) : State := ls p lkUp ([(F.LINK_LANES_RX_MASK p, rx), (F.LINK_LANES_TX_MASK p, tx)] ++ l)
theorem witness_LaneFail : (up 1 7 7 []).lk 1 = lkUp ∧ bit ((up 1 7 7 []).rf (F.LINK_LANES_RX_MASK 1)) 2 = true ∧ (up 1 7 7 []).rf (F.LINK_CFG_MIN_LANES 1) = popCount (7 - 2 ^ 2) 32 ∧ popCount (3 - 2) 32 < (up 1 3 3 []).rf (F.LINK_CFG_MIN_LANES 1) ∧ (up 1 7 7 []).msgRefused 1 (msg 20 [(0, 0xB), (2, 2), (0x10, 6)]) = false ∧
    popCount (useLanes 1 0x101 (7 &&& 6)) 32 = 2 := by decide +kernel
def wM (t mask : Nat) : List Byte := msg 32 [(0, t), (2, 2), (0x10, mask)]
def fnM (lost : Nat) : List Byte := msg 32 [(0, 7), (2, 2), (4, 1), (0x14, lost)]
def fnS (st : Nat) : State := up 1 7 7 [(F.FRONT_STATUS_STEP, st)]
theorem witness_FoldNotice : (fnS stepRun).msgRefused 1 (fnM 4) = false ∧ (fnS stepRun).arcPositions.contains 2 = true ∧ 2 ≠ (fnS stepRun).pos ∧ (fnS stepRun).chain.out.contains 2 = false ∧ bit (leAt (fnM 4) 0x14 4) 2 = true := by decide +kernel
def saM2 (st : Nat) : List Byte := msg 32 [(0, 6), (2, 2), (4, 1), (8, st), (0x10, 3)]
theorem witness_StepAbort : (fnS stepRun).msgRefused 1 (saM2 0) = false ∧ msgStep (saM2 0) = (fnS stepRun).rf F.CHAIN_STEP_STEP ∧ (fnS stepRun).chain.noticeSent = false ∧ msgStep (saM2 1) ≠ (fnS stepRun).rf F.CHAIN_STEP_STEP := by decide +kernel

def fl (t c len seq ack cr : Nat) : BitVec 64 := BitVec.ofNat 64 (t + 16 * c + 256 * len + 2 ^ 16 * seq + 2 ^ 32 * ack + 2 ^ 48 * cr)
def flS (x : LinkX) : State := (up 1 0xF 0xF [(F.LINK_CRED_CREDITS 1 3, 0xFFFFFF - 100)]).setLink 1 x
def rx0 : LinkX := { LinkX.reset with txSeq := 1, retry := [⟨fl 1 1 0 65534 0 0, []⟩, ⟨fl 1 1 0 65535 0 0, [1]⟩, ⟨fl 1 1 0 0 0 0, []⟩], rxSeq := 9, creditOut := [(1, 2)] }
theorem witness_FlitIn : ((flS rx0).flitIn 1 (fl 0 0 0 0 65535 (3 + 8 * 100)) 0).isSome = true ∧ ((flS rx0).flitIn 1 (fl 0 0 0 0 65533 0) 0).isSome = false ∧ lkExchange ≤ (flS rx0).lk 1 := by decide +kernel
def unit1 : List Byte := msg 96 [(0x10, 16)]
def fdH : BitVec 64 := fl 1 1 5 9 65534 0
theorem witness_FlitData : ((flS rx0).flitIn 1 fdH 0).isSome = true ∧ flSeq fdH = rx0.rxSeq ∧ unitLen 1 (unit1.take (flLen fdH)) = some 96 ∧ (unit1.take (flLen fdH)).length = 96 ∧ creditsFor 96 ≤ clsGet rx0.creditOut 1 := by decide +kernel
def sendX (nak : Bool) (re : List Flit) (rdy : List (Nat × TxUnit)) : LinkX := { rx0 with nakDue := nak, resend := re, ready := rdy }
theorem witness_FlitSlotSend : bit ((flS rx0).rf (F.LINK_LANES_TX_MASK 1)) 3 = true ∧ laneOf 0xF (flSeq (fl 1 1 0 65535 0 0)) = 3 ∧ laneOf 0xF rx0.txSeq = 1 ∧ ((State.fillClass 1 3 512 (flS (sendX false [] [(3, ⟨unit1, 0, false, false, none⟩)]))).pickClass 1) = some 3 ∧ (flS rx0).pickClass 1 = none ∧ (ls 1 lkAlign []).lk 1 < lkExchange := by decide +kernel

/-! ### The pipeline -/

/-- A stage of three, with buffers for the pipeline's streams, ranges to stash and park in, a context entry 9, and some fields. -/
def pipeS (stage : Nat) (l : List (Fld × Nat)) : State :=
  let e := msg 28 [(0, 1)]
  let s := mk ([(F.PIPE_SCHED_N_M1, 2), (F.SETUP_IDENT_STAGE, stage), (F.SETUP_IDENT_MODULE_ID, 32 * stage), (F.CHAIN_STEP_STEP, 6), (F.CASKET_POOL_BASE_STRIPE, 70000), (F.CASKET_POOL_SIZE_STRIPES, 20000),
    (F.CASKET_SLOT_STRIPES 4, 32), (F.CASKET_SLOT_STRIPES 5, 32), (F.CASKET_SLOT_STRIPES 6, 32), (F.PIPE_STASH_BASE_GIB, 1), (F.PIPE_STASH_SIZE_GIB, 1), (F.PIPE_PARK_BASE_GIB, 2), (F.PIPE_PARK_SIZE_GIB, 1),
    (F.CHAIN_ARC_LEN, 1), (F.CORE_ID_ENABLED 0, 1), (F.CORE_ID_LOGICAL 0, 0), (F.CHAIN_ARC_ARC_ID, 1), (F.PIPE_STATUS_VER 0, 0x0100), (F.PIPE_STATUS_VER 1, 0x0100), (F.LINK_STATUS_STATE 2, 6), (F.LINK_STATUS_STATE 3, 6)] ++ l)
  let s := s.store (ctxAddr 9) (e ++ natLe (crc32c e) 4)
  { s with front := { s.front with tasks := [task0] } }
def soD (ev : Nat) : BitVec 256 := desc [(0, 5), (1, 6), (2, 1023), (4, 0), (5, ev), (6, 1), (7, 0), (8, 1), (0xA, 77), (0xC, 3), (0xE, 4095), (0x10, 9), (0x14, 5)]
theorem witness_SlotOpen : ∀ e ∈ [0, 1], (pipeS 1 []).issues 0 (soD e) = true ∧ slotOpenDecode (soD e) = true ∧ descField (soD e) 2 2 = 1023 ∧ (pipeS 1 []).slotState 1023 = slFree ∧ descField (soD e) 0x14 4 * 4096 < (pipeS 1 []).rf F.PIPE_STASH_SIZE_GIB * 2 ^ 30 ∧
    (pipeS 1 []).openBad (soD e) = false ∧ (pipeS 1 []).ctxRefused (descField (soD e) 0x10 4) (bit e 0) = none ∧ bit (descField (soD e) 5 1) 3 = false ∧ (pipeS 1 []).inPort (descField (soD e) 4 1) = some 2 ∧
    ((pipeS 1 []).request 4 32 (slotOwner 1023 false)).1 = .granted 70000 := by decide +kernel
/-- An output of micro-batch 77 kept for a hand-off. -/
def handS (l : List OutX) : State := let s := pipeS 1 []; { s with pipe := { s.pipe with outbox := l }, casket := { s.casket with grants := [⟨6, 70200, 2, none, outOwner 0x10 false⟩] } }
def handO : OutX := ⟨4, 77, 0, 0x10, [], 70200⟩
theorem witness_SlotOpen_local : (let s := pipeS 0 []; s.issues 0 (soD 0) && slotOpenDecode (soD 0) && s.slotState 1023 == slFree && decide (5 * 4096 < s.rf F.PIPE_STASH_SIZE_GIB * 2 ^ 30) && !s.openBad (soD 0) && (s.ctxRefused 9 false).isNone && (s.inPort 0).isNone &&
    (match (s.request 6 32 (slotOwner 1023 false)).1 with | .granted _ => true | _ => false)) = true := by decide +kernel
theorem witness_SlotOpen_handOff : ([[], [handO]].all (fun l => let s := handS l; s.issues 0 (soD 8) && slotOpenDecode (soD 8) && s.slotState 1023 == slFree && !s.openBad (soD 8) && (s.ctxRefused 9 false).isNone && bit (descField (soD 8) 5 1) 3 &&
    (s.pipe.outbox.find? (fun o => o.port == 4 && o.mb == descField (soD 8) 0xA 2 && o.vstage == descField (soD 8) 4 1)) == l.head?)) = true := by decide +kernel
theorem witness_SlotOpen_refused : slotOpenDecode (desc [(0,5),(1,6)]) = false ∧ (pipeS 1 [(slotFld 1023 0 0 4, slDone)]).slotState (descField (soD 0) 2 2) ≠ slFree ∧ (pipeS 1 [(F.PIPE_STASH_SIZE_GIB, 0)]).rf F.PIPE_STASH_SIZE_GIB * 2 ^ 30 ≤ descField (soD 0) 0x14 4 * 4096 ∧
    (pipeS 1 [(F.PIPE_STASH_SIZE_GIB, 0)]).issues 0 (soD 0) = true := by decide +kernel

/-- A step with one round started: forward or backward, of virtual stage 0, micro-batches 77 and 78. -/
def roundImg (dir : Nat) : List Byte := msg 72 [(8, 1), (0x14, 64), (64, dir), (65, 2), (66, 77)]
/-- Slot 3 in a state, with micro-batch 77 and a buffer of its stream. -/
def slotS (stage st : Nat) (l : List (Fld × Nat)) : State :=
  let s := pipeS stage ([(slotFld 3 0 0 4, st), (slotFld 3 3 0 8, 3), (slotFld 3 8 0 16, 77), (slotFld 3 4 0 32, 6), (slotFld 3 0x10 0 32, 70100), (slotFld 3 0x14 0 32, 2), (slotFld 3 0x18 0 12, 99), (slotFld 3 0x1C 0 32, 0xFFFFFFFF)] ++ l)
  { s with casket := { s.casket with grants := [⟨4, 70100, 32, none, slotOwner 3 false⟩] } }
def inRound (dir : Nat) (s : State) : State :=
  { s with front := { s.front with rounds := some (4, 1), graphs := [(4, ⟨[⟨1, 1, roundImg dir⟩], 1⟩)] }, chain := { s.chain with round := 1 } }
def rout : RoundOut := ⟨3, 1, 0, 64, (List.range 1024).map (fun i => BitVec.ofNat 8 i), [0x3F800000, 0xC0400000, 0x41200000]⟩
theorem witness_RoundEnd_codes : (inRound 0 (slotS 1 slFwd [(slotFld 3 2 0 1, 1)])).codesChunk 3 0x12 = false ∧ 100000 ≤ (inRound 0 (slotS 2 slFwd [])).rf F.PIPE_STASH_SIZE_GIB * 2 ^ 30 - (inRound 0 (slotS 2 slFwd [])).rf (slotFld 3 0x14 0 32) * 4096 ∧
    (inRound 0 (slotS 2 slFwd [])).rf (slotFld 3 2 2 1) = 0 := by decide +kernel
theorem witness_RoundEnd : (inRound 0 (slotS 2 slFwd [(slotFld 3 2 0 1, 1)])).roundEntry 0 = some ((roundImg 0).drop 64) ∧ 0 < (inRound 0 (slotS 2 slFwd [])).chain.round ∧
    ((inRound 0 (slotS 2 slFwd [(slotFld 3 2 0 1, 1)])).roundSlots ((roundImg 0).drop 64)).contains 3 = true ∧ (inRound 0 (slotS 2 slFwd [])).nextHop true ((inRound 0 (slotS 2 slFwd [])).rf (slotFld 3 1 0 3)) = none ∧
    (inRound 1 (slotS 0 slBwd [])).nextHop false ((inRound 1 (slotS 0 slBwd [])).rf (slotFld 3 1 0 3)) = none ∧
    (inRound 0 (slotS 1 slFwd [(slotFld 3 2 0 1, 1)])).nextHop true ((inRound 0 (slotS 1 slFwd [])).rf (slotFld 3 1 0 3)) = some (3, 0) ∧
    ((inRound 0 (slotS 1 slFwd [(slotFld 3 2 0 1, 1)])).request 6 (ceilDiv rout.data.length 512) (outOwner 3 false)).1 = .granted 70000 := by decide +kernel

def parkD : BitVec 256 := desc [(0, 5), (1, 7), (2, 3), (8, 7)]
def slD (op k : Nat) : BitVec 256 := desc [(0, 5), (1, op), (2, k)]
def full (s : State) : State := s.store (s.bufAddr 3) ((List.range 200).map (fun i => BitVec.ofNat 8 (i + 1)))
theorem witness_SlotPark_range : (slotS 1 slStashed [(F.PIPE_PARK_SIZE_GIB, 0)]).rf F.PIPE_PARK_SIZE_GIB * 2 ^ 30 < descField parkD 8 4 * 4096 ∧ (slotS 1 slStashed [(F.PIPE_PARK_SIZE_GIB, 0)]).issues 0 parkD = true := by decide +kernel
theorem witness_SlotPark : controlHeader parkD 7 = true ∧ descField parkD 2 2 = 3 ∧ descField parkD 4 4 = 0 ∧ descZero parkD 0xC 32 = true ∧ (slotS 1 slStashed []).slotState 3 = slStashed ∧
    descField parkD 8 4 * 4096 + (slotS 1 slStashed []).bufBytes 3 ≤ (slotS 1 slStashed []).rf F.PIPE_PARK_SIZE_GIB * 2 ^ 30 ∧ (slotS 1 slStashed []).flag F.CODEC_CFG_PARK = false ∧
    (slotS 1 slDone []).slotState 3 ≠ slReady := by decide +kernel
def parked (sv : Nat) (g : List Grant) : State :=
  let s := slotS 1 slParked [(slotFld 3 0 4 4, sv), (slotFld 3 0x1C 0 32, 7)]
  let s := s.store (2 * 2 ^ 30 + 7 * 4096) ((List.range 200).map (fun i => BitVec.ofNat 8 (i + 1)))
  { s with casket := { s.casket with grants := g } }
theorem witness_SlotResume : controlHeader (slD 8 3) 8 = true ∧ descZero (slD 8 3) 4 32 = true ∧ (parked slStashed []).slotState 3 = slParked ∧
    ((parked slStashed []).request 4 32 (slotOwner 3 false)).1 = .granted 70000 ∧ (parked slStashed []).resumeStream 3 = (4, slotOwner 3 false) ∧
    ((parked slStashed [⟨9, 70000, 20000, none, ow 1⟩]).request 4 32 (slotOwner 3 false)).1 = .waits ∧ (slotS 1 slDone []).slotState (descField (slD 8 3) 2 2) ≠ slParked := by decide +kernel
def resumed (sv : Nat) : State := parked sv [⟨4, 70100, 32, none, slotOwner 3 false⟩]
/-- A slot parked in coded containers that are all raw. -/
def coded (g : List Grant) : State :=
  let s := parked slStashed (⟨4, 70100, 32, none, slotOwner 3 false⟩ :: g)
  (s.wf (F.CASKET_SLOT_STRIPES 14) 8).setSlotX 3 ⟨0, 0, false, 0, 0, 1, [], [(0xFFFF, 0)], none⟩
theorem witness_SlotResumeDone_coded : (let s := coded []; s.slotState 3 == slParked && s.bufBytes 3 == 16384 && !(s.slotX 3).parkGens.isEmpty && s.rf (F.CASKET_SLOT_STRIPES 14) == 8 && (match (s.request 14 8 ⟨.codec, 4096 + 3⟩).1 with | .granted _ => true | _ => false) &&
    ((coded [⟨9, 70132, 19868, none, ow 1⟩, ⟨9, 70000, 100, none, ow 2⟩]).request 14 8 ⟨.codec, 4096 + 3⟩).1 == .waits) = true := by decide +kernel
theorem witness_SlotResumeDone : (resumed slStashed).slotState 3 = slParked ∧ (resumed slStashed).bufBytes 3 = 16384 ∧
    (State.readRange ((resumed slStashed).parkAddr 3) 16384 ((resumed slStashed).slotX 3).parkGens (16384 / 1048576 + 1) 0 (resumed slStashed)).1.isSome = true := by decide +kernel
theorem witness_SlotClose : controlHeader (slD 9 3) 9 = true ∧ descField (slD 9 3) 2 2 = 3 ∧ descZero (slD 9 3) 4 32 = true ∧ (slotS 1 slDone []).slotState 3 = slDone ∧ (slotS 1 slReady []).slotState 3 ≠ slDone := by decide +kernel

theorem crc_zeros_0 : (List.replicate 64 (0 : Byte)).foldl crcByte 4294967295 = 4231468184 := by decide +kernel
theorem crc_zeros_1 : (List.replicate 64 (0 : Byte)).foldl crcByte 4231468184 = 4158167844 := by decide +kernel
theorem crc_zeros_2 : (List.replicate 64 (0 : Byte)).foldl crcByte 4158167844 = 2345306063 := by decide +kernel
theorem crc_zeros_3 : (List.replicate 64 (0 : Byte)).foldl crcByte 2345306063 = 1200442991 := by decide +kernel
theorem crc_zeros_4 : (List.replicate 64 (0 : Byte)).foldl crcByte 1200442991 = 64332339 := by decide +kernel
theorem crc_zeros_5 : (List.replicate 64 (0 : Byte)).foldl crcByte 64332339 = 1158271177 := by decide +kernel
theorem crc_zeros_6 : (List.replicate 64 (0 : Byte)).foldl crcByte 1158271177 = 3425213895 := by decide +kernel
theorem crc_zeros_7 : (List.replicate 64 (0 : Byte)).foldl crcByte 3425213895 = 3473084991 := by decide +kernel
theorem crc_zeros : crc32c (List.replicate 512 0) = 821882304 := by
  have h : List.replicate 512 (0 : Byte) = List.replicate 64 0 ++ List.replicate 64 0 ++ List.replicate 64 0 ++ List.replicate 64 0 ++ List.replicate 64 0 ++ List.replicate 64 0 ++ List.replicate 64 0 ++ List.replicate 64 0 := by decide +kernel
  rw [crc32c, h]
  simp only [List.foldl_append]
  rw [show (0xFFFFFFFF : Nat) = 4294967295 from rfl, crc_zeros_0, crc_zeros_1, crc_zeros_2, crc_zeros_3, crc_zeros_4, crc_zeros_5, crc_zeros_6, crc_zeros_7]
  decide
/-- A chunk of 512 zero bytes for micro-batch 77: chunk i of n, of a step, to a module. -/
def chunk (i n step dst : Nat) : List Byte :=
  let h := msg 56 [(0, 0x0100), (2, 0x10), (3, 1), (4, step), (8, 77), (0xB, if i + 1 = n then 2 else 0), (0xC, i), (0xE, n), (0x10, 512), (0x17, 1), (0x1C, dst - 32), (0x1E, dst), (0x28, 821882304)]
  h ++ natLe (crc32c h) 4 ++ natLe 0 4 ++ List.replicate 512 0
theorem witness_PipeChunkOk : chunkOk ((slotS 1 slOpen []).rf (F.PIPE_STATUS_VER 0)) (chunk 0 1 6 32) = true := by decide +kernel
theorem witness_PipeChunkCrc : leAt (chunk 0 1 6 32) 0x28 4 = crc32c (List.replicate 512 0) ∧ (chunk 0 1 6 32).drop 64 = List.replicate 512 0 := by
  rw [crc_zeros]; decide +kernel
theorem witness_PipeChunkFirst : (slotS 1 slOpen []).firstChunk 2 (chunk 0 1 6 32) = true ∧ (slotS 1 slOpen []).traces 5 = false ∧
    ((slotS 1 slOpen []).setLink 2 { LinkX.reset with handedOn := [(5, [1])] }).firstChunk 2 (chunk 0 1 6 32) = false ∧ (slotS 1 slOpen []).slotFor 6 78 0 0x10 = none := by decide +kernel
/-- A gradient chunk of 512 zero bytes. -/
def gchunk (last : Nat) : List Byte :=
  let h := msg 56 [(0, 0x0100), (2, 0x11), (3, 1), (4, 6), (8, 77), (0xB, 2 * last), (0xE, 2 - last), (0x10, if last = 1 then 512 else 1048576 + 512), (0x17, 1), (0x1C, 64), (0x1E, 32), (0x28, 821882304)]
  h ++ natLe (crc32c h) 4 ++ natLe 0 4 ++ List.replicate 512 0
theorem witness_GradChunk : (let s := slotS 1 slStashed []; let u := gchunk 1; chunkOk 0x0100 u && s.rf (F.PIPE_STATUS_VER 1) == 0x0100 && s.firstChunk 3 u && leAt u 0x1E 2 == s.rf F.SETUP_IDENT_MODULE_ID && leAt u 4 4 == s.rf F.CHAIN_STEP_STEP && s.slotFor 6 77 0 0x11 == some 3 &&
    s.slotNext 3 0x11 == 0 && leAt u 0x28 4 == 821882304 && s.slotState 3 == slStashed && !s.hasGradBuffer 3 && (u.drop 64).length == 512 && (match (s.request 5 32 (slotOwner 3 true)).1 with | .granted a => decide (a < 2 ^ 32) | _ => false)) = true := by decide +kernel
theorem witness_GradChunk_more : bit (leAt (gchunk 0) 0xB 1) 1 = false ∧ bit (leAt (gchunk 1) 0xB 1) 1 = true := by decide +kernel
theorem witness_PipeChunkRx : leAt (chunk 0 1 6 32) 0x1E 2 = (slotS 1 slOpen []).rf F.SETUP_IDENT_MODULE_ID ∧
    (slotS 1 slOpen []).slotFor 6 77 0 0x10 = some 3 ∧ (slotS 1 slOpen []).slotNext 3 0x10 = 0 ∧ ((chunk 0 1 6 32).drop 64).length ≤ (slotS 1 slOpen []).bufBytes 3 ∧
    ((slotS 1 slFilling []).setSlotX 3 ⟨0x10, 2, false, 0, 0, 1, [], [], none⟩).slotNext 3 0x10 = 2 ∧ chunkOk 0x0100 (chunk 1 3 6 32) = false := by decide +kernel

def ox : OutX := ⟨3, 77, 0, 0x12, [[1, 2, 3]], 70200⟩
def outS (l : List OutX) : State := let s := pipeS 1 []; { s with pipe := { s.pipe with outbox := l }, casket := { s.casket with grants := [⟨6, 70200, 2, none, outOwner 3 false⟩] } }
def xm : List Byte := msg 32 [(0x10, 77), (0x13, 0x12)]
theorem witness_XferAck : (outS [ox]).msgRefused 3 xm = false ∧ (outS [ox]).pipe.outbox.find? (fun o => o.port == 3 && o.mb == leAt xm 0x10 2 && o.vstage == leAt xm 0x12 1 && o.kind == leAt xm 0x13 1) = some ox := by decide +kernel


/-! ### The Chain -/

/-- A member at position 1 of an arc of three, in step 6, with one round, and some fields. -/
def arc3 (l : List (Fld × Nat)) : State :=
  let s := gs 3 ([(F.SETUP_IDENT_POS, 1), (F.SETUP_IDENT_MODULE_ID, 1), (F.CHAIN_STEP_STEP, 6), (F.CHAIN_MEMBER_STATE, memMember), (F.CHAIN_BEAD_VER_ACTIVE, 0x0100), (F.CHAIN_CTRL_EN 0, 1), (F.CHAIN_CTRL_EN 1, 1), (F.LINK_STATUS_STATE 0, 6), (F.LINK_STATUS_STATE 1, 6)] ++ l)
  { s with front := { s.front with rounds := some (4, 1), graphs := [(4, ⟨[⟨1, 1, roundImg 0⟩], 1⟩)] }, locket := { s.locket with key0 := some (List.replicate 32 7) } }
def busy (s : State) : State := { s with chain := { s.chain with waiting := [(0, 1, 0)] } }
theorem witness_RoundStart : (arc3 []).grad.closed = false ∧ ({ arc3 [] with grad := { State.reset.grad with closed := true } } : State).grad.closed = true ∧ (arc3 []).roundEntry (arc3 []).chain.round = some ((roundImg 0).drop 64) ∧ (arc3 []).chain.waiting = [] ∧ (arc3 []).chain.fetching = [] ∧ (arc3 []).rf F.CHAIN_MEMBER_STATE = memMember ∧
    (arc3 []).rf F.FRONT_STATUS_STEP ≤ stepDrain ∧ (busy (arc3 [])).chain.waiting ≠ [] := by decide +kernel

/-- A weight Bead of id 9 with 512 bytes: step, sequence, hop, origin, target, arc. -/
def bead0 (step seq hop origin target arc : Nat) : List Byte :=
  bdRoute (bdHead 0x0100 1 0 9 0 0 0 512 origin arc 0 0 5 0 0 0 ++ natLe 0 20 ++ (List.range 512).map (fun i => BitVec.ofNat 8 i) ++ List.replicate 16 3) step 5 seq 0 hop origin target
/-- A Bead of the proxied position 2 as it is stored: one payload byte under a good tag. -/
def sealedBead : List Byte :=
  let h := bdHead 0x0100 1 0 9 0 0 0 1 2 0 0 0 5 0 0 0
  let x := gcmSeal (List.replicate 32 7) (bdIv h) (bdAad h) [0x5A]
  h ++ natLe 0 20 ++ x.1 ++ x.2
def proxyS (n : Nat) : State :=
  let s := arc3 [(F.CHAIN_PROXY_ACTIVE, 1), (F.CHAIN_PROXY_CAMEO_CURRENT, 1), (F.CHAIN_PROXY_FOR_POS, 2), (F.HEALTH_CAMEO_REGION_BASE_GIB, 8), (F.CHAIN_ARC_LEN, n)]
  let s : State := { s with setup := { s.setup with arcBeads := [(1, [be 7]), (2, [be 9])] }, chain := { s.chain with waiting := [(0, 2, 0), (0, 2, 1)], out := if n = 3 then [] else [2] } }
  let s := if n = 2 then s.wf F.CHAIN_ARC_FIRST 1 else s
  s.store (8 * 2 ^ 30) sealedBead
/-- The Bead that BEAD_INJECT sends of it. -/
def sentBead (s : State) : List Byte := bdRoute (s.storedBead (8 * 2 ^ 30)) 6 0 0 0 0 1 0xFF
/-- The hypotheses of the injection, but the Bead's tag, in an arc of n. -/
def injW (n : Nat) : Bool :=
    let s := proxyS n; let u := sentBead s
    (match s.shardOf 2 with | some h => decide (s.workAt h 0 = 8 * 2 ^ 30) && h.beads[0]? == some (be 9) | none => false) && s.arcLen == (if n = 2 then 1 else 3) && (s.exitPort 0).1 == 1 && s.pos == 1 &&
    (match s.request 7 (beadStripes (bdLen u)) (injectOwner u) with
      | (.granted x, v) => !(v.store (stripeAddr x) u).poisonedAt (8 * 2 ^ 30) u.length && (match (v.request (if n = 2 then 2 else 3) (v.landStripes (if n = 2 then 2 else 3) u) (landOwner u)).1 with | .granted _ => true | _ => false)
      | _ => false)
theorem witness_BeadInject : injW 3 = true := by decide +kernel
theorem witness_BeadInject_alone : injW 2 = true := by decide +kernel
theorem witness_BeadInject_opens : ((proxyS 3).openBead ((sentBead (proxyS 3)).take 64) (bdPayload (sentBead (proxyS 3))) (bdTag (sentBead (proxyS 3)))).isSome = true := by decide +kernel
/-- The Bead that BEAD_INJECT reads where memory lists nothing. -/
def zeroBead : List Byte := bdRoute (List.replicate 80 0) 6 0 0 0 0 1 0xFF
/-- A module without a key whose memory lists nothing, with another that holds its Cameo and a place for the landing copy. -/
def fetchS : State :=
  let s := arc3 []
  { s with mem := [], locket := { s.locket with key0 := none }, setup := { s.setup with beads := [be 7], arcBeads := [(0, [be 8]), (2, [be 9])] }, chain := { s.chain with waiting := [(0, 1, 0)] }, casket := { s.casket with grants := [⟨3, 70000, 1, none, landOwner zeroBead⟩] } }
theorem storedBead_zero (s : State) (h : s.mem = []) (a : Nat) : s.storedBead a = List.replicate 80 0 := by
  have e : ∀ a n, s.rbs a n = List.replicate n 0 := fun a n => by
    apply List.ext_getElem (by simp [State.rbs])
    intro i h1 h2
    simp only [State.rbs, List.getElem_map, List.getElem_range, List.getElem_replicate, State.rb, h]
    rfl
  rw [State.storedBead, e, e]
  rfl
theorem witness_BeadFetched : fetchS.shardOf 1 = some fetchS.ownShard ∧ fetchS.ownShard.beads[0]? = some (be 7) ∧ fetchS.storedBead (fetchS.workAt fetchS.ownShard 0) = List.replicate 80 0 ∧
    (let s := fetchS; (s.openBead (zeroBead.take 64) (bdPayload zeroBead) (bdTag zeroBead)).isNone && s.cameoHolder.isSome && s.pos == 1 && (s.exitPort 0).1 == 1 && (match s.request 7 (beadStripes (bdLen zeroBead)) (injectOwner zeroBead) with
      | (.granted x, v) => (v.store (stripeAddr x) zeroBead).poison.isEmpty && (match (v.request 3 (v.landStripes 3 zeroBead) (landOwner zeroBead)).1 with | .granted _ => true | _ => false)
      | _ => false)) = true :=
  ⟨rfl, rfl, storedBead_zero _ rfl _, by decide +kernel⟩
def kvB (back : Option Nat) : KvBlock := ⟨3, 4, 5, true, 2, false, back, 1, 0, 0, [1, 2, 3]⟩
def kvU (s : State) : Option (List Byte) := s.sealBead (s.kvHead (kvB none) 512 false) (pad512 [1, 2, 3])
theorem sealBead_some (s : State) (h pt k : List Byte) (e : s.contentKey (bdKeySlot h) = some k) : (s.sealBead h pt).isSome = true := by
  rw [State.sealBead, e]; rfl
theorem witness_KvBlock : (kvU (arc3 [])).isSome = true := sealBead_some _ _ _ (List.replicate 32 7) (by decide +kernel)
theorem witness_KvBlock_runs : (arc3 []).rf F.CHAIN_MEMBER_STATE = memMember ∧ 1 < (arc3 []).arcLen ∧ (arc3 []).flag F.CODEC_CFG_KV = false ∧ (pad512 (kvB none).data).length = 512 := by decide +kernel
/-- A state with the sequence of position 0's Beads seen up to 3. -/
def seenS : State := let s := arc3 []; { s with chain := { s.chain with seen := [⟨s.seqKey (bead0 6 0 0 0 0xFF 0), [3], []⟩] } }
def rowCases : List (State × List Byte × Nat) :=
  [(arc3 [(F.CHAIN_MEMBER_STATE, memOut)], bead0 6 0 0 0 0xFF 0, 0), (arc3 [(F.CHAIN_BEAD_VER_ACTIVE, 0x0101)], bead0 6 0 0 0 0xFF 0, 1), (arc3 [], bead0 6 0 0 0 0xFF 9, 2), (arc3 [], bead0 6 0 0 5 0xFF 0, 12),
   (arc3 [], bead0 6 0 4 0 0xFF 0, 3), (arc3 [], bead0 5 0 0 0 0xFF 0, 4), (arc3 [(F.FRONT_STATUS_STEP, stepApply)], bead0 6 0 3 0 0xFF 0, 4), (arc3 [], bead0 7 0 3 0 0xFF 0, 5), (seenS, bead0 6 2 0 0 0xFF 0, 6), (arc3 [], bead0 6 0 0 0 0xFF 0, 8), (arc3 [], bead0 6 0 2 0 0xFF 0, 8)]
theorem witness_BeadRow : (rowCases.all (fun c => c.1.beadRow 0 c.2.1 == c.2.2)) = true := by decide +kernel
theorem witness_BeadRx : ([(0, 8), (1, 7)].all (fun c => let s := arc3 []; let u := bead0 6 c.1 0 0 0xFF 0; s.beadRow 0 u == c.2 && s.beadRole u == (true, false, false) && s.beadRole (bead0 6 0 0 0 1 0) == (true, true, false) && bdKind u == 0 &&
    (match s.request (rxStream 0 u) (s.cipherStripes (rxStream 0 u) u false) (cipherOwner u) with | (.granted _, v) => (match (v.request (landStream 0 u) (v.landStripes (landStream 0 u) u) (landOwner u)).1 with | .granted _ => true | _ => false) | _ => false))) = true := by
  decide +kernel
/-- A module that Bead 9 of round 5 comes to late, and one whose stream cannot hold it. -/
def lateRx : State := let s := arc3 []; { s with chain := { s.chain with late := [(9, 5)] } }
def smallRx : State := arc3 [(F.CASKET_SLOT_STRIPES 0, 1)]
theorem witness_BeadRx_lateRefused : lateRx.chain.late.contains (bdId (bead0 6 0 0 0 0xFF 0), bdRound (bead0 6 0 0 0 0xFF 0)) = true ∧ smallRx.beadRow 0 (bead0 6 0 0 0 0xFF 0) = 8 ∧
    (smallRx.request (rxStream 0 (bead0 6 0 0 0 0xFF 0)) (smallRx.cipherStripes (rxStream 0 (bead0 6 0 0 0 0xFF 0)) (bead0 6 0 0 0 0xFF 0) false) (cipherOwner (bead0 6 0 0 0 0xFF 0))).1 = .refused := by decide +kernel
/-- A Bead of arc a, and a module of the next arc whose port 0 carries transit through n units of ring. -/
def tBead (a : Nat) : List Byte := bead0 9 0 0 5 0xFF a
def transitS (n f : Nat) (l : List (Nat × Nat)) (a : Nat) : State :=
  let s := (arc3 [(F.CASKET_TRANSIT_SIZE 0, n), (F.CASKET_TRANSIT_BASE 0, 60), (F.CHAIN_STATUS_TRANSIT 0, f), (F.CHAIN_ARC_ARC_ID, (a + 1) % 32)]).setLink 0 { LinkX.reset with handedOn := [(4, tBead a)] }
  { s with casket := { s.casket with transit0 := l } }
theorem transit_arcs : ∀ a < 32, (bdArc (tBead a) == a && (transitS 1 1 [] a).flag (F.CHAIN_STATUS_TRANSIT 0) && !(transitS 1 1 [] a).closingPort 0 && (transitS 1 1 [] a).rf F.CHAIN_ARC_ARC_ID != a) = true := by decide +kernel
theorem witness_TransitBeadRx : let a := Config.transitArc 0 % 32
    (transitS 1 1 [] a).transits 0 (bdArc (tBead a)) = true ∧ bdArc (tBead a) ≠ (transitS 1 1 [] a).rf F.CHAIN_ARC_ARC_ID := by
  have h := transit_arcs (Config.transitArc 0 % 32) (Nat.mod_lt _ (by decide))
  simp only [Bool.and_eq_true, beq_iff_eq, bne_iff_ne, Bool.not_eq_true'] at h
  obtain ⟨⟨⟨h1, h2⟩, h3⟩, h4⟩ := h
  refine ⟨?_, by rw [h1]; exact fun e => h4 e.symm⟩
  rw [State.transits, h1, h2, State.transitArc, h3]
  simp
theorem witness_TransitRing : (let n := beadStripes (bdLen (tBead 0)); (transitS 1 1 [] 0).ringAt 0 n == some 0 && (transitS 1 1 [(0, 5), (5, 3)] 0).ringAt 0 n == some 8 && (transitS 1 1 [(900, 124)] 0).ringAt 0 n == some 0 && (transitS 0 1 [] 0).ringAt 0 n == none &&
    !(transitS 1 0 [] 0).transits 0 0) = true := by decide +kernel

/-- A landing copy of a Bead of 512 bytes whose stripes hold zeros, with the tag that they have, or another. -/
def goodTag : List Byte := let h := (bead0 6 0 0 0 0xFF 0).take 64; gcmTag (aesKeys (List.replicate 32 7)) (bdIv h) (bdAad h) (List.replicate 512 0)
def land (good : Bool) : Landing := ⟨0, (bead0 6 0 0 0 0xFF 0).take 64, if good then goodTag else [], 70100, none, false, 0, 0⟩
def landS (good : Bool) : State := let s := arc3 []; { s with chain := { s.chain with landings := [{ land true with stripe := 70104, checked := true, port := 1 }, land good] } }
theorem landed_zeros (b : Bool) : (landS b).rbs (stripeAddr 70100) 512 = List.replicate 512 0 := by cases b <;> decide +kernel
theorem openBead_own_tag (s : State) (head ct k : List Byte) (h : s.contentKey (bdKeySlot head) = some k) :
    ∃ pt, s.openBead head ct (gcmTag (aesKeys k) (bdIv head) (bdAad head) ct) = some pt := by
  rw [State.openBead, h]
  simp only [gcmOpen, beq_self_eq_true, if_true]
  exact ⟨xorBytes ct (gcmStream (aesKeys k) (bdIv head) ((ct.length + 15) / 16) 2), rfl⟩
theorem witness_BeadTagCheck : (∃ pt, (landS true).openBead (land true).head ((landS true).rbs (stripeAddr 70100) 512) (land true).tag = some pt) ∧
    (landS true).chain.landings[1]? = some (land true) ∧ bdLen (land true).head = 512 ∧ bdCompressed (land true).head = false ∧ bdKind (land true).head = 0 := by
  refine ⟨?_, rfl, by decide +kernel, by decide +kernel, by decide +kernel⟩
  rw [landed_zeros]
  have h : (land true).tag = gcmTag (aesKeys (List.replicate 32 7)) (bdIv (land true).head) (bdAad (land true).head) (List.replicate 512 0) := by rw [land, if_pos rfl, goodTag]
  rw [h]
  exact openBead_own_tag _ _ _ _ (by decide +kernel)
/-- The landing copy of a gradient Bead with another tag. -/
def gradLand : Landing := { land false with head := [0, 1, 0, 1] ++ ((bead0 6 0 0 0 0xFF 0).take 64).drop 4 }
def gradLandS : State := let s := arc3 []; { s with chain := { s.chain with landings := [gradLand] } }
theorem witness_GradTagFails : gradLandS.openBead gradLand.head (List.replicate 512 0) gradLand.tag = none ∧ bdKind gradLand.head = 1 ∧ gradLand.checked = false ∧ gradLandS.rf F.FRONT_STATUS_STEP ≠ stepHalted := by decide +kernel
theorem gradLand_zeros : gradLandS.rbs (stripeAddr 70100) 512 = List.replicate 512 0 ∧ bdLen gradLand.head = 512 := by decide +kernel
theorem witness_BeadTagFails : (landS false).openBead (land false).head (List.replicate 512 0) (land false).tag = none ∧ (landS false).chain.landings[1]? = some (land false) ∧ bdResent (land false).head = false ∧
    (landS false).chain.asked.contains (bdOrigin (land false).head, bdRound (land false).head, bdSeq (land false).head, bdId (land false).head) = false := by
  refine ⟨by decide +kernel, rfl, by decide +kernel, by decide +kernel⟩
/-- A task that waits on the landing Clasp of Bead 9 in round 2. -/
def lateTask : Task := { task0 with phase := .waiting, wait := .clasp (Config.landingClasp 9 2 % 65536) 1 false false }
def lateN : State := let s := arc3 [(F.CHAIN_LATE_TICKS_TICKS 1, 5), (F.CHAIN_LATE_TICKS_TICKS 0, 0)]; { s with front := { s.front with tasks := [lateTask] } }
theorem witness_BeadLate : lateN.chain.landings = [] ∧ lateN.chain.late.contains (9, 2) = false ∧ lateN.rf (F.CHAIN_LATE_TICKS_TICKS 1) ≠ 0 ∧ lateTask ∈ lateN.front.tasks ∧ lateTask.phase = .waiting ∧ lateTask.wait = .clasp (Config.landingClasp 9 2 % 65536) 1 false false :=
  ⟨rfl, by decide +kernel, by decide +kernel, List.mem_singleton.mpr rfl, rfl, rfl⟩

/-- A message to a module: DST, id, kind, requester. -/
def req (dst id kind who : Nat) : List Byte := msg 32 [(4, 2), (6, dst), (0x10, id), (0x18, kind), (0x1A, who)]
def heldN (v : Nat) : State := (proxyS 3).wf F.HEALTH_CAMEO_STATUS_HELD_VALID v
def resU (s : State) : List Byte := bdRoute (s.storedBead (8 * 2 ^ 30)) 6 0 0 4 0 1 2
theorem witness_ResendServed : (let s := proxyS 3; let u := resU s; leAt (req 1 9 0 2) 0x18 1 == 0 && decide ((s.exitPort (bdInjected u)).1 < 2) && (match (s.request 7 (beadStripes (bdLen (s.outward u))) (injectOwner u)).1 with | .granted _ => true | _ => false)) = true := by decide +kernel
theorem witness_SendChunk : (((proxyS 3).sealBead (bdHead ((proxyS 3).rf F.CHAIN_BEAD_VER_ACTIVE) 0 4 (3 * 2 ^ 30) 0 0 0 512 1 ((proxyS 3).rf F.CHAIN_ARC_ARC_ID) (proxyS 3).locket.encSlot 0 6 1 0xFFFD 0) (pad512 [1])).isSome) = true ∧ (proxyS 3).portTo 2 < 4 :=
  ⟨sealBead_some _ _ _ (List.replicate 32 7) (by decide +kernel), by decide +kernel⟩
theorem witness_ResendReq : (proxyS 3).msgRefused 0 (req 1 9 0 2) = false ∧ msgDst (req 1 9 0 2) = (proxyS 3).rf F.SETUP_IDENT_MODULE_ID ∧ msgDst (req 2 9 0 2) ≠ (proxyS 3).rf F.SETUP_IDENT_MODULE_ID ∧
    (proxyS 3).shards.find? (fun h => h.beads.any (fun e => e.id == leAt (req 1 9 0 2) 0x10 4)) = (proxyS 3).proxyShard ∧ (proxyS 3).proxyShard.isSome = true ∧ (proxyS 3).findBead 9 = some (2, 0, be 9) ∧
    (heldN 1).flag F.HEALTH_CAMEO_STATUS_HELD_VALID = true ∧ (heldN 0).flag F.HEALTH_CAMEO_STATUS_HELD_VALID = false := by
  refine ⟨by decide +kernel, by decide +kernel, by decide +kernel, rfl, by decide +kernel, by decide +kernel, by decide +kernel, by decide +kernel⟩

def joinS (st : Nat) (l : List (Fld × Nat)) : State := arc3 ([(F.SETUP_STATE_STATE, 10), (F.CHAIN_MEMBER_STATE, st), (F.CHAIN_CAP_MAJOR 0, 1), (F.CHAIN_CAP_MINOR_MIN 0, 0), (F.CHAIN_CAP_MINOR_MAX 0, 1)] ++ l)
def ranges : List (Nat × Nat × Nat) := [(0, 0x100, 0x100), (2, 0x100, 0x101), (7, 5, 5)]
theorem witness_JoinNegotiate : ((List.range 2).all (fun p => (joinS memOut []).lk p != lkTrain && (joinS memOut []).lk p != lkAlign && (joinS memOut []).lk p != lkExchange) && (joinS memMember []).rf F.CHAIN_MEMBER_STATE != memOut && let s := joinS memNegotiating []
    let all := fun (l : List (Nat × Nat × Nat)) => (s.pos, s.beadLow, s.beadHigh) :: l.filter (fun e => s.arcPositions.contains e.1 && e.1 != s.pos)
    (joinS memOut []).lk 0 == lkUp && s.arcPositions.contains s.pos && negotiate 0 0 4 (all ranges) == (some 0x100, [1, 0, 2]) && s.keyed && s.pieces.length == 1 &&
    negotiate 0 0 3 (all [(0, 5, 6)]) == (some 6, [0]) && negotiate 0 0 3 (all [(0, 0x200, 0x201)]) == (some 0x101, [1])) = true := by decide +kernel

/-! ### The boundary -/

/-- A module whose boundary is armed at Clasp 40 and target 2, its step in a state. -/
def bnd (st : Nat) (l : List (Fld × Nat)) : State :=
  let s := mk ([(F.FRONT_STATUS_STEP, st), (F.FRONT_STATUS_ARMED, 1), (F.FRONT_BOUNDARY_CLASP, 40), (F.FRONT_BOUNDARY_TARGET_TARGET, 2), (F.CLASP_VALUE_VALUE 40, 2), (F.CLASP_VALUE_VALUE 41, 9), (F.CLASP_FLAG_OVF 41, 1), (F.CLASP_FLAG_RESIDENT 42, 1), (F.CLASP_VALUE_VALUE 42, 7), (F.CHAIN_STEP_STEP, 2^32 - 1), (F.LOUPE_VAR_STEP_COUNT, 5), (F.HANDLE_D_GEN 3 5, 8), (F.HANDLE_ARR_ARR 3 5, 8), (F.FMT_VERDICT_SKIP, 1)] ++ l)
  { s with front := { s.front with armed := some (3, 0) }, casket := { s.casket with grants := [⟨4, 70000, 2, none, ow 1⟩] } }
theorem witness_Aborted : (∀ c ∈ (bnd stepAborted []).cores, c.1 < 384) ∧ (bnd stepDrain []).rf F.FRONT_STATUS_STEP = stepDrain := by decide +kernel
theorem witness_Boundary : (bnd stepRun []).boundaryMet = true ∧ (bnd stepRun [(F.CLASP_VALUE_VALUE 40, 1)]).boundaryMet = false ∧ (bnd stepDrain []).drained = true ∧ (bnd stepDrain []).setup.amendments = [] ∧
    ({ bnd stepDrain [] with migration := some ⟨0, 0, 1, 0⟩ } : State).drained = false ∧ SMap.wf regReset (bnd stepRun []).regs = true ∧ (bnd stepApply []).pcie.held = [] ∧ (bnd stepApply []).clasp.future = [] ∧
    (bnd stepApply []).locket.switchPending = false ∧ (bnd stepAborted []).migration = none := by decide +kernel

/-! ### Rules of one command or one format -/

/-- An emergency: the pace above its floor, and a limit below what the module draws. -/
def emS (e : Nat) : State := mk [(F.POWER_STATUS_EMERGENCY, e), (F.POWER_CFG_FLOOR, 0x5000), (F.POWER_PACE_NOW_P, 0x6000), (F.POWER_BUDGET_WATTS, 100), (F.POWER_PIN_WATTS, 20000)]
theorem witness_Emergency : (emS 1).flag F.POWER_STATUS_EMERGENCY = true ∧ (emS 0).powerLimit < (emS 0).rf F.POWER_PIN_WATTS ∧ (emS 0).rf F.POWER_CFG_FLOOR < (emS 0).rf F.POWER_PACE_NOW_P := by decide +kernel
def forceS (e : Nat) : State := mk [(F.CLASP_CTRL_DEBUG_EN, e), (F.CLASP_FORCE_NUM_NUM, 65535), (F.CLASP_VALUE_VALUE 65535, 4), (F.CLASP_FLAG_OVF 65535, 1)]
theorem witness_Force : (forceS 1).flag F.CLASP_CTRL_DEBUG_EN = true ∧ (forceS 0).flag F.CLASP_CTRL_DEBUG_EN = false := by decide +kernel
theorem witness_Scales : (elemFp 5).isSome = true ∧ blockLen 5 ≠ 0 ∧ (elemFp 9).isSome = true ∧ blockLen 9 ≠ 0 := by decide +kernel


end Sys2Proof.Tests
end

section
/-! SUPPORT. Register accesses from the host (R8 to R10): a word taken field by field, what a plain write leaves in the register it names and
in the others, and the two obligations of the family: what REG_WRITE does, and the two halves of a pair. -/

namespace Sys2Proof.Laws

open Sys2Proof.Machine

/-! ### A word taken field by field -/

theorem insertBits_bits_self (x lo w : Nat) : insertBits x lo w (bits x lo w) = x := by
  apply Nat.eq_of_testBit_eq
  intro i
  rw [testBit_insertBits, testBit_bits]
  split
  · next h =>
    have hw : i - lo < w := by omega
    simp [hw, Nat.add_sub_cancel' h.1]
  · rfl

/-- Two fields of a word that share no bit. -/
abbrev FieldApart (f g : FieldDef) : Prop := f.lo + f.width ≤ g.lo ∨ g.lo + g.width ≤ f.lo

/-- The fields of a row lie in a 32-bit word and share no bit. -/
abbrev RowTidy (r : RegRow) : Prop := (∀ f ∈ r.fields, f.lo + f.width ≤ 32) ∧ r.fields.Pairwise FieldApart

theorem tidy_ite {c : Prop} [Decidable c] {a b : List RegRow} (ha : ∀ r ∈ a, RowTidy r) (hb : ∀ r ∈ b, RowTidy r) :
    ∀ r ∈ (if c then a else b), RowTidy r := by
  split <;> assumption

/-- Every row of the map, block by block: the fields of each are a fact of its table. -/
theorem rowsAt_tidy (x : Nat) : ∀ r ∈ rowsAt x, RowTidy r := by
  unfold rowsAt
  repeat' apply tidy_ite
  all_goals decide +kernel

theorem rowTidy_of_rowOf {x : Nat} {r : RegRow} (h : rowOf x = some r) : RowTidy r :=
  rowsAt_tidy x r (List.mem_of_find?_eq_some h)

/-- Word a with each field of a list put to what `new` makes of the field's bits. -/
def mapFields (new : FieldDef → Nat → Nat) (fs : List FieldDef) (a : Nat) : Nat :=
  fs.foldl (fun a f => insertBits a f.lo f.width (new f (bits a f.lo f.width))) a

theorem mapFields_lt (new : FieldDef → Nat → Nat) (fs : List FieldDef) (a : Nat) (fit : ∀ f ∈ fs, f.lo + f.width ≤ 32) (ha : a < 2 ^ 32) :
    mapFields new fs a < 2 ^ 32 := by
  induction fs generalizing a with
  | nil => exact ha
  | cons f fs ih => exact ih _ (fun g hg => fit g (List.mem_cons_of_mem _ hg)) (insertBits_lt _ _ _ _ 32 ha (fit f List.mem_cons_self))

/-- A field apart from every field of the list keeps its bits. -/
theorem bits_mapFields_apart (new : FieldDef → Nat → Nat) (fs : List FieldDef) (a : Nat) (f : FieldDef) (h : ∀ g ∈ fs, FieldApart f g) :
    bits (mapFields new fs a) f.lo f.width = bits a f.lo f.width := by
  induction fs generalizing a with
  | nil => rfl
  | cons g fs ih =>
    calc bits (mapFields new fs (insertBits a g.lo g.width _)) f.lo f.width
        = bits (insertBits a g.lo g.width (new g (bits a g.lo g.width))) f.lo f.width := ih _ (fun k hk => h k (List.mem_cons_of_mem _ hk))
      _ = bits a f.lo f.width := bits_insertBits_other _ _ _ _ _ _ (h g List.mem_cons_self)

/-- A field of the list reads as put, once, whatever the fields beside it were put to. -/
theorem bits_mapFields_mem (new : FieldDef → Nat → Nat) (fs : List FieldDef) (a : Nat) (apart : fs.Pairwise FieldApart) (f : FieldDef) (hf : f ∈ fs) :
    bits (mapFields new fs a) f.lo f.width = new f (bits a f.lo f.width) % 2 ^ f.width := by
  induction fs generalizing a with
  | nil => exact absurd hf List.not_mem_nil
  | cons g fs ih =>
    obtain ⟨hg, hfs⟩ := List.pairwise_cons.1 apart
    rcases List.mem_cons.1 hf with rfl | hf
    · exact (bits_mapFields_apart new fs _ f hg).trans (bits_insertBits_same _ _ _ _)
    · have hb := bits_insertBits_other a g.lo g.width (new g (bits a g.lo g.width)) f.lo f.width (hg f hf).symm
      exact (ih _ hfs hf).trans (by rw [hb])

/-! ### The access codes (R9, R10) -/

/-- What a plain write of the bits `new` makes of a field's bits `old`. -/
def writtenBits (new : Nat) (f : FieldDef) (old : Nat) : Nat :=
  if f.own then old
  else match f.acc with
    | .rw => new
    | .w1c => old &&& (2 ^ f.width - 1 - new)
    | .w1s => old ||| new
    | _ => old

theorem writeField_eq_insertBits (a v : Nat) (f : FieldDef) :
    writeField a v f = insertBits a f.lo f.width (writtenBits (bits v f.lo f.width) f (bits a f.lo f.width)) := by
  unfold writeField writtenBits
  split
  · rw [insertBits_bits_self]
  · cases f.acc <;> simp only [insertBits_bits_self]

theorem writeWord_eq_mapFields (r : RegRow) (old v : Nat) :
    writeWord r old v = mapFields (fun f => writtenBits (bits v f.lo f.width) f) r.fields old := by
  simp only [writeWord, mapFields, writeField_eq_insertBits]

theorem writtenBits_lt {new old : Nat} {f : FieldDef} (hn : new < 2 ^ f.width) (ho : old < 2 ^ f.width) : writtenBits new f old < 2 ^ f.width := by
  unfold writtenBits
  split
  · exact ho
  · split
    · exact hn
    · exact Nat.lt_of_le_of_lt Nat.and_le_left ho
    · exact Nat.or_lt_two_pow ho hn
    · exact ho

theorem bits_writeWord {r : RegRow} (ht : RowTidy r) (old v : Nat) {f : FieldDef} (hf : f ∈ r.fields) :
    bits (writeWord r old v) f.lo f.width = writtenBits (bits v f.lo f.width) f (bits old f.lo f.width) := by
  rw [writeWord_eq_mapFields, bits_mapFields_mem _ _ _ ht.2 f hf, Nat.mod_eq_of_lt (writtenBits_lt (bits_lt _ _ _) (bits_lt _ _ _))]

theorem writeWord_lt {r : RegRow} (ht : RowTidy r) (old : Word) (v : Nat) : writeWord r old.toNat v < 2 ^ 32 := by
  rw [writeWord_eq_mapFields]
  exact mapFields_lt _ _ _ ht.1 old.isLt

/-! ### A plain write -/

theorem mem_of_recorded {s t : State} (h : Recorded s t) : t.mem = s.mem := by
  have e := congrArg State.mem h.rest
  exact e

theorem recorded_msixRelease (s : State) (n : Nat) (h : n < 64) : Recorded s (s.msixRelease n) := by
  unfold State.msixRelease
  exact recorded_ite ((recorded_wf _ _ (bookkeeping_pba n h)).trans (recorded_toHost _)) (Recorded.refl s)

theorem recorded_afterWrite (s : State) (x : Nat) : Recorded s (s.afterWrite x) := by
  unfold State.afterWrite
  split
  · exact recorded_msixRelease s _ (by omega)
  · exact Recorded.refl s

/-- The message that a cleared mask lets go (R388) leaves the register of the mask alone. -/
theorem rd_afterWrite_self (s : State) (x : Nat) : (s.afterWrite x).rd x = s.rd x := by
  unfold State.afterWrite
  split
  · next h =>
    refine (recorded_msixRelease s _ (by omega)).rd x ?_
    have : x < 0x01400000 ∧ x ≠ 0x01495440 ∧ x ≠ 0x00102000 ∧ x ≠ 0x00102004 := by omega
    simp [bookkeeping, this, Nat.not_le.2 this.1]
  · rfl

@[simp] theorem rd_bufferWrite (s : State) (x : Nat) (v : Word) (y : Nat) : (s.bufferWrite x v).rd y = s.rd y := by
  unfold State.bufferWrite
  split <;> rfl

@[simp] theorem bufferWrite_mem (s : State) (x : Nat) (v : Word) : (s.bufferWrite x v).mem = s.mem := by
  unfold State.bufferWrite
  split <;> rfl

theorem plainWrite_of_reserved {x : Nat} (h : rowOf x = none) (s : State) (v : Word) : s.plainWrite x v = s := by
  simp only [State.plainWrite, h]

theorem plainWrite_of_row {x : Nat} {r : RegRow} (h : rowOf x = some r) (s : State) (v : Word) :
    s.plainWrite x v =
      ((s.bufferWrite x v).wr x (BitVec.ofNat 32 (writeWord r (s.rd x).toNat (refuseValue x (s.rd x).toNat v.toNat)))).afterWrite x := by
  simp only [State.plainWrite, h]

theorem rd_plainWrite_same {x : Nat} {r : RegRow} (h : rowOf x = some r) (s : State) (v : Word) :
    ((s.plainWrite x v).rd x).toNat = writeWord r (s.rd x).toNat (refuseValue x (s.rd x).toNat v.toNat) := by
  rw [plainWrite_of_row h, rd_afterWrite_self, rd_wr_same, BitVec.toNat_ofNat, Nat.mod_eq_of_lt (writeWord_lt (rowTidy_of_rowOf h) _ _)]

theorem rd_plainWrite_other (s : State) (x : Nat) (v : Word) (y : Nat) (hy : y ≠ x) (hb : bookkeeping y = false) :
    (s.plainWrite x v).rd y = s.rd y := by
  cases h : rowOf x with
  | none => rw [plainWrite_of_reserved h]
  | some r => rw [plainWrite_of_row h, (recorded_afterWrite _ x).rd y hb, rd_wr_other _ _ _ _ hy, rd_bufferWrite]

theorem plainWrite_mem (s : State) (x : Nat) (v : Word) : (s.plainWrite x v).mem = s.mem := by
  cases h : rowOf x with
  | none => rw [plainWrite_of_reserved h]
  | some r => rw [plainWrite_of_row h, mem_of_recorded (recorded_afterWrite _ x), wr_mem, bufferWrite_mem]

/-! ### REG_WRITE (R9, R386) -/

theorem exec_regWrite_of_goes {x : Nat} {s : State} (h : s.writeGoes x true = true) (v : Word) :
    exec (.regWrite x v true) s = .next ((s.traceReg x v).plainWrite x v) := by
  change execRegWrite x v true s = _
  simp only [execRegWrite, h, if_true]

theorem exec_regWrite_of_not_goes {x : Nat} {s : State} (h : s.writeGoes x true = false) (v : Word) :
    exec (.regWrite x v true) s = .next (if x % 4 = 0 then s.earlyWrite x else s) := by
  change execRegWrite x v true s = _
  simp only [execRegWrite, h, Bool.false_eq_true, if_false, Bool.true_and, decide_eq_true_eq]

theorem earlyWrite_of_dieUp {s : State} {x : Nat} (h : s.dieUp x = true) : s.earlyWrite x = s := by
  simp only [State.earlyWrite, h, Bool.true_or, if_true]

theorem earlyWrite_of_no_supply {s : State} {x : Nat} (hd : s.dieUp x = false) (hp : s.pcie.d3hot = false) (hf : s.power.failing = false) :
    s.earlyWrite x = s.raise F.HOSTIF_ERR_EARLY := by
  simp only [State.earlyWrite, hd, hp, hf, Bool.or_false, Bool.false_eq_true, if_false]

theorem earlyWrite_frame (s : State) (x : Nat) : RegsAndRecords [F.HOSTIF_ERR_EARLY.off] s (s.earlyWrite x) := by
  unfold State.earlyWrite
  split
  · exact RegsAndRecords.refl _ s
  · exact and_raise (RegsAndRecords.refl _ s) _ List.mem_cons_self

/-- Settles O7: the write's word is the old one with each field put by its access code, and what follows the write touches only record-keeping registers. -/
theorem registerWriteFollowsAccessCodes : Obligations.RegisterWriteFollowsAccessCodes := by
  unfold Obligations.RegisterWriteFollowsAccessCodes
  refine ⟨fun x v s r hr hg => ?_, fun x v s hr hg => ?_, fun x v s hg => ?_, fun x v s => rfl⟩
  · refine ⟨_, exec_regWrite_of_goes hg v, fun f hf => ?_, rd_plainWrite_other _ x v, plainWrite_mem _ x v⟩
    extract_lets old new now
    have key : now = writtenBits (bits new f.lo f.width) f (bits old f.lo f.width) := by
      simp only [now, rd_plainWrite_same hr]
      exact bits_writeWord (rowTidy_of_rowOf hr) _ _ hf
    rw [key]
    refine ⟨?_, ?_, ?_, ?_, ?_⟩
    · intro ho; simp [writtenBits, ho]
    · intro ho ha; simp [writtenBits, ho, ha]
    · intro ho ha; simp [writtenBits, ho, ha]
    · intro ho ha; simp [writtenBits, ho, ha]
    · rintro (ha | ha | ha) <;> simp [writtenBits, ha]
  · rw [exec_regWrite_of_goes hg, plainWrite_of_reserved hr]
  · refine ⟨_, exec_regWrite_of_not_goes hg v, ?_, fun hx hd hp hf => ?_, fun hd => ?_⟩
    · split
      · exact earlyWrite_frame s x
      · exact RegsAndRecords.refl _ s
    · rw [if_pos hx, earlyWrite_of_no_supply hd hp hf]
      exact rf_raise_self s _ (by decide) (by decide) rfl
    · rw [earlyWrite_of_dieUp hd, ite_self]

/-! ### The halves of a pair (R8) -/

/-- The word a write of v leaves in a _HI register: the written bits in its fields, 0 in the others. -/
def hiWord (r : RegRow) (v : Word) : Word := BitVec.ofNat 32 (mapFields (fun f _ => bits v.toNat f.lo f.width) r.fields 0)

theorem toNat_hiWord {r : RegRow} (ht : RowTidy r) (v : Word) :
    (hiWord r v).toNat = mapFields (fun f _ => bits v.toNat f.lo f.width) r.fields 0 := by
  rw [hiWord, BitVec.toNat_ofNat, Nat.mod_eq_of_lt (mapFields_lt _ _ _ ht.1 (by decide))]

theorem bits_hiWord {r : RegRow} (ht : RowTidy r) (v : Word) {f : FieldDef} (hf : f ∈ r.fields) :
    bits (hiWord r v).toNat f.lo f.width = bits v.toNat f.lo f.width := by
  rw [toNat_hiWord ht, bits_mapFields_mem _ _ _ ht.2 f hf, Nat.mod_eq_of_lt (bits_lt _ _ _)]

theorem pairNow_setPair_same (s : State) (x : Nat) (p : Pair) : (s.setPair x p).pairNow x = p.toNat :=
  congrArg BitVec.toNat (SMap_get_set_same pairReset s.pairs x p)

theorem rd_setPair (s : State) (x : Nat) (p : Pair) (y : Nat) : (s.setPair x p).rd y = s.rd y := rfl

theorem toNat_pair (lo hi : Word) : (BitVec.ofNat 64 (lo.toNat + 2 ^ 32 * hi.toNat) : Pair).toNat = lo.toNat + 2 ^ 32 * hi.toNat := by
  have := lo.isLt
  have := hi.isLt
  rw [BitVec.toNat_ofNat, Nat.mod_eq_of_lt (by omega)]

theorem exec_pairLoRead_of_lo {x : Nat} {s : State} (hx : isPairLo x = true) (hf : s.power.failing = false) :
    exec (.pairLoRead x) s = .next
      ({ s with shadows := SMap.set (fun _ => none) s.shadows (x + 4) (some (s.busRead (x + 4))) }.toHost (.readDone (s.busRead x))) := by
  change execPairLoRead x s = _
  simp only [execPairLoRead, hx, hf, Bool.false_eq_true, if_false, if_true]

theorem exec_pairLoRead_of_hi {x : Nat} {s : State} (hx : isPairLo x = true) (hy : isPairLo (x + 4) = false) (hf : s.power.failing = false) :
    exec (.pairLoRead (x + 4)) s = .next
      ({ s with shadows := SMap.set (fun _ => none) s.shadows (x + 4) none }.toHost
        (.readDone ((SMap.get (fun _ => none) s.shadows (x + 4)).getD (s.busRead (x + 4))))) := by
  change execPairLoRead (x + 4) s = _
  simp [execPairLoRead, hx, hy, hf]

theorem exec_pairHiWrite_of_goes {x : Nat} {s : State} {r : RegRow} (hx : isPairLo x = true) (hr : rowOf (x + 4) = some r)
    (hw : (r.fields.any (fun f => f.acc == .rw)) = true) (hg : s.writeGoes (x + 4) true = true) (v : Word) :
    exec (.pairHiWrite (x + 4) v) s = .next
      (((s.traceReg (x + 4) v).wr (x + 4) (hiWord r v)).setPair x
        (BitVec.ofNat 64 (((s.traceReg (x + 4) v).rd x).toNat + 2 ^ 32 * (hiWord r v).toNat))) := by
  rw [toNat_hiWord (rowTidy_of_rowOf hr), ← rd_wr_other (s.traceReg (x + 4) v) (x + 4) x (hiWord r v) (by omega)]
  change execPairHiWrite (x + 4) v s = _
  simp only [execPairHiWrite, Nat.add_sub_cancel, hx, hg, hr, hw, Nat.le_add_left, decide_true, Bool.and_self, if_true]
  rfl

/-- Settles O8: each half by what its command leaves, the pair in effect being the two registers as they then stand. -/
theorem pairHalvesWorkTogether : Obligations.PairHalvesWorkTogether := by
  unfold Obligations.PairHalvesWorkTogether
  refine ⟨fun x s hx hf => ?_, fun x s hx hy hf => ?_, fun x v s r hx hr hw hg => ?_⟩
  · exact ⟨_, exec_pairLoRead_of_lo hx hf, rfl, SMap_get_set_same _ _ _ _, fun y hy => SMap_get_set_other _ _ _ _ _ hy, rfl⟩
  · refine ⟨_, exec_pairLoRead_of_hi hx hy hf, fun w hw => ?_, fun hn => ?_, SMap_get_set_same _ _ _ _,
      fun y hy => SMap_get_set_other _ _ _ _ _ hy, rfl⟩
    · rw [hw]; rfl
    · rw [hn]; rfl
  · refine ⟨_, exec_pairHiWrite_of_goes hx hr hw hg v, ?_, fun f hf => ?_, fun y hy => rd_wr_other _ _ _ _ hy, rfl⟩
    · rw [pairNow_setPair_same, toNat_pair, rd_setPair, rd_setPair, rd_wr_same, rd_wr_other _ _ _ _ (by omega)]
    · rw [rd_setPair, rd_wr_same]
      exact bits_hiWord (rowTidy_of_rowOf hr) v hf

end Sys2Proof.Laws
end

section
/-! SUPPORT. The step boundary (R23, R24) on a register file out of canonical form: item 7 brings back an entry that lies hidden behind a handle entry's. -/

namespace Sys2Proof.Laws

open Sys2Proof Sys2Proof.Machine

/-- A module whose step has aborted. Its register file is out of order: the entry of CHAIN.STEP, with step 5, stands behind that of GEN of core 0's handle 0, whose
offset is higher, and a read of CHAIN.STEP ends there. -/
def hiddenStep : State :=
  { State.reset with regs := [(F.FRONT_STATUS_STEP.off, BitVec.ofNat 32 stepAborted), ((F.HANDLE_D_GEN 0 0).off, 1), (F.CHAIN_STEP_STEP.off, 5)] }

/-- No state that the module reaches has such a register file (O3, O4). -/
theorem hiddenStep_not_canonical : SMap.wf regReset hiddenStep.regs = false := by decide +kernel

theorem status_hiddenStep : hiddenStep.rf F.FRONT_STATUS_STEP = stepAborted := by decide +kernel

theorem step_hiddenStep : hiddenStep.rf F.CHAIN_STEP_STEP = 0 := by decide +kernel

/-- Item 7 drops the entry of GEN, and what stood behind it is read again. -/
theorem step_item7_hiddenStep : hiddenStep.item7.rf F.CHAIN_STEP_STEP = 5 := by decide +kernel

/-- So the aborted step halts under the number 5, where its own was 0. -/
theorem exec_abortedReleaseDone_hiddenStep : ∃ t : State, exec .abortedReleaseDone hiddenStep = .next t ∧ t.rf F.CHAIN_STEP_STEP = 5 :=
  ⟨_, rfl, by decide +kernel⟩

/-- Refutes O56: an aborted step does not keep its number in every state. The clause does not ask for a register file in canonical form, as that of item 5 does
(`hiddenStep_not_canonical`), and item 7 filters the file: an entry that no read found before may be found after (`step_item7_hiddenStep`). -/
theorem not_boundaryEndsTheStep : ¬ Obligations.BoundaryEndsTheStep := by
  unfold Obligations.BoundaryEndsTheStep
  rintro ⟨-, -, -, -, -, -, abortedHalts⟩
  obtain ⟨t, ht, -, kept, -⟩ := (abortedHalts hiddenStep).1 status_hiddenStep rfl
  obtain ⟨u, hu, five⟩ := exec_abortedReleaseDone_hiddenStep
  obtain rfl : t = u := by
    rw [ht] at hu
    cases hu
    rfl
  rw [step_hiddenStep, five] at kept
  exact absurd kept (by decide)

end Sys2Proof.Laws
end
